-- ==== Sys2Proof/Word.lean ====
section
/-! DEFINITION. The word of the register window (R6) and the byte. -/

namespace Sys2Proof

/-- A register word: 32 bits, little-endian, accessed whole (R6). -/
abbrev Word := BitVec 32

/-- One byte of a surface, a record, a packet or a memory. -/
abbrev Byte := BitVec 8

end Sys2Proof
end

