-- ==== Sys2Proof/Syntax.lean ====
section
/-! DEFINITION. The commands the block takes. -/

namespace Sys2Proof

/-- Who makes a register access: the host over the Pelzon link, JTAG, or Newt engine e (R93, R230). -/
inductive Accessor where
  | host
  | jtag
  | engine (e : Nat)
  deriving DecidableEq, Repr

/-- One object record (R100): class, flags, and the centre, size, motion and time offset as signed numbers in the
record's own units. -/
structure ObjRec where
  id : Nat := 0
  cls : Nat := 0
  valid : Bool := true
  noMotion : Bool := false
  conf : Nat := 0
  h : Int := 0
  v : Int := 0
  hw : Int := 0
  hh : Int := 0
  vh : Int := 0
  vv : Int := 0
  ah : Int := 0
  av : Int := 0
  dw : Int := 0
  dh : Int := 0
  tofs : Int := 0
  deriving DecidableEq, Repr

/-- What an engine did in the tick that ends: cycles used, and the first ESSENTIAL item unfinished (R92, R123). -/
structure EngReport where
  engine : Nat
  cycles : Nat
  unfinished : Option Nat
  deriving DecidableEq, Repr

/-- The readback signature an emitter die returns in the bask (R144): the value its own rows give, another value, or
none. -/
inductive Readback where
  | held
  | value (v : Nat)
  | missing
  deriving DecidableEq, Repr

/-- The sync states of R48, numbered as TCK_SYNC_STAT.STATE. -/
inductive SyncMode where
  | solo | acquire | locked | holdover | master
  deriving DecidableEq, Repr

/-- What a descriptor carries beside its opcode: the ring and slot it stands in, the flags and cookie of word 0 and
the arguments, words 1–7 (R247, R252). -/
structure Desc where
  ring : Nat
  slot : Nat
  rsvd : Nat := 0
  fence : Bool := false
  hint : Bool := false
  cookie : Nat := 0
  args : List Nat
  deriving DecidableEq, Repr

/-- A packet the device sends on the uplink (R274, R280). -/
inductive UpPacket where
  | write (addr : Nat) (words : List Nat)
  | read (tag addr words : Nat)
  | cpl (tag offset : Nat) (last : Bool) (words : List Nat)
  | cple (tag err : Nat)
  | msg (code : Nat) (words : List Nat)
  deriving DecidableEq, Repr

/-- Equalisation settings of a downlink lane as training leaves them (R265, R298): eye height in 4 mV, CTLE, DFE taps. -/
structure LaneEq where
  lane : Nat
  eye : Nat
  ctle : Nat
  taps : Nat
  deriving DecidableEq, Repr

/-- Readings of one kind: what each place reads, `base` unless listed (R164–R170). -/
structure Readings where
  base : Nat := 0
  odd : List (Nat × Nat) := []
  deriving DecidableEq, Repr

/-- The reading at place k. -/
def Readings.at' (r : Readings) (k : Nat) : Nat :=
  match r.odd.find? (fun p => p.1 == k) with
  | some p => p.2
  | none => r.base

/-- A JTAG instruction (R393): a register read or write under R230, boundary scan with the lands EXTEST drives, an
internal scan chain or test mode. -/
inductive JtagOp where
  | idcode
  | bypass
  | read (off : Nat)
  | write (off value : Nat)
  | sample
  | extest (lands : Nat)
  | scan (chain : Nat)
  deriving DecidableEq, Repr

/-- A lane whose comparators and taps power-up calibration measured, 0–6 as in R228, then lanes 0–2 of the pixel bus of
die A and of die B as 7–12: the trims needed, before they
are held to their range (R222, R224). -/
structure LaneCal where
  lane : Nat
  data : Int
  err : Int
  taps : List Int
  deriving DecidableEq, Repr

/-- What start-up finds (R398–R411, R222–R224): rails that were early; flash reads that failed three times, as item and
flash address (items 0–10 factory records, 11 set-up record, 12–13 trim copies, 14–15 map copies, 16–17 health copies, 18
envelope, 19–20 firmware images, 21 Skink image); what a new calibration measures: pixel-bus
attempts where no die failed, the lane each die failed on, Croak latencies, lanes, column DACs (64 * region + column, trim needed), and
current-reference deviations (region, bandgap, neighbour). -/
structure StartIn where
  early : Nat := 0
  fails : List (Nat × Nat) := []
  tries : Nat := 1
  busA : Option Nat := none
  busB : Option Nat := none
  latA : Nat := 0
  latB : Nat := 0
  lanes : List LaneCal := []
  dac : List (Nat × Int) := []
  xc : List (Nat × Int × Int) := []
  sensors : List Int := List.replicate 40 400
  rails : List Nat := [3300, 750, 900, 900, 1200, 1800]
  deriving DecidableEq, Repr

/-- What is wrong with a packet's header, beside its own fields (R274, R280): a reserved TYPE, a message code the link does
not carry, a bit set that is laid down as zero. -/
structure Head where
  type : Option Nat := none
  code : Option Nat := none
  stray : Bool := false
  deriving DecidableEq, Repr

/-- A frame on the CAN bus (R290): its identifier and format bit, CAN FD, bit-rate switching, its data bytes; the receive
errors the controller counted since the last one (R296). -/
structure CanFrame where
  id : Nat
  ide : Bool := false
  fd : Bool := false
  brs : Bool := false
  data : List Nat
  errs : Nat := 0
  deriving DecidableEq, Repr

/-- How a packet reaches the device (R277): intact and in order, with a failing check value, badly framed, or past a gap
in the sequence numbers. -/
inductive Wire where
  | intact | crc | framing | gap
  deriving DecidableEq, Repr

/-- What the block meets at a tick boundary and in the bask that starts with it: the period the safety island measured
and the slack of a ready frame, µs (R37, R50); what the engines did and the object tables they wrote (R92, R93); raw
sensor readings (R196); equalisation settings that adaptation in L0 has changed (R265); when the last Croak reached each die, in cycles from the boundary, and new latencies (R43);
lanes that relocked, as 4 * die + lane (R142); readback (R144); bus use in % (R139); reference deviations in 0.01 % and
bandgap readings in mV by region, as the factory value where none (R152); ECC errors of health words, with true for a double error (R158); forward-voltage,
column-line and neighbour readings (R164–R170); values that self-test patterns of a continuous group, and of a slice, measure
where they are not as expected, by pattern (R382). -/
structure BoundaryIn where
  measUs : Nat := 4000
  slackUs : Nat := 0
  engines : List EngReport := []
  firmware : Option (List ObjRec) := none
  tables : List (Nat × List ObjRec) := []
  sensors : List Int := List.replicate 40 400
  eq : List LaneEq := []
  croakA : Option Int := some 0
  croakB : Option Int := some 0
  latA : Nat := 0
  latB : Nat := 0
  relocked : List Nat := []
  rbA : Readback := .held
  rbB : Readback := .held
  utilA : Nat := 0
  utilB : Nat := 0
  refDev : List (Nat × Int) := []
  bandgap : List (Nat × Int) := []
  ecc : List (Nat × Bool) := []
  forward : Readings := { base := 3000 }
  lines : Readings := {}
  right : Readings := {}
  below : Readings := {}
  groupFails : List (Nat × Nat) := []
  sliceFails : List (Nat × Nat) := []
  deriving DecidableEq, Repr

/-- The commands: one constructor for each row of the opcode table. -/
inductive Instr where
  /-- SURFACE_BIND (R55) -/
  | surfaceBind (d : Desc)
  /-- LAYER_SET (R253) -/
  | layerSet (d : Desc)
  /-- COMMIT (R74) -/
  | commit (d : Desc)
  /-- FADE_LOAD (R71) -/
  | fadeLoad (d : Desc)
  /-- SYMBOL_LOAD (R253) -/
  | symbolLoad (d : Desc)
  /-- OBJECT_LIST (R101) -/
  | objectList (d : Desc)
  /-- BUDGET_SET (R192) -/
  | budgetSet (d : Desc)
  /-- ENVELOPE_LOAD (R119) -/
  | envelopeLoad (d : Desc)
  /-- CAL_USER_WRITE (R216) -/
  | calUserWrite (d : Desc)
  /-- BIST_RUN (R374) -/
  | bistRun (d : Desc)
  /-- RECORDER_READ (R253) -/
  | recorderRead (d : Desc)
  /-- RECORDER_FREEZE (R368) -/
  | recorderFreeze (d : Desc)
  /-- CRC_RUN (R253) -/
  | crcRun (d : Desc)
  /-- RESUME (R314) -/
  | resume (d : Desc)
  /-- STATUS_SNAPSHOT (R254) -/
  | statusSnapshot (d : Desc)
  /-- ENGINE_LOAD (R94) -/
  | engineLoad (d : Desc)
  /-- UNKNOWN_OPCODE (R251) -/
  | unknownOpcode (op : Nat) (d : Desc)
  /-- SYMBOL_LOAD_DONE (R253) -/
  | symbolLoadDone
  /-- ENVELOPE_LOAD_DONE (R119) -/
  | envelopeLoadDone
  /-- CAL_FIRST_PASS_DONE (R216) -/
  | calFirstPassDone
  /-- CAL_SECOND_PASS_DONE (R219) -/
  | calSecondPassDone
  /-- CAL_PROGRAM_DONE (R220) -/
  | calProgramDone (ok : Bool)
  /-- ENGINE_IMAGE_VERIFIED (R97) -/
  | engineImageVerified (e : Nat)
  /-- BIST_TEST_END (R384), with the values measured where they are not as expected, by pattern (R382) -/
  | bistTestEnd (fails : List (Nat × Nat))
  /-- RECORDER_READ_DONE (R253) -/
  | recorderReadDone
  /-- CRC_RUN_DONE (R253) -/
  | crcRunDone
  /-- HEALTH_SAVE_DONE (R161) -/
  | healthSaveDone (ok : Bool)
  /-- REGISTER_WRITE (R9) -/
  | registerWrite (acc : Accessor) (off : Nat) (v : Nat)
  /-- READ_CLEAR (R9) -/
  | readClear (acc : Accessor) (off : Nat)
  /-- BROADCAST_WRITE (R25) -/
  | broadcastWrite (acc : Accessor) (page : Nat) (off : Nat) (v : Nat)
  /-- BROADCAST_READ (R26) -/
  | broadcastRead (acc : Accessor) (page : Nat) (off : Nat)
  /-- TCK_COUNT_LO_READ (R50) -/
  | tckCountLoRead
  /-- TCK_APPLY_GO (R33) -/
  | tckApplyGo (v : Nat)
  /-- SEED_WRITE (R136) -/
  | seedWrite (v : Nat)
  /-- AXL_HDATA_WRITE (R158) -/
  | axlHdataWrite (byEngine : Bool) (v : Nat)
  /-- AXL_HDATA_READ (R158) -/
  | axlHdataRead
  /-- AXL_SAVE_GO (R161) -/
  | axlSaveGo
  /-- RING_ENABLE (R245) -/
  | ringEnable (r : Nat)
  /-- RING_DISABLE (R245) -/
  | ringDisable (r : Nat)
  /-- EVENT_RING_ENABLE (R245) -/
  | eventRingEnable
  /-- EVENT_RING_DISABLE (R245) -/
  | eventRingDisable
  /-- FLT_ACK (R346) -/
  | fltAck (n : Nat)
  /-- FLT_ACK_ALL_S2 (R346) -/
  | fltAckAllS2
  /-- FLT_ACK_ALL_INJ (R346) -/
  | fltAckAllInj
  /-- FLT_INJ_GO (R351) -/
  | fltInjGo
  /-- FLT_SEV_WRITE (R345) -/
  | fltSevWrite (i : Nat) (v : Nat)
  /-- LCS_ADVANCE (R328) -/
  | lcsAdvance (target : Nat) (key : Nat)
  /-- LCS_RETURN (R330) -/
  | lcsReturn
  /-- SESSION_OPEN_PASSWORD (R331) -/
  | sessionOpenPassword (len : Nat)
  /-- SESSION_OPEN_PILOT (R333) -/
  | sessionOpenPilot
  /-- SESSION_CLOSE (R334) -/
  | sessionClose
  /-- SESSION_SET_PASSWORD (R331) -/
  | sessionSetPassword (len : Nat)
  /-- SFT_PILOT_CRC_WRITE (R333) -/
  | sftPilotCrcWrite (v : Nat)
  /-- SFT_FEAT_WRITE (R301) -/
  | sftFeatWrite (v : Nat)
  /-- BST_ABORT (R385) -/
  | bstAbort
  /-- BST_START_GO (R375) -/
  | bstStartGo (num : Nat)
  /-- CRC_START (R390) -/
  | crcStart (u : Nat) (v : Nat)
  /-- CRC_DATA_WRITE (R389) -/
  | crcDataWrite (u : Nat) (n : Nat) (v : Nat)
  /-- CRC_VALUE_WRITE (R390) -/
  | crcValueWrite (u : Nat) (v : Nat)
  /-- CRC_READ (R389) -/
  | crcRead (u : Nat) (result : Bool)
  /-- LNK_RETRAIN (R267) -/
  | lnkRetrain
  /-- LINK_READ_REQUEST (R275) -/
  | linkReadRequest (w : Wire) (h : Head) (tag : Nat) (addr : Nat) (len : Nat)
  /-- LINK_WRITE_REQUEST (R275) -/
  | linkWriteRequest (w : Wire) (h : Head) (addr : Nat) (words : List Nat)
  /-- HOST_READ_COMPLETION (R278) -/
  | hostReadCompletion (w : Wire) (h : Head) (tag : Nat) (off : Nat) (last : Bool) (words : List Nat)
  /-- HOST_READ_ERROR (R244) -/
  | hostReadError (w : Wire) (h : Head) (tag : Nat) (err : Nat)
  /-- HOST_READ_TIMEOUT (R244) -/
  | hostReadTimeout (tag : Nat)
  /-- DESCRIPTOR_RELEASE (R241) -/
  | descriptorRelease (r : Nat)
  /-- CPL_RING_RETRY (R243) -/
  | cplRingRetry (r : Nat)
  /-- CPL_STALL (R243) -/
  | cplStall (r : Nat)
  /-- DOORBELL_HINT (R237) -/
  | doorbellHint (w : Wire) (h : Head) (words : List Nat)
  /-- TICK_MARK (R105) -/
  | tickMark (w : Wire) (h : Head) (words : List Nat)
  /-- SAFETY_COPY (R283) -/
  | safetyCopy (w : Wire) (h : Head) (words : List Nat)
  /-- LLC_BLOCK (R277): the copies on the active lanes, in lane order -/
  | llcBlock (copies : List (List Nat))
  /-- REPLAY_TIMEOUT (R277) -/
  | replayTimeout
  /-- PM_L1_ENTRY (R271): the copies on the active lanes -/
  | pmL1Entry (copies : List (List Nat))
  /-- PM_L2_REQUEST (R272): the copies on the active lanes -/
  | pmL2Request (copies : List (List Nat))
  /-- UPLINK_L1_IDLE (R271) -/
  | uplinkL1Idle
  /-- UPLINK_L1_EXIT (R271) -/
  | uplinkL1Exit
  /-- DOWNLINK_L1_EXIT (R271) -/
  | downlinkL1Exit
  /-- L2_EXIT (R272) -/
  | l2Exit
  /-- L2_EXIT_TIMEOUT (R448) -/
  | l2ExitTimeout
  /-- ECHO_RETURN (R282): the copies on the active lanes, and the round trip measured, ns -/
  | echoReturn (copies : List (List Nat)) (rtt : Nat)
  /-- TRAINING_BLOCK (R264): two consecutive blocks on lane l -/
  | trainingBlock (l : Nat) (first : List Nat) (second : List Nat)
  /-- LANE_SIGNAL_DETECT (R266) -/
  | laneSignalDetect (l : Nat) (mv : Nat)
  /-- LANE_LOSS_OF_SIGNAL (R266) -/
  | laneLossOfSignal (l : Nat) (mv : Nat)
  /-- BLOCK_LOCK_ACQUIRED (R261) -/
  | blockLockAcquired (l : Nat) (inverted : Bool) (deskew : Nat)
  /-- BLOCK_LOCK_LOST (R261) -/
  | blockLockLost (l : Nat)
  /-- TRAINING_PHASE_DONE (R267) -/
  | trainingPhaseDone (us : Nat) (eq : List LaneEq)
  /-- TRAINING_ATTEMPT_TIMEOUT (R267) -/
  | trainingAttemptTimeout
  /-- BACKOFF_ELAPSED (R267) -/
  | backoffElapsed
  /-- LINK_DOWN_RETRY (R267) -/
  | linkDownRetry
  /-- RECOVERY_TIMEOUT (R267) -/
  | recoveryTimeout
  /-- HOST_LOSS_TIMEOUT (R270) -/
  | hostLossTimeout
  /-- TAG_QUARANTINE_END (R278) -/
  | tagQuarantineEnd (tag : Nat)
  /-- L1_RECAL_START (R226) -/
  | l1RecalStart (l : Nat)
  /-- L1_RECAL_DONE (R226) -/
  | l1RecalDone (l : Nat) (data : Int) (err : Int)
  /-- SL_FRAME_RECEIVED (R286) -/
  | slFrameReceived (bs : List Nat) (arr : Nat)
  /-- SL_ECHO_SEND (R285) -/
  | slEchoSend
  /-- SL_ECHO_RETURN (R285) -/
  | slEchoReturn (rt : Nat) (hops : Nat) (path : Nat)
  /-- ECHO_FAIL (R285) -/
  | echoFail
  /-- SL_LOSS (R289) -/
  | slLoss (why : Nat) (mv : Nat)
  /-- PEER_LOST (R289) -/
  | peerLost (i : Nat)
  /-- HOLDOVER_EXPIRY (R48) -/
  | holdoverExpiry
  /-- ELIGIBILITY_REACHED (R45) -/
  | eligibilityReached
  /-- CAN_SAFETY_PART (R293) -/
  | canSafetyPart (f : CanFrame) (busy : Bool)
  /-- CAN_ASSEMBLY_TIMEOUT (R293) -/
  | canAssemblyTimeout
  /-- CAN_STATUS_REQUEST (R294) -/
  | canStatusRequest (f : CanFrame) (busy : Bool)
  /-- CAN_FALLBACK_REQUEST (R294) -/
  | canFallbackRequest (f : CanFrame) (busy : Bool)
  /-- CAN_REMOTE_FRAME (R290) -/
  | canRemoteFrame (errs : Nat)
  /-- CAN_STATUS_PERIOD (R295) -/
  | canStatusPeriod
  /-- CAN_ERROR_PASSIVE (R296) -/
  | canErrorPassive (tec : Nat) (rc : Nat)
  /-- CAN_BUS_OFF (R296) -/
  | canBusOff
  /-- CAN_BUS_OFF_RECOVERY (R296) -/
  | canBusOffRecovery
  /-- TICK_BOUNDARY (R31) -/
  | tickBoundary (x : BoundaryIn)
  /-- TICK_CHANGE_IN_FORCE (R33) -/
  | tickChangeInForce
  /-- BASK_END (R31) -/
  | baskEnd
  /-- ROW_START (R129) -/
  | rowStart (missed : List Nat) (crc : List (Nat × Nat))
  /-- COMMIT_CUTOFF (R75) -/
  | commitCutoff
  /-- GECKO_BAND_DONE (R112) -/
  | geckoBandDone (us : Nat)
  /-- COMPOSITION_DONE (R186) -/
  | compositionDone (us : Nat)
  /-- RESOLVE_DONE (R187) -/
  | resolveDone (tenths : Nat)
  /-- SCALE_CLAMP_DONE (R38) -/
  | scaleClampDone (upsets : List (Nat × Nat))
  /-- FRAME_REPEAT_LIMIT (R41) -/
  | frameRepeatLimit
  /-- LAYER_FROZEN (R82) -/
  | layerFrozen (n : Nat)
  /-- EPOCH_TIMEOUT (R80) -/
  | epochTimeout
  /-- OBJECTS_STALE (R113) -/
  | objectsStale
  /-- TIMEBASE_LOST (R105) -/
  | timebaseLost
  /-- SWEEP_STALL (R162) -/
  | sweepStall
  /-- SWEEP_FORCED (R194) -/
  | sweepForced
  /-- VLED_UNDER (R181) -/
  | vledUnder (d : Nat)
  /-- SENSOR_READMIT (R197) -/
  | sensorReadmit (i : Nat)
  /-- THROTTLE_FREEZE_LIFT (R199) -/
  | throttleFreezeLift (i : Nat)
  /-- READBACK_MISMATCH (R145) -/
  | readbackMismatch (d : Nat)
  /-- FINGERPRINT_MISMATCH (R326) -/
  | fingerprintMismatch (i : Nat)
  /-- TWIN_MISMATCH (R324) -/
  | twinMismatch
  /-- ENGINE_ITEM_PREEMPT (R92) -/
  | engineItemPreempt (e : Nat) (i : Nat)
  /-- ENGINE_WATCHDOG (R92) -/
  | engineWatchdog (e : Nat) (pc : Nat)
  /-- ENGINE_ACCESS_VIOLATION (R93) -/
  | engineAccessViolation (e : Nat) (addr : Nat)
  /-- ENGINE_ECC_ERROR (R88) -/
  | engineEccError (e : Nat) (double : Bool) (data : Bool) (addr : Nat)
  /-- ENGINE_ILLEGAL_OP (R121) -/
  | engineIllegalOp (e : Nat) (pc : Nat)
  /-- ENGINE_EVENT_POST (R250) -/
  | engineEventPost (e : Nat) (w1 : Nat) (lo : Nat) (hi : Nat)
  /-- EXT_TABLE_HOLD_EXPIRY (R99) -/
  | extTableHoldExpiry (e : Nat)
  /-- FAULT_MESSAGE (R344) -/
  | faultMessage (outside : List (Nat × Nat × Nat))
  /-- GRACE_EXPIRY (R347) -/
  | graceExpiry
  /-- COLLECTOR_SELF_FAULT (R353) -/
  | collectorSelfFault (kind : Nat) (addr : Nat)
  /-- RECORD_PROGRAMMED (R362) -/
  | recordProgrammed (ok : Bool)
  /-- BLOCK_ERASE_DONE (R360) -/
  | blockEraseDone
  /-- FREEZE_TIMEOUT (R369) -/
  | freezeTimeout
  /-- POWERED_MINUTE (R367) -/
  | poweredMinute
  /-- PASSWORD_LOCK_EXPIRY (R332) -/
  | passwordLockExpiry
  /-- SESSION_TIMEOUT (R334) -/
  | sessionTimeout
  /-- PILOT_CONFIRM_TIMEOUT (R333) -/
  | pilotConfirmTimeout
  /-- DUAL_INPUT_SAMPLE (R317) -/
  | dualInputSample (pins : Nat)
  /-- DISCREPANCY (R318) -/
  | discrepancy (i : Nat)
  /-- INPUT_REARM (R318) -/
  | inputRearm (i : Nat)
  /-- HOST_WAIT (R417) -/
  | hostWait
  /-- STARTUP_DEADLINE (R407) -/
  | startupDeadline
  /-- SKINK_SRAM_CHECK (R310) -/
  | skinkSramCheck (upsets : List (Nat × Nat))
  /-- SKINK_ENVELOPE_RECHECK (R310) -/
  | skinkEnvelopeRecheck
  /-- TICK_PERIOD (R37) -/
  | tickPeriod (us : Nat)
  /-- SCAN_CLOCK_CHECK (R336) -/
  | scanClockCheck (sca : Nat) (scb : Nat)
  /-- PLL_UNLOCK (R37) -/
  | pllUnlock
  /-- PIXBUS_LOCK_LOST (R142) -/
  | pixbusLockLost (d : Nat) (l : Nat)
  /-- EMITTER_CROAK_TIMEOUT (R143) -/
  | emitterCroakTimeout (d : Nat)
  /-- VSAFE_POWER_ON (R401) -/
  | vsafePowerOn (mv : Nat)
  /-- RAIL_BELOW_RESET (R401) -/
  | railBelowReset (rail : Nat) (mv : Nat)
  /-- RESET_N_PULSE (R401) -/
  | resetNPulse (ns : Nat) (choice : Bool)
  /-- RESET_RELEASE (R398) -/
  | resetRelease (x : StartIn)
  /-- SUPPLY_THRESHOLD_CROSSING (R423) -/
  | supplyThresholdCrossing (rail : Nat) (above : Bool) (mv : Nat)
  /-- POWER_FAIL (R365) -/
  | powerFail (vsafe : Nat)
  /-- JTAG_INSTRUCTION (R393) -/
  | jtagInstruction (i : JtagOp)
  /-- JTAG_TAP_RESET (R393) -/
  | jtagTapReset (low : Bool)
  /-- SUB_PERIOD_START (R181) -/
  | subPeriodStart (a : Nat) (b : Nat)
  /-- PLL_LOCKED (R305) -/
  | pllLocked
  /-- CAN_FRAME_SENT (R296) -/
  | canFrameSent (tdcv : Nat) (errs : Nat)
  /-- VSAFE_BELOW_RESET (R365) -/
  | vsafeBelowReset (mv : Nat)
  deriving DecidableEq, Repr

end Sys2Proof
end

