-- ==== Sys2Proof/WellFormed.lean ====
section
/-! DEFINITION. Well-formed commands: operands within the ranges the spec gives their fields, and lists of the lengths the
hardware has. A command outside these is none the hardware can meet. -/

namespace Sys2Proof

/-- Accessors: engines 0–31 (R88). -/
def accOk : Accessor → Bool
  | .engine e => decide (e < 32)
  | _ => true

/-- An offset in the 16 MiB register window (R6). -/
def offOk (off : Nat) : Bool := decide (off < 0x1000000)

/-- The alias pages of R24. -/
def pageOk (page : Nat) : Bool := [0, 1, 2, 8, 9, 10, 11, 12, 13, 14, 15].contains page

/-- n bytes. -/
def bytesOk (n : Nat) (bs : List Nat) : Bool := bs.length == n && bs.all (fun b => decide (b < 256))

/-- At most n 32-bit words; a packet's token counts up to 511 (R273). -/
def wordsOk (n : Nat) (ws : List Nat) : Bool := decide (ws.length ≤ n) && ws.all (fun w => decide (w < 2 ^ 32))

/-- A frame of ISO 11898-1 (R290): 11 or 29 bits of identifier, up to 8 data bytes, or one of the lengths of CAN FD, which
alone switches the bit rate. -/
def CanFrame.ok (f : CanFrame) : Bool :=
  decide (f.id < (if f.ide then 2 ^ 29 else 2 ^ 11)) && f.data.all (fun b => decide (b < 256)) && decide (f.errs < 256) &&
  (decide (f.data.length ≤ 8) || (f.fd && [12, 16, 20, 24, 32, 48, 64].contains f.data.length)) && (f.fd || !f.brs)

/-- A header's faults: TYPE 5–15 is reserved, codes 1–3 are messages of the downlink (R274, R280). -/
def Head.ok (h : Head) : Bool :=
  h.type.all (fun t => decide (5 ≤ t) && decide (t < 16)) && h.code.all (fun c => decide (c < 256) && (c == 0 || decide (4 ≤ c)))

/-- The copies of a control block, one for each active lane (R262). -/
def copiesOk (l : List (List Nat)) : Bool := decide (1 ≤ l.length) && decide (l.length ≤ 4) && l.all (bytesOk 16)

/-- A signed 16-bit measurement. -/
def intOk (i : Int) : Bool := decide (-32768 ≤ i) && decide (i ≤ 32767)

/-- A descriptor's fields (R247): words 1–7 as 32-bit numbers. -/
def descOk (d : Desc) : Bool :=
  decide (d.ring < 8) && decide (d.slot < 4096) && decide (d.rsvd < 64) && decide (d.cookie < 2 ^ 16) &&
  d.args.length == 7 && d.args.all (fun w => decide (w < 2 ^ 32))

/-- Failures of self-test patterns: pattern and value measured (R382). -/
def failsOk (l : List (Nat × Nat)) : Bool := l.all (fun p => decide (p.1 < 2 ^ 32) && decide (p.2 < 2 ^ 32))

/-- Bytes of a memory that changed by themselves: offset and value. -/
def upsetsOk (l : List (Nat × Nat)) : Bool := l.all (fun p => decide (p.1 < 2 ^ 24) && decide (p.2 < 256))

/-- Fault messages of sources outside the commands: source, kind, address, each in its field (R341). -/
def outsideOk (l : List (Nat × Nat × Nat)) : Bool :=
  l.all (fun m => decide (m.1 < 1024) && decide (m.2.1 < 64) && decide (m.2.2 < 2 ^ 24))

/-- Equalisation settings of downlink lanes (R298). -/
def eqOk (l : List LaneEq) : Bool :=
  l.all (fun e => decide (e.lane < 4) && decide (e.eye < 256) && decide (e.ctle < 256) && decide (e.taps < 2 ^ 32))

/-- An object record's fields (R100). -/
def recOk (o : ObjRec) : Bool :=
  decide (o.id < 2 ^ 16) && decide (o.cls < 16) && decide (o.conf < 256) && intOk o.h && intOk o.v &&
  decide (0 ≤ o.hw) && decide (o.hw < 2 ^ 16) && decide (0 ≤ o.hh) && decide (o.hh < 2 ^ 16) && intOk o.vh && intOk o.vv &&
  intOk o.ah && intOk o.av && intOk o.dw && intOk o.dh && decide (-(2 ^ 31) ≤ o.tofs) && decide (o.tofs < 2 ^ 31)

/-- Readings of 16 bits. -/
def readingsOk (r : Readings) : Bool := decide (r.base < 2 ^ 16) && r.odd.all (fun p => decide (p.2 < 2 ^ 16))

/-- A readback value of 32 bits (R144). -/
def readbackOk : Readback → Bool
  | .value v => decide (v < 2 ^ 32)
  | _ => true

/-- What the block meets at a boundary. -/
def boundaryOk (x : BoundaryIn) : Bool :=
  decide (x.measUs < 2 ^ 16) && decide (x.slackUs < 2 ^ 13) &&
  x.engines.all (fun r => decide (r.engine < 32)) && x.firmware.all (fun l => l.all recOk) &&
  x.tables.all (fun p => decide (p.1 < 32) && p.2.all recOk) && x.sensors.length == 40 && x.sensors.all intOk && eqOk x.eq &&
  decide (x.latA < 256) && decide (x.latB < 256) &&
  x.relocked.all (fun k => decide (k < 8)) && readbackOk x.rbA && readbackOk x.rbB &&
  decide (x.utilA < 256) && decide (x.utilB < 256) && x.refDev.all (fun p => decide (p.1 < 64) && intOk p.2) &&
  x.bandgap.all (fun p => decide (p.1 < 64) && intOk p.2) && x.ecc.all (fun p => decide (p.1 < 1310720)) &&
  readingsOk x.forward && readingsOk x.lines && readingsOk x.right && readingsOk x.below &&
  failsOk x.groupFails && failsOk x.sliceFails

/-- What start-up finds. -/
def startOk (x : StartIn) : Bool :=
  decide (x.early < 64) && x.rails.length == 6 && x.rails.all (fun v => decide (v < 2 ^ 16)) && x.fails.all (fun p => decide (p.1 < 22) && decide (p.2 < 2 ^ 26)) &&
  decide (1 ≤ x.tries) && decide (x.tries ≤ 4) && x.busA.all (fun l => decide (l < 4)) &&
  x.busB.all (fun l => decide (l < 4)) && decide (x.latA < 256) && decide (x.latB < 256) &&
  x.lanes.all (fun q => decide (q.lane < 13) && intOk q.data && intOk q.err && q.taps.all intOk) &&
  x.dac.all (fun p => decide (p.1 < 4096) && intOk p.2) &&
  x.xc.all (fun p => decide (p.1 < 64) && intOk p.2.1 && intOk p.2.2) && x.sensors.length == 40 && x.sensors.all intOk

/-- A JTAG instruction's operands (R393). -/
def jtagOk : JtagOp → Bool
  | .read off => offOk off
  | .write off v => offOk off && decide (v < 2 ^ 32)
  | _ => true

/-- The well-formed commands. -/
def Instr.wf : Instr → Bool
  | .surfaceBind d => descOk d
  | .layerSet d => descOk d
  | .commit d => descOk d
  | .fadeLoad d => descOk d
  | .symbolLoad d => descOk d
  | .objectList d => descOk d
  | .budgetSet d => descOk d
  | .envelopeLoad d => descOk d
  | .calUserWrite d => descOk d
  | .bistRun d => descOk d
  | .recorderRead d => descOk d
  | .recorderFreeze d => descOk d
  | .crcRun d => descOk d
  | .resume d => descOk d
  | .statusSnapshot d => descOk d
  | .engineLoad d => descOk d
  | .unknownOpcode op d => (op == 0 || decide (16 < op)) && decide (op < 256) && descOk d
  | .symbolLoadDone => true
  | .envelopeLoadDone => true
  | .calFirstPassDone => true
  | .calSecondPassDone => true
  | .calProgramDone _ => true
  | .engineImageVerified e => decide (e < 32)
  | .bistTestEnd fails => failsOk fails
  | .recorderReadDone => true
  | .crcRunDone => true
  | .healthSaveDone _ => true
  | .registerWrite acc off v => accOk acc && offOk off && decide (v < 2 ^ 32)
  | .readClear acc off => accOk acc && offOk off
  | .broadcastWrite acc page off v => accOk acc && pageOk page && decide (off < 0x1000) && off % 4 == 0 && decide (v < 2 ^ 32)
  | .broadcastRead acc page off => accOk acc && pageOk page && decide (off < 0x1000) && off % 4 == 0
  | .tckCountLoRead => true
  | .tckApplyGo v => decide (v < 2 ^ 32)
  | .seedWrite v => decide (v < 2 ^ 4)
  | .axlHdataWrite _ v => decide (v < 2 ^ 16)
  | .axlHdataRead => true
  | .axlSaveGo => true
  | .ringEnable r => decide (r < 8)
  | .ringDisable r => decide (r < 8)
  | .eventRingEnable => true
  | .eventRingDisable => true
  | .fltAck n => decide (n < 2 ^ 32)
  | .fltAckAllS2 => true
  | .fltAckAllInj => true
  | .fltInjGo => true
  | .fltSevWrite i v => decide (i < 128) && decide (v < 2 ^ 32)
  | .lcsAdvance target key => decide (target < 2 ^ 3) && decide (key < 2 ^ 16)
  | .lcsReturn => true
  | .sessionOpenPassword len => decide (len < 2 ^ 6)
  | .sessionOpenPilot => true
  | .sessionClose => true
  | .sessionSetPassword len => decide (len < 2 ^ 6)
  | .sftPilotCrcWrite v => decide (v < 2 ^ 32)
  | .sftFeatWrite v => decide (v < 2 ^ 4)
  | .bstAbort => true
  | .bstStartGo num => decide (num < 2 ^ 8)
  | .crcStart u v => decide (u < 4) && decide (v < 2 ^ 32)
  | .crcDataWrite u n v => decide (u < 4) && [1, 2, 4].contains n && decide (v < 256 ^ n)
  | .crcValueWrite u v => decide (u < 4) && decide (v < 2 ^ 32)
  | .crcRead u _ => decide (u < 4)
  | .lnkRetrain => true
  | .linkReadRequest _ h tag addr len => h.ok && decide (tag < 2 ^ 8) && decide (addr < 2 ^ 64) && decide (len < 2 ^ 11)
  | .linkWriteRequest _ h addr words => h.ok && decide (addr < 2 ^ 64) && wordsOk 511 words
  | .hostReadCompletion _ h tag off _ words => h.ok && decide (tag < 2 ^ 8) && decide (off < 2 ^ 10) && wordsOk 511 words
  | .hostReadError _ h tag err => h.ok && decide (tag < 2 ^ 8) && decide (err < 16)
  | .hostReadTimeout tag => decide (tag < 2 ^ 8)
  | .descriptorRelease r => decide (r < 8)
  | .cplRingRetry r => decide (r < 8)
  | .cplStall r => decide (r < 8)
  | .doorbellHint _ h words => h.ok && wordsOk 511 words
  | .tickMark _ h words => h.ok && wordsOk 511 words
  | .safetyCopy _ h words => h.ok && wordsOk 511 words
  | .llcBlock copies => copiesOk copies
  | .replayTimeout => true
  | .pmL1Entry copies => copiesOk copies
  | .pmL2Request copies => copiesOk copies
  | .uplinkL1Idle => true
  | .uplinkL1Exit => true
  | .downlinkL1Exit => true
  | .l2Exit => true
  | .l2ExitTimeout => true
  | .echoReturn copies rtt => copiesOk copies && decide (rtt < 2 ^ 32)
  | .trainingBlock l first second => decide (l < 4) && bytesOk 16 first && bytesOk 16 second
  | .laneSignalDetect l mv => decide (l < 5) && decide (mv < 2 ^ 16)
  | .laneLossOfSignal l mv => decide (l < 4) && decide (mv < 2 ^ 16)
  | .blockLockAcquired l _ deskew => decide (l < 5) && decide (deskew < 2 ^ 16)
  | .blockLockLost l => decide (l < 4)
  | .trainingPhaseDone us eq => decide (us < 2 ^ 32) && eqOk eq
  | .trainingAttemptTimeout => true
  | .backoffElapsed => true
  | .linkDownRetry => true
  | .recoveryTimeout => true
  | .hostLossTimeout => true
  | .tagQuarantineEnd tag => decide (tag < 2 ^ 8)
  | .l1RecalStart l => decide (l < 4)
  | .l1RecalDone l data err => decide (l < 4) && intOk data && intOk err
  | .slFrameReceived bs arr => bytesOk 64 bs && decide (arr < 2 ^ 32)
  | .slEchoSend => true
  | .slEchoReturn rt hops path => decide (rt < 2 ^ 32) && decide (hops < 2 ^ 8) && decide (path < 2 ^ 24)
  | .echoFail => true
  | .slLoss why mv => decide (why < 2) && decide (mv < 2 ^ 16)
  | .peerLost i => decide (i < 4)
  | .holdoverExpiry => true
  | .eligibilityReached => true
  | .canSafetyPart f _ => f.ok
  | .canAssemblyTimeout => true
  | .canStatusRequest f _ => f.ok
  | .canFallbackRequest f _ => f.ok
  | .canRemoteFrame errs => decide (errs < 2 ^ 8)
  | .canStatusPeriod => true
  | .canErrorPassive tec rc => decide (tec < 2 ^ 8) && decide (rc < 2 ^ 8)
  | .canBusOff => true
  | .canBusOffRecovery => true
  | .tickBoundary x => boundaryOk x
  | .tickChangeInForce => true
  | .baskEnd => true
  | .rowStart missed crc => missed.all (fun n => decide (n < 64)) && crc.all (fun p => decide (p.1 < 64) && decide (p.2 < 3))
  | .commitCutoff => true
  | .geckoBandDone us => decide (us < 2 ^ 16)
  | .compositionDone us => decide (us < 2 ^ 16)
  | .resolveDone tenths => decide (tenths < 2 ^ 16)
  | .scaleClampDone upsets => upsetsOk upsets
  | .frameRepeatLimit => true
  | .layerFrozen n => decide (n < 8)
  | .epochTimeout => true
  | .objectsStale => true
  | .timebaseLost => true
  | .sweepStall => true
  | .sweepForced => true
  | .vledUnder d => decide (d < 2)
  | .sensorReadmit i => decide (i < 40)
  | .throttleFreezeLift i => decide (i < 40)
  | .readbackMismatch d => decide (d < 2)
  | .fingerprintMismatch i => decide (i < 4)
  | .twinMismatch => true
  | .engineItemPreempt e i => decide (e < 32) && decide (i < 2 ^ 5)
  | .engineWatchdog e pc => decide (e < 32) && decide (pc < 2 ^ 24)
  | .engineAccessViolation e addr => decide (e < 32) && decide (addr < 2 ^ 24)
  | .engineEccError e _ _ addr => decide (e < 32) && decide (addr < 2 ^ 23)
  | .engineIllegalOp e pc => decide (e < 32) && decide (pc < 2 ^ 24)
  | .engineEventPost e w1 lo hi => decide (e < 32) && decide (w1 < 2 ^ 32) && decide (lo < 2 ^ 32) && decide (hi < 2 ^ 32)
  | .extTableHoldExpiry e => decide (e < 32)
  | .faultMessage outside => outsideOk outside
  | .graceExpiry => true
  | .collectorSelfFault kind addr => (kind == 1 || kind == 2) && decide (addr < 2 ^ 24)
  | .recordProgrammed _ => true
  | .blockEraseDone => true
  | .freezeTimeout => true
  | .poweredMinute => true
  | .passwordLockExpiry => true
  | .sessionTimeout => true
  | .pilotConfirmTimeout => true
  | .dualInputSample pins => decide (pins < 2 ^ 4)
  | .discrepancy i => decide (i < 2)
  | .inputRearm i => decide (i < 2)
  | .hostWait => true
  | .startupDeadline => true
  | .skinkSramCheck upsets => upsetsOk upsets
  | .skinkEnvelopeRecheck => true
  | .tickPeriod us => decide (us < 2 ^ 24)
  | .scanClockCheck sca scb => decide (sca < 2 ^ 20) && decide (scb < 2 ^ 20)
  | .pllUnlock => true
  | .pixbusLockLost d l => decide (d < 2) && decide (l < 4)
  | .emitterCroakTimeout d => decide (d < 2)
  | .vsafePowerOn mv => decide (mv < 2 ^ 16)
  | .railBelowReset rail mv => decide (1 ≤ rail) && decide (rail < 6) && decide (mv < 2 ^ 16)
  | .resetNPulse _ _ => true
  | .resetRelease x => startOk x
  | .supplyThresholdCrossing rail _ mv => decide (rail < 6) && decide (mv < 2 ^ 16)
  | .powerFail vsafe => decide (vsafe < 2 ^ 16)
  | .jtagInstruction i => jtagOk i
  | .jtagTapReset _ => true
  | .subPeriodStart a b => decide (a < 2 ^ 16) && decide (b < 2 ^ 16)
  | .pllLocked => true
  | .canFrameSent tdcv errs => decide (tdcv < 2 ^ 8) && decide (errs < 2 ^ 8)
  | .vsafeBelowReset mv => decide (mv < 2 ^ 16)

end Sys2Proof
end

