-- ==== Sys2Proof/Machine/Cells.lean ====
section
/-! DEFINITION. Sparse tables in one canonical form, and the register field. A table lists (key, value) pairs by
rising key and lists no pair whose value is the one an unlisted key reads as, so equal contents are equal data. The
register file, the frames, the trim planes and the memories of the block are all such tables. -/

namespace Sys2Proof.Machine

/-- Pairs of key and value, keys strictly rising. -/
abbrev Cells := List (Nat × Nat)

/-- The value listed under key k, if any. -/
def Cells.find : Cells → Nat → Option Nat
  | [], _ => none
  | (k', v) :: t, k => if k = k' then some v else Cells.find t k

/-- What key k reads as, where an unlisted key reads as d. -/
def Cells.get (c : Cells) (d k : Nat) : Nat :=
  match Cells.find c k with
  | some v => v
  | none => d

/-- The table without key k. -/
def Cells.erase : Cells → Nat → Cells
  | [], _ => []
  | (k', v) :: t, k => if k = k' then Cells.erase t k else (k', v) :: Cells.erase t k

/-- The table with value v put under key k, in place. -/
def Cells.insert : Cells → Nat → Nat → Cells
  | [], k, v => [(k, v)]
  | (k', v') :: t, k, v =>
    if k < k' then (k, v) :: (k', v') :: t
    else if k = k' then (k, v) :: t
    else (k', v') :: Cells.insert t k v

/-- The table in which key k reads as v, where an unlisted key reads as d. -/
def Cells.put (c : Cells) (d k v : Nat) : Cells :=
  if v = d then Cells.erase c k else Cells.insert c k v

/-- The canonical form: keys strictly rising from lo, no listed value equal to d. -/
def Cells.wfFrom : Cells → Nat → Nat → Bool
  | [], _, _ => true
  | (k, v) :: t, d, lo => decide (lo ≤ k) && decide (v ≠ d) && Cells.wfFrom t d (k + 1)

/-- The canonical form of a table whose unlisted keys read as d. -/
def Cells.wf (c : Cells) (d : Nat) : Bool := Cells.wfFrom c d 0

/-- Consecutive values put under keys k, k+1, … -/
def Cells.putMany (c : Cells) (d k : Nat) : List Nat → Cells
  | [] => c
  | v :: vs => Cells.putMany (Cells.put c d k v) d (k + 1) vs

/-- n consecutive values from key k. -/
def Cells.take (c : Cells) (d k : Nat) : Nat → List Nat
  | 0 => []
  | n + 1 => Cells.get c d k :: Cells.take c d (k + 1) n

/-- Values kept under rising keys; an unlisted key has none. -/
abbrev Keyed (α : Type) := List (Nat × α)

/-- The value under key k, or d. -/
def Keyed.get {α : Type} (c : Keyed α) (d : α) (k : Nat) : α :=
  match c.find? (fun p => p.1 == k) with
  | some p => p.2
  | none => d

/-- The table without key k. -/
def Keyed.erase {α : Type} (c : Keyed α) (k : Nat) : Keyed α := c.filter (fun p => p.1 != k)

/-- The table with v under key k. -/
def Keyed.put {α : Type} : Keyed α → Nat → α → Keyed α
  | [], k, v => [(k, v)]
  | (k', v') :: t, k, v =>
    if k < k' then (k, v) :: (k', v') :: t
    else if k = k' then (k, v) :: t
    else (k', v') :: Keyed.put t k v

/-- The keys listed. -/
def Keyed.keys {α : Type} (c : Keyed α) : List Nat := c.map (fun p => p.1)

/-- A plane: a table with the value its unlisted keys read as. -/
structure Plane where
  fill : Nat := 0
  cells : Cells := []
  deriving DecidableEq, Repr

def Plane.get (p : Plane) (k : Nat) : Nat := Cells.get p.cells p.fill k
def Plane.put (p : Plane) (k v : Nat) : Plane := { p with cells := Cells.put p.cells p.fill k v }
def Plane.wf (p : Plane) : Bool := Cells.wf p.cells p.fill

/-- The access types of R9. -/
inductive Acc where
  | rw | ro | w1c | rc | wo | rws | lck
  deriving DecidableEq, Repr

/-- One field of the register window: the offset of its word, its lowest bit, its width, its access type (R9) and
its value at reset. -/
structure Fld where
  off : Nat
  lo : Nat
  width : Nat
  acc : Acc
  reset : Nat
  deriving DecidableEq, Repr

/-- The number of the field's lowest bit in the whole window: the field's name in the register file. -/
def Fld.key (f : Fld) : Nat := f.off * 32 + f.lo

/-- What field f holds in register file r. -/
def Cells.reg (r : Cells) (f : Fld) : Nat := Cells.get r f.reset f.key

/-- Register file r with v, cut to the field's width, in field f. -/
def Cells.setReg (r : Cells) (f : Fld) (v : Nat) : Cells := Cells.put r f.reset f.key (v % 2 ^ f.width)

end Sys2Proof.Machine
end

