-- ==== Sys2Proof/Machine/Bits.lean ====
section
/-! DEFINITION. Bit fields, signs, byte order (R8), rounding, and the check values of R388. -/

namespace Sys2Proof.Machine

/-- Bits [lo+w-1 : lo] of n. -/
def bitsOf (n lo w : Nat) : Nat := n / 2 ^ lo % 2 ^ w

/-- Bit i of n. -/
def bitOf (n i : Nat) : Bool := n / 2 ^ i % 2 == 1

/-- A flag as the field value 0 or 1. -/
def flag (b : Bool) : Nat := if b then 1 else 0

/-- The two's-complement value of the low w bits of n. -/
def signed (w n : Nat) : Int :=
  let m := n % 2 ^ w
  if 2 * m < 2 ^ w then (m : Int) else (m : Int) - (2 ^ w : Nat)

/-- An integer as the low w bits of its two's complement. -/
def unsigned (w : Nat) (i : Int) : Nat := (i % ((2 ^ w : Nat) : Int)).toNat

/-- An integer held between lo and hi. -/
def held (lo hi i : Int) : Int := if i < lo then lo else if hi < i then hi else i

/-- A number held between lo and hi. -/
def heldN (lo hi n : Nat) : Nat := if n < lo then lo else if hi < n then hi else n

/-- A sum that stops at all ones of w bits (R355). -/
def satAdd (w a b : Nat) : Nat := min (2 ^ w - 1) (a + b)

/-- The number whose bytes, least significant first, are bs (R8). -/
def leNat : List Nat → Nat
  | [] => 0
  | b :: bs => b % 256 + 256 * leNat bs

/-- The n bytes of v, least significant first (R8). -/
def leBytes : Nat → Nat → List Nat
  | 0, _ => []
  | n + 1, v => v % 256 :: leBytes n (v / 256)

/-- The number whose bytes, most significant first, are bs. -/
def beNat (bs : List Nat) : Nat := leNat bs.reverse

/-- n / d to the nearest integer, ties to even (R69, R132). -/
def roundEven (n d : Nat) : Nat :=
  let q := n / d
  let r := n % d
  if 2 * r < d then q else if d < 2 * r then q + 1 else if q % 2 = 0 then q else q + 1

/-- r to the nearest integer, ties to even (R154, R166, R173, R210). -/
def roundRat (r : Rat) : Int :=
  let f := Rat.floor r
  let d := r - (f : Rat)
  if d < 1 / 2 then f else if 1 / 2 < d then f + 1 else if f % 2 = 0 then f else f + 1

/-- n / d rounded up. -/
def ceilDiv (n d : Nat) : Nat := (n + d - 1) / d

/-- One bit of a reflected check value. -/
def crcBitR (poly c : Nat) : Nat := if c % 2 = 1 then Nat.xor (c / 2) poly else c / 2

/-- One bit of a check value of w bits, most significant bit first. -/
def crcBitN (w poly c : Nat) : Nat :=
  if bitOf c (w - 1) then Nat.xor (2 * c % 2 ^ w) poly else 2 * c % 2 ^ w

/-- f applied n times. -/
def times (f : Nat → Nat) : Nat → Nat → Nat
  | 0, x => x
  | n + 1, x => times f n (f x)

/-- The algorithms of R388. -/
inductive Algo where
  | crc32c | crc32 | crc16 | crc8
  deriving DecidableEq, Repr

/-- The algorithm numbered n by R388. -/
def Algo.numbered (n : Nat) : Algo :=
  if n % 4 = 0 then .crc32c else if n % 4 = 1 then .crc32 else if n % 4 = 2 then .crc16 else .crc8

/-- Width of the check value. -/
def Algo.width : Algo → Nat
  | .crc32c => 32 | .crc32 => 32 | .crc16 => 16 | .crc8 => 8

/-- Initial value. -/
def Algo.init : Algo → Nat
  | .crc32c => 0xFFFFFFFF | .crc32 => 0xFFFFFFFF | .crc16 => 0xFFFF | .crc8 => 0xFF

/-- Final XOR. -/
def Algo.xorOut : Algo → Nat
  | .crc32c => 0xFFFFFFFF | .crc32 => 0xFFFFFFFF | .crc16 => 0 | .crc8 => 0xFF

/-- The running value after one more byte. -/
def Algo.feed : Algo → Nat → Nat → Nat
  | .crc32c, c, b => times (crcBitR 0x82F63B78) 8 (Nat.xor c (b % 256))
  | .crc32, c, b => times (crcBitR 0xEDB88320) 8 (Nat.xor c (b % 256))
  | .crc16, c, b => times (crcBitN 16 0x1021) 8 (Nat.xor c (b % 256 * 256))
  | .crc8, c, b => times (crcBitN 8 0x1D) 8 (Nat.xor c (b % 256))

/-- The running value after more bytes. -/
def Algo.feedAll (a : Algo) : Nat → List Nat → Nat
  | c, [] => c
  | c, b :: bs => Algo.feedAll a (a.feed c b) bs

/-- The value a unit shows for running value c. -/
def Algo.final (a : Algo) (c : Nat) : Nat := Nat.xor c a.xorOut

/-- The check value of a byte sequence. -/
def Algo.of (a : Algo) (bs : List Nat) : Nat := a.final (a.feedAll a.init bs)

/-- CRC-32C with initial value all ones and final inversion. -/
def crc32c (bs : List Nat) : Nat := Algo.of .crc32c bs

/-- The running CRC-32C value after n bytes of value b: a run of equal bytes of a sparse plane. -/
def crcRun (a : Algo) (b : Nat) : Nat → Nat → Nat
  | 0, c => c
  | n + 1, c => crcRun a b n (a.feed c b)

/-- A check value run over n places of a table from place k, one byte of the value at a time where wide. -/
def feedCells (bytes fill : Nat) : Cells → Nat → Nat → Nat → Nat
  | [], n, _, c => if bytes = 1 then crcRun .crc32c fill n c else Algo.feedAll .crc32c c ((List.replicate n (leBytes bytes fill)).flatten)
  | (k, v) :: t, n, at', c =>
    if at' + n ≤ k then
      (if bytes = 1 then crcRun .crc32c fill n c
       else Algo.feedAll .crc32c c ((List.replicate n (leBytes bytes fill)).flatten))
    else
      let gap := k - at'
      let c1 := if bytes = 1 then crcRun .crc32c fill gap c
        else Algo.feedAll .crc32c c ((List.replicate gap (leBytes bytes fill)).flatten)
      feedCells bytes fill t (n - gap - 1) (k + 1) (Algo.feedAll .crc32c c1 (leBytes bytes v))

end Sys2Proof.Machine
end

