-- ==== Sys2Proof/Machine/Crypto.lean ====
section
/-! DEFINITION. SHA-256 and the verification of an ECDSA P-256 signature, which R95, R96, R330, R331 and R411 name. Their
constants are those of the published standards (PRESUMED, log 12). -/

namespace Sys2Proof.Machine

/-- The round constants of SHA-256. -/
def shaK : List Nat :=
  [0x428a2f98, 0x71374491, 0xb5c0fbcf, 0xe9b5dba5, 0x3956c25b, 0x59f111f1, 0x923f82a4, 0xab1c5ed5] ++
  [0xd807aa98, 0x12835b01, 0x243185be, 0x550c7dc3, 0x72be5d74, 0x80deb1fe, 0x9bdc06a7, 0xc19bf174] ++
  [0xe49b69c1, 0xefbe4786, 0x0fc19dc6, 0x240ca1cc, 0x2de92c6f, 0x4a7484aa, 0x5cb0a9dc, 0x76f988da] ++
  [0x983e5152, 0xa831c66d, 0xb00327c8, 0xbf597fc7, 0xc6e00bf3, 0xd5a79147, 0x06ca6351, 0x14292967] ++
  [0x27b70a85, 0x2e1b2138, 0x4d2c6dfc, 0x53380d13, 0x650a7354, 0x766a0abb, 0x81c2c92e, 0x92722c85] ++
  [0xa2bfe8a1, 0xa81a664b, 0xc24b8b70, 0xc76c51a3, 0xd192e819, 0xd6990624, 0xf40e3585, 0x106aa070] ++
  [0x19a4c116, 0x1e376c08, 0x2748774c, 0x34b0bcb5, 0x391c0cb3, 0x4ed8aa4a, 0x5b9cca4f, 0x682e6ff3] ++
  [0x748f82ee, 0x78a5636f, 0x84c87814, 0x8cc70208, 0x90befffa, 0xa4506ceb, 0xbef9a3f7, 0xc67178f2]

/-- Rotate and shift right on 32 bits. -/
def rotr (n x : Nat) : Nat := (x / 2 ^ n + x % 2 ^ n * 2 ^ (32 - n)) % 2 ^ 32
def shr (n x : Nat) : Nat := x / 2 ^ n

def sig0 (x : Nat) : Nat := Nat.xor (Nat.xor (rotr 7 x) (rotr 18 x)) (shr 3 x)
def sig1 (x : Nat) : Nat := Nat.xor (Nat.xor (rotr 17 x) (rotr 19 x)) (shr 10 x)
def sum0 (x : Nat) : Nat := Nat.xor (Nat.xor (rotr 2 x) (rotr 13 x)) (rotr 22 x)
def sum1 (x : Nat) : Nat := Nat.xor (Nat.xor (rotr 6 x) (rotr 11 x)) (rotr 25 x)

/-- The message schedule: n more words from the last 16, newest first. -/
def shaSchedule : Nat → List Nat → List Nat
  | 0, ws => ws.reverse
  | n + 1, ws =>
    shaSchedule n ((sig1 (ws.getD 1 0) + ws.getD 6 0 + sig0 (ws.getD 14 0) + ws.getD 15 0) % 2 ^ 32 :: ws)

/-- One round on the eight working words. -/
def shaRound (v : List Nat) (kw : Nat) : List Nat :=
  match v with
  | [a, b, c, d, e, f, g, h] =>
    let ch := Nat.xor (Nat.land e f) (Nat.land (2 ^ 32 - 1 - e) g)
    let maj := Nat.xor (Nat.xor (Nat.land a b) (Nat.land a c)) (Nat.land b c)
    let t1 := h + sum1 e + ch + kw
    let t2 := sum0 a + maj
    [(t1 + t2) % 2 ^ 32, a, b, c, (d + t1) % 2 ^ 32, e, f, g]
  | _ => v

/-- One block of 64 bytes. -/
def shaBlock (h : List Nat) (bs : List Nat) : List Nat :=
  let ws := (List.range 16).map (fun i => beNat ((bs.drop (4 * i)).take 4))
  let sched := shaSchedule 48 ws.reverse
  let v := ((List.zip shaK sched).map (fun p => p.1 + p.2)).foldl shaRound h
  (List.zip h v).map (fun p => (p.1 + p.2) % 2 ^ 32)

/-- n blocks of 64 bytes. -/
def shaBlocks : Nat → List Nat → List Nat → List Nat
  | 0, h, _ => h
  | n + 1, h, bs => shaBlocks n (shaBlock h (bs.take 64)) (bs.drop 64)

/-- The SHA-256 digest of a byte sequence, as a number. -/
def sha256 (msg : List Nat) : Nat :=
  let pad := (119 - msg.length % 64) % 64
  let bs := msg ++ 0x80 :: List.replicate pad 0 ++ (leBytes 8 (8 * msg.length)).reverse
  (shaBlocks (bs.length / 64)
    [0x6a09e667, 0xbb67ae85, 0x3c6ef372, 0xa54ff53a, 0x510e527f, 0x9b05688c, 0x1f83d9ab, 0x5be0cd19] bs).foldl
    (fun a w => a * 2 ^ 32 + w) 0

/-- The curve P-256: field, order, coefficient b and generator. -/
def pField : Nat := 0xFFFFFFFF00000001000000000000000000000000FFFFFFFFFFFFFFFFFFFFFFFF
def pOrder : Nat := 0xFFFFFFFF00000000FFFFFFFFFFFFFFFFBCE6FAADA7179E84F3B9CAC2FC632551
def pCoeffB : Nat := 0x5AC635D8AA3A93E7B3EBBD55769886BC651D06B0CC53B0F63BCE3C3E27D2604B
def pGenX : Nat := 0x6B17D1F2E12C4247F8BCE6E563A440F277037D812DEB33A0F4A13945D898C296
def pGenY : Nat := 0x4FE342E2FE1A7F9B8EE7EB4A7C0F9E162BCE33576B315ECECBB6406837BF51F5

/-- b to the power e modulo m, n bits of e from the lowest. -/
def powMod (m : Nat) : Nat → Nat → Nat → Nat → Nat
  | 0, _, _, acc => acc
  | n + 1, b, e, acc => powMod m n (b * b % m) (e / 2) (if e % 2 = 1 then acc * b % m else acc)

/-- The inverse modulo a prime. -/
def invMod (m x : Nat) : Nat := powMod m 256 (x % m) (m - 2) 1

/-- Addition of curve points; none is the point at infinity. -/
def ecAdd (a b : Option (Nat × Nat)) : Option (Nat × Nat) :=
  match a, b with
  | none, q => q
  | p, none => p
  | some (x1, y1), some (x2, y2) =>
    if x1 = x2 ∧ (y1 + y2) % pField = 0 then none
    else
      let l := if x1 = x2 then 3 * (x1 * x1 + pField - 1) * invMod pField (2 * y1) % pField
        else (y2 + pField - y1) * invMod pField (x2 + pField - x1) % pField
      let x3 := (l * l + 2 * pField - x1 - x2) % pField
      some (x3, (l * (x1 + pField - x3) + pField - y1) % pField)

/-- k times a point, n bits of k from the lowest. -/
def ecMul : Nat → Nat → Option (Nat × Nat) → Option (Nat × Nat) → Option (Nat × Nat)
  | 0, _, _, acc => acc
  | n + 1, k, p, acc => ecMul n (k / 2) (ecAdd p p) (if k % 2 = 1 then ecAdd acc p else acc)

/-- The point lies on the curve. -/
def onCurve (x y : Nat) : Bool :=
  decide (x < pField) && decide (y < pField) &&
    y * y % pField == (x * x * x + (pField - 3) * x + pCoeffB) % pField

/-- An ECDSA P-256 signature (r, s) over digest z verifies under public key x * 2^256 + y. -/
def ecdsaOk (key z r s : Nat) : Bool :=
  let x := key / 2 ^ 256
  let y := key % 2 ^ 256
  if ¬ onCurve x y ∨ r = 0 ∨ pOrder ≤ r ∨ s = 0 ∨ pOrder ≤ s then false
  else
    let w := invMod pOrder s
    match ecAdd (ecMul 256 (z * w % pOrder) (some (pGenX, pGenY)) none) (ecMul 256 (r * w % pOrder) (some (x, y)) none) with
    | none => false
    | some (px, _) => px % pOrder == r

end Sys2Proof.Machine
end

