-- ==== Sys2Proof/Config.lean ====
section
/-! DEFINITION. What the spec leaves open: each constant has no body, so no proof can rest on a value of it. Every
one is named in a row of notes/assumptions. -/

namespace Sys2Proof

/-- A value the spec leaves open, one for each count of `State.freeCtr` (log 3). -/
opaque Config.freeValue : Nat → Nat

/-- The fixed coefficients of the 4-tap polyphase filter of R66, by phase and tap, which the spec does not give
(log 10). -/
opaque Config.coef4 : Nat → Nat → Rat

/-- The rounding of the 4-tap filter's sum, and whether the 2-tap filter rounds up a sum that is not whole: by phase and
the two values (R66, log 10). -/
opaque Config.round4 : Rat → Nat
opaque Config.roundsUp : Nat → Nat → Nat → Bool

/-- The factory value of region n's bandgap in mV, by the 128 bytes of the factory record that holds it (R152, R206), whose
layout the spec does not give (log 141). -/
opaque Config.bandgapMv : List Nat → Nat → Nat

/-- What the factory record of PHY defaults, its 1,024 bytes, holds for a lane, and the one generic setting that stands in
for it: downlink lanes 0–3, uplink lanes 4 and 5; field 0 transmit swing, 1 de-emphasis, 2 CTLE start point, 3 DFE taps
(R206, R265, log 142). -/
opaque Config.phyDefault : List Nat → Nat → Nat → Nat
opaque Config.phyGeneric : Nat → Nat

/-- The 16-byte device salt, which depends on the serial number (R331); no interface can read it (log 70). -/
opaque Config.deviceSalt : Nat → Nat

/-- The vendor's public key for return tokens, x * 2^256 + y (R330), and for firmware images (R409), fused into the
driver die (log 71). -/
opaque Config.returnKey : Nat
opaque Config.firmwareKey : Nat

/-- The value IDCODE shifts out (R393), which the spec does not give (log 72). -/
opaque Config.idcode : Nat

/-- What a self-test measures (R373, R382): the deviation in percent that value v of pattern i stands for, and whether the
value is outside the limit of a test that R373 names no number for (log 190). -/
opaque Config.deviation : Nat → Nat → Nat → Rat
opaque Config.beyond : Nat → Nat → Nat → Bool

/-- The symbol-library directory fails its own CRC, in a symbol library with these bytes, by offset (R373): the spec gives
no layout of it (log 190). -/
opaque Config.badDirectory : List (Nat × Nat) → Bool

/-- What a forward-voltage reading of pixel p in column 63 of a die-B region reads above its true value on A1, less 5 mV, taken
modulo 3: 6 mV ±1 mV (R451). -/
opaque Config.vfOffset : Nat → Nat

/-- Which count of SFT_TWIN_CNT a discarded safety command block goes to, MISSING or MISMATCH: R321 counts it in that
register and names neither (log 90). -/
opaque Config.replayInMissing : Bool

/-- Work item i of engine e in the firmware image whose SHA-256 digest is d (R91, R409), whose place in the body the
spec does not give: 0 none; else 1 + slot + 4 * essential + 8 * cycle allowance (log 73). -/
opaque Config.firmwareItem : Nat → Nat → Nat → Nat

/-- The bytes that the firmware image with digest d puts into the instruction and the data SRAM of VENDOR engine e (R405,
R411), whose places in the body the spec does not give either (log 229). -/
opaque Config.firmwareCode : Nat → Nat → List Nat
opaque Config.firmwareData : Nat → Nat → List Nat

/-- Of two valid health copies with one sequence number, all ones (R355), power-up takes copy 1: R161 names neither (log
196). -/
opaque Config.healthTie : Bool

end Sys2Proof
end

