-- ==== Sys2Proof/Machine/Pixel.lean ====
section
/-! DEFINITION. The arithmetic of one pixel: formats and compression of surfaces (R56–R61), scaling (R66), blending
(R67–R70), the envelope (R114, R116), the drive mapper (R132) and the pulse pattern (R136). -/

namespace Sys2Proof.Machine

/-- Columns and rows of the raster (R13). -/
def rasterW : Nat := 2048
def rasterH : Nat := 640

/-- The global pixel address (R20). -/
def pixAddr (x y : Nat) : Nat := y * 2048 + x

/-- The tile index of a pixel (R16). -/
def tileOf (p : Nat) : Nat := p / 2048 / 32 * 64 + p % 2048 / 32

/-- The region of a tile (R17). -/
def regionOfTile (t : Nat) : Nat :=
  32 * (t % 64 / 32) + 16 * (if t / 64 ≥ 10 then 1 else 0) + t % 64 % 32 / 2

/-- The region of a pixel (R17). -/
def regionOf (p : Nat) : Nat := regionOfTile (tileOf p)

/-- The die of a pixel: 0 for A, 1 for B (R13). -/
def dieOf (p : Nat) : Nat := p % 2048 / 1024

/-- First column and first row of region n (R17). -/
def regionCol (n : Nat) : Nat := 1024 * (n / 32) + 64 * (n % 32 % 16)
def regionRow (n : Nat) : Nat := if n % 32 < 16 then 0 else 320

/-- The pixel at column c and row r of region n. -/
def regionPix (n c r : Nat) : Nat := pixAddr (regionCol n + c) (regionRow n + r)

/-- The region-local address of pixel p (R19). -/
def localAddr (p : Nat) : Nat :=
  let x := p % 2048
  let y := p / 2048
  let n := regionOf p
  let tile := 2 * ((y - regionRow n) / 32) + (x - regionCol n) / 32
  x % 32 + 32 * (y % 32) + 1024 * tile

/-- One source pixel: intensity widened to 16 bits, alpha and tag (R56, R57). -/
structure Px where
  inten : Nat
  alpha : Nat
  tag : Nat
  deriving DecidableEq, Repr

/-- 12 bits widened to 16 by replication (R57). -/
def widen12 (i : Nat) : Nat := i * 16 + i / 256

/-- The binding of a surface slot (R54, R86). -/
structure Surf where
  addr : Nat
  w : Nat
  h : Nat
  format : Nat
  comp : Nat
  isLocal : Bool
  frames : Nat
  bound : Bool
  stride : Nat
  frameb : Nat
  deriving DecidableEq, Repr

/-- Bytes per pixel of a format (R56). -/
def bytesPer (format : Nat) : Nat := if format = 0 then 2 else if format = 1 then 3 else 4

/-- A pixel from its stored number (R56, R57). -/
def unpack (format n : Nat) : Px :=
  if format = 0 then ⟨widen12 (bitsOf n 4 12), 255, bitsOf n 0 4⟩
  else if format = 1 then ⟨bitsOf n 8 16, bitsOf n 0 8, 0⟩
  else ⟨bitsOf n 16 16, bitsOf n 8 8, bitsOf n 0 8⟩

/-- What a source read gives: a pixel, a failed read, or a decode error in a tile (R62). -/
inductive Src where
  | px (p : Px)
  | lost
  | bad (tile : Nat)
  deriving DecidableEq, Repr

/-- n bytes from address a as one number, little-endian; none if one of them could not be read. -/
def readLe (rd : Nat → Option Nat) (a : Nat) : Nat → Option Nat
  | 0 => some 0
  | n + 1 =>
    match rd a, readLe rd (a + 1) n with
    | some b, some r => some (b + 256 * r)
    | _, _ => none

/-- The padded directory size of a GTC surface in bytes (R59). -/
def gtcDirBytes (w h : Nat) : Nat := ceilDiv (4 * (ceilDiv w 32 * ceilDiv h 32)) 64 * 64

/-- The 32 values of one DELTA row: residual width w at bit position pos of number n, prediction of the first pixel,
channel width cw (R60). -/
def gtcRow (n cw w : Nat) : Nat → Nat → Nat → List Nat
  | 0, _, _ => []
  | k + 1, pos, pred =>
    let z := bitsOf n pos w
    let v := if z % 2 = 0 then (pred + z / 2) % 2 ^ cw else (pred + 2 ^ cw - (z + 1) / 2 % 2 ^ cw) % 2 ^ cw
    v :: gtcRow n cw w k (pos + w) v

/-- The rows of a DELTA section from row width list ws (R60); the bit position after them. -/
def gtcRows (n cw : Nat) : List Nat → Nat → Nat → List Nat × Nat
  | [], pos, _ => ([], pos)
  | w :: ws, pos, above =>
    let row := gtcRow n cw w 32 pos above
    let rest := gtcRows n cw ws (pos + 32 * w) (row.headD 0)
    (row ++ rest.1, rest.2)

/-- One channel section of a tile record: the record's number and length in bytes, channel width and the section's
first byte; its 1,024 values and the byte after it, or none for a decode error (R60). Bits of a CONST value above the channel
width are ignored (log 207). -/
def gtcSection (n len cw p : Nat) : Option (List Nat × Nat) :=
  let mode := bitsOf n (8 * p) 8
  if len < p + 1 then none
  else if mode = 0 then
    let nb := if cw ≤ 8 then 1 else 2
    if len < p + 1 + nb then none
    else some (List.replicate 1024 (bitsOf n (8 * (p + 1)) cw), p + 1 + nb)
  else if mode = 1 then
    let q := p + 1 + ceilDiv (1024 * cw) 8
    if len < q then none
    else some ((List.range 1024).map (fun i => bitsOf n (8 * (p + 1) + cw * i) cw), q)
  else if mode = 2 then
    if len < p + 21 then none
    else
      let ws := (List.range 32).map (fun r => bitsOf n (8 * (p + 1) + 5 * r) 5)
      if ws.any (fun w => decide (cw < w)) then none
      else
        let r := gtcRows n cw ws (8 * (p + 21)) 0
        if 8 * len < r.2 then none else some (r.1, ceilDiv r.2 8)
  else none

/-- The channel widths of a format in section order: intensity, alpha, tag (R60). -/
def gtcWidths (format : Nat) : List Nat :=
  if format = 0 then [12, 4] else if format = 1 then [16, 8] else [16, 8, 8]

/-- All sections of a record (R60). -/
def gtcSections (n len : Nat) : List Nat → Nat → Option (List (List Nat))
  | [], _ => some []
  | cw :: cws, p =>
    match gtcSection n len cw p with
    | none => none
    | some (vs, q) =>
      match gtcSections n len cws q with
      | none => none
      | some r => some (vs :: r)

/-- Pixel i of a decoded record (R57, R60). -/
def gtcPixel (format : Nat) (chans : List (List Nat)) (i : Nat) : Px :=
  let at' (k : Nat) := (chans.getD k []).getD i 0
  if format = 0 then ⟨widen12 (at' 0), 255, at' 1⟩
  else if format = 1 then ⟨at' 0, at' 1, 0⟩
  else ⟨at' 0, at' 1, at' 2⟩

/-- Pixel (x, y) of the GTC surface at base (R59, R60). A record that its entry places inside the directory is taken
as a decode error. -/
def gtcAt (rd : Nat → Option Nat) (sf : Surf) (base x y : Nat) : Src :=
  let tile := y / 32 * ceilDiv sf.w 32 + x / 32
  match readLe rd (base + 4 * tile) 4 with
  | none => .lost
  | some e =>
    let off := 64 * bitsOf e 0 24
    let len := 64 * bitsOf e 24 8
    if off < gtcDirBytes sf.w sf.h then .bad tile
    else
      match readLe rd (base + off) len with
      | none => .lost
      | some n =>
        match gtcSections n len (gtcWidths sf.format) 0 with
        | none => .bad tile
        | some ch => .px (gtcPixel sf.format ch (y % 32 * 32 + x % 32))

/-- Pixel i of a GTC-L block (R61). -/
def gtclPixel (format n i : Nat) : Option Px :=
  if format = 0 then
    if 6 < bitsOf n 12 4 then none
    else some ⟨widen12 (min 0xFFF (bitsOf n 0 12 + bitsOf n (20 + 6 * i) 6 * 2 ^ bitsOf n 12 4)), 255, bitsOf n 16 4⟩
  else
    if 9 < bitsOf n 16 4 then none
    else some ⟨min 0xFFFF (bitsOf n 0 16 + bitsOf n (31 + 7 * i) 7 * 2 ^ bitsOf n 16 4),
      min 0xFF (bitsOf n 20 8 + bitsOf n (143 + 3 * i) 3 * 2 ^ bitsOf n 28 3), 0⟩

/-- Bytes of a GTC-L tile (R61). -/
def gtclTile (format : Nat) : Nat := if format = 0 then 1024 else 1536

/-- Pixel (x, y) of the GTC-L surface at base (R61). -/
def gtclAt (rd : Nat → Option Nat) (sf : Surf) (base x y : Nat) : Src :=
  let tile := y / 32 * (sf.w / 32) + x / 32
  let blk := y % 32 / 4 * 8 + x % 32 / 4
  let bb := gtclTile sf.format / 64
  match readLe rd (base + gtclTile sf.format * tile + bb * blk) bb with
  | none => .lost
  | some n =>
    match gtclPixel sf.format n (y % 4 * 4 + x % 4) with
    | none => .bad tile
    | some p => .px p

/-- Pixel (x, y) of the surface whose frame starts at base (R56–R61). -/
def surfAt (rd : Nat → Option Nat) (sf : Surf) (base x y : Nat) : Src :=
  if sf.comp = 1 then gtcAt rd sf base x y
  else if sf.comp = 2 then gtclAt rd sf base x y
  else
    match readLe rd (base + y * sf.stride + x * bytesPer sf.format) (bytesPer sf.format) with
    | none => .lost
    | some n => .px (unpack sf.format n)

/-- Bytes one frame of a slot names, from the frame's start (R63); dir is the furthest record end of a validated
GTC directory. -/
def surfExtent (sf : Surf) (dir : Nat) : Nat :=
  if sf.comp = 1 then max (gtcDirBytes sf.w sf.h) dir
  else if sf.comp = 2 then sf.w / 32 * ceilDiv sf.h 32 * gtclTile sf.format
  else sf.stride * sf.h

/-- The layer's pixel as blending takes it. -/
structure Contrib where
  inten : Nat
  alpha : Nat
  cls : Nat
  /-- k of R68 is 1 -/
  premul : Bool
  deriving DecidableEq, Repr

/-- The class of a source pixel (R58): tag for P16 and P32 unless overridden. -/
def pixClass (format tag cls : Nat) (ovr : Bool) : Nat := if ovr ∨ format = 1 then cls else tag % 4

/-- Straight pixels are multiplied by their own alpha before filtering (R66). -/
def premultiply (premul : Bool) (p : Px) : Nat := if premul then p.inten else roundEven (p.alpha * p.inten) 255

/-- Source index nearest the filter centre of destination index i, for src source pixels on dst (R66). -/
def nearest (src dst i : Nat) : Nat := min (src - 1) ((2 * i + 1) * src / (2 * dst))

/-- The last source pixel whose centre is not right of the filter centre of destination index i, and the phase: how far
the filter centre lies past it, in 64ths of a pixel (R66). -/
def axisPlace (src dst i : Nat) : Int × Nat :=
  let num : Int := (2 * i + 1) * src - dst
  let left := num / (2 * dst)
  (left, ((num - left * (2 * dst)) * 64 / (2 * dst)).toNat)

/-- The source pixels the filter of R66 takes for destination index i, on both sides of its centre; at the window's edges
the last pixel stands for those outside. -/
def axisTaps (src dst i : Nat) : List Nat :=
  if src = dst then [i]
  else
    let left := (axisPlace src dst i).1
    let tap (k : Int) : Nat := (held 0 ((src : Int) - 1) (left + k)).toNat
    if src ≤ 2 * dst then [tap (-1), tap 0, tap 1, tap 2] else [tap 0, tap 1]

/-- The 2-tap linear filter at a phase in 64ths, its rounding open (R66). -/
def linear2 (phase a b : Nat) : Nat :=
  let sum := (64 - phase) * a + phase * b
  sum / 64 + (if sum % 64 ≠ 0 ∧ Config.roundsUp phase a b then 1 else 0)

/-- The 4-tap polyphase filter at a phase, its coefficients and rounding open (R66). -/
def poly4 (phase : Nat) (v : List Nat) : Nat :=
  Config.round4 (((List.range 4).map (fun k => Config.coef4 phase k * (v.getD k 0 : Rat))).sum) % 65536

/-- One axis of the scaler over the source values f 0 … f (src-1): unchanged at 1:1, else the filter of its ratio
(R66). -/
def scaleAxis (src dst i : Nat) (f : Nat → Nat) : Nat :=
  let phase := (axisPlace src dst i).2
  match (axisTaps src dst i).map f with
  | [a] => a
  | [a, b] => linear2 phase a b
  | v => poly4 phase v

/-- The exact common denominator of R68 with every alpha a fraction of 255. -/
def den3 : Nat := 255 * 255 * 255

/-- Coverage w of R68, times den3. -/
def coverage (aPx aLayer m : Nat) : Nat := aPx * aLayer * m

/-- Contribution c of R68, times den3. -/
def contribution (src aPx aLayer m : Nat) (premul : Bool) : Nat := src * (if premul then 255 else aPx) * aLayer * m

/-- One layer blended over dst (R68, R69): exact, one rounding to nearest-even, saturated at 65,535. -/
def blend (op dst w c : Nat) : Nat :=
  let keep := dst * (den3 - w)
  min 65535
    (if op = 0 then roundEven (keep + c) den3
     else if op = 1 then roundEven (keep * 65535 + dst * c) (den3 * 65535)
     else if op = 2 then roundEven (keep + max (w * dst) c) den3
     else roundEven (keep + min (w * dst) c) den3)

/-- The side value of R70. -/
structure Side where
  cls : Nat
  base : Bool
  masked : Bool
  deriving DecidableEq, Repr

def Side.toNat (s : Side) : Nat := s.cls % 4 + 4 * flag s.base + 8 * flag s.masked
def Side.ofNat (n : Nat) : Side := ⟨n % 4, bitOf n 2, bitOf n 3⟩

/-- The legal maximum of an envelope code (R114). -/
def envMax (code : Nat) : Nat :=
  if code = 0xFF then 65535
  else if bitsOf code 5 3 = 0 then bitsOf code 0 5 * 16
  else (32 + bitsOf code 0 5) * 2 ^ (bitsOf code 5 3 + 3)

/-- One pixel of the scale-and-clamp pass after scaling (R116). -/
def clampPixel (v floor maxv : Nat) (side : Side) (released permitted : Bool) : Nat :=
  let a := if side.base ∧ ¬ released then max v floor else v
  let b := if ¬ permitted ∧ side.cls = 1 then min a (if side.base then floor else 0) else a
  min b maxv

/-- The drive mapper: range and code of intensity i (R132, R133). -/
def driveMap (rmin : Nat) (lowcut : Bool) (i : Nat) : Nat × Nat :=
  let fits (s : Nat) : Bool := decide (roundEven i (2 ^ (s + 1)) ≤ 4095)
  let s0 := if fits 0 then 0 else if fits 1 then 1 else if fits 2 then 2 else 3
  let s := max rmin s0
  let p := min 4095 (roundEven i (2 ^ (s + 1)))
  let p' := if lowcut ∧ s = 0 ∧ 1 ≤ p ∧ p ≤ 15 then (if p < 8 then 0 else 16) else p
  (if p' = 0 then 0 else s, p')

/-- LOWCUT changed the code of intensity i (R132). -/
def lowcutHit (rmin i : Nat) : Bool :=
  let s := max rmin (driveMap 0 false i).1
  let p := min 4095 (roundEven i (2 ^ (s + 1)))
  decide (s = 0 ∧ 1 ≤ p ∧ p ≤ 15)

/-- The pixel word of R134. -/
def pixelWord (p s level : Nat) : Nat := p % 4096 + 4096 * (s % 4) + 65536 * (level % 65536)

/-- Rank and pulse offset of tile t in sub-period j (R136). -/
def rank (t j seed : Nat) : Nat := (7 * j + 11 * t + seed) % 16
def pulseOffset (t j seed : Nat) : Nat := (37 * j + 101 * t + 16 * seed) % 256

/-- Slots a pixel with code p is on in sub-period j (R136). -/
def slotsOn (t j seed p : Nat) : Nat := p / 16 + (if rank t j seed < p % 16 then 1 else 0)

end Sys2Proof.Machine
end

