-- ==== Sys2Proof/Machine/Predict.lean ====
section
/-! DEFINITION. Gecko's arithmetic: object lists (R100, R101), prediction to a band (R109–R111) and the mask (R112).
Times are device nanoseconds as exact rationals, positions are pixels as exact rationals. -/

namespace Sys2Proof.Machine

/-- Byte i of a list of bytes, 0 past its end. -/
def byteAt (bs : List Nat) (i : Nat) : Nat := bs.getD i 0 % 256

/-- The n-byte little-endian number at byte i (R8). -/
def numAt (bs : List Nat) (i n : Nat) : Nat := leNat ((bs.drop i).take n)

/-- The signed n-byte number at byte i. -/
def intAt (bs : List Nat) (i n : Nat) : Int := signed (8 * n) (numAt bs i n)

/-- One object record of 32 bytes (R100). -/
def objRec (bs : List Nat) : ObjRec :=
  { id := numAt bs 0 2, cls := byteAt bs 2 % 16, valid := bitOf (byteAt bs 2) 4, noMotion := bitOf (byteAt bs 2) 5,
    conf := byteAt bs 3, h := intAt bs 4 2, v := intAt bs 6 2, hw := numAt bs 8 2, hh := numAt bs 10 2,
    vh := intAt bs 12 2, vv := intAt bs 14 2, ah := intAt bs 16 2, av := intAt bs 18 2, dw := intAt bs 20 2,
    dh := intAt bs 22 2, tofs := intAt bs 24 4 }

/-- n records of 32 bytes. -/
def objRecs : Nat → List Nat → List ObjRec
  | 0, _ => []
  | n + 1, bs => objRec (bs.take 32) :: objRecs n (bs.drop 32)

/-- A record that breaks R101: class 15, or a half-size above 4,096. -/
def objBad (o : ObjRec) : Bool := o.valid && (o.cls == 15 || decide (4096 < o.hw) || decide (4096 < o.hh))

/-- Device nanoseconds of an instant in SCA cycles (320 MHz, R35). -/
def nsOf (cyc : Nat) : Rat := (cyc : Rat) * 25 / 8

/-- Device nanoseconds of host instant h by the model (R105, R106). -/
def modelTime (href tref rate : Rat) (h : Rat) : Rat := tref + (h - href) / (1 + rate)

/-- Emission mid-time of band b, in device nanoseconds: t1 is T_(k+1), p and bask in µs, lat signed µs (R109). -/
def bandTime (t1 : Rat) (p bask : Nat) (lat : Int) (b : Nat) : Rat :=
  t1 + 1000 * (bask : Rat) + nsOf ((40 * b + 20) * (p - bask)) + 500 * (p : Rat) + 1000 * (lat : Rat)

/-- The horizon in ms before holding (R110). -/
def rawHorizon (tb tobs : Rat) : Rat := (tb - tobs) / 1000000

/-- The horizon in ms (R110). -/
def horizon (maxMs : Nat) (tb tobs : Rat) : Rat :=
  let d := rawHorizon tb tobs
  if d < 0 then 0 else if (maxMs : Rat) < d then (maxMs : Rat) else d

/-- A predicted box: centre and half-sizes in pixels (R110). -/
structure Pred where
  h : Rat
  v : Rat
  hw : Rat
  hh : Rat

/-- Prediction of a record over dt ms (R110); NOMOTION takes every motion field as zero (R100). -/
def predict (o : ObjRec) (dt : Rat) : Pred :=
  let m (i : Int) : Rat := if o.noMotion then 0 else (i : Rat)
  { h := (o.h : Rat) / 8 + m o.vh / 256 * dt + m o.ah / 1024 * (dt * dt) / 2
    v := (o.v : Rat) / 8 + m o.vv / 256 * dt + m o.av / 1024 * (dt * dt) / 2
    hw := max 0 ((o.hw : Rat) / 8 + m o.dw / 256 * dt)
    hh := max 0 ((o.hh : Rat) / 8 + m o.dh / 256 * dt) }

/-- Class parameters of GKO_CLSc (R122). -/
structure ClassPar where
  depth : Nat
  marginH : Nat
  marginV : Nat
  grow : Nat
  feather : Nat
  deriving DecidableEq, Repr

/-- A rectangle of pixels, both ends included; empty where a low end exceeds its high end. -/
structure Rect where
  x0 : Int
  x1 : Int
  y0 : Int
  y1 : Int
  deriving DecidableEq, Repr

/-- The least integer not below r, and the greatest not above. -/
def ratCeil (r : Rat) : Int := -(Rat.floor (-r))
def ratFloor (r : Rat) : Int := Rat.floor r

/-- The pixels inside the widened box: mapPt places a nominal raster position (R111). -/
def boxRect (mapPt : Rat → Rat → Rat × Rat) (c : ClassPar) (p : Pred) (dt : Rat) : Rect :=
  let xl := 1024 + p.h - p.hw
  let xr := 1024 + p.h + p.hw
  let yt := 384 - p.v - p.hh
  let yb := 384 - p.v + p.hh
  let a := mapPt xl yt
  let b := mapPt xr yt
  let d := mapPt xl yb
  let e := mapPt xr yb
  let mh := (c.marginH : Rat) + (c.grow : Rat) / 1024 * dt
  let mv := (c.marginV : Rat) + (c.grow : Rat) / 1024 * dt
  { x0 := ratCeil (min (min a.1 b.1) (min d.1 e.1) - mh - 1 / 2)
    x1 := ratFloor (max (max a.1 b.1) (max d.1 e.1) + mh - 1 / 2)
    y0 := ratCeil (min (min a.2 b.2) (min d.2 e.2) - mv - 1 / 2)
    y1 := ratFloor (max (max a.2 b.2) (max d.2 e.2) + mv - 1 / 2) }

/-- Chebyshev distance of pixel (x, y) from a rectangle; none where the rectangle is empty. -/
def Rect.dist (r : Rect) (x y : Int) : Option Nat :=
  if r.x1 < r.x0 ∨ r.y1 < r.y0 then none
  else
    let dx := if x < r.x0 then r.x0 - x else if r.x1 < x then x - r.x1 else 0
    let dy := if y < r.y0 then r.y0 - y else if r.y1 < y then y - r.y1 else 0
    some (max dx dy).toNat

/-- M that a box gives at distance d (R112). -/
def featherM (c : ClassPar) (d : Nat) : Nat :=
  if d = 0 then c.depth
  else if d ≤ c.feather then c.depth + (255 - c.depth) * d / (c.feather + 1)
  else 255

/-- A box as drawn in a band: its rectangles, two where the seam union applies, and its class. -/
structure Drawn where
  cls : ClassPar
  rect : Rect
  deriving DecidableEq, Repr

/-- M of pixel (x, y) under the rectangles that reach it (R112); one that contains no pixel centre reaches none (log 210). -/
def maskAt (ds : List Drawn) (x y : Int) : Nat :=
  ds.foldl (fun m d => match d.rect.dist x y with
    | some k => min m (featherM d.cls k)
    | none => m) 255

/-- The raster rows of band b (R18, R112). -/
def bandRows (b : Nat) : List Nat :=
  (List.range 40).map (fun i => 40 * b + i) ++ (List.range 40).map (fun i => 320 + 40 * b + i)

/-- The rectangles that draw row y of band b: the band's own, and the neighbour band's within SEAM_ROWS of a seam of
the same half (R112). -/
def rowDrawn (seam : Nat) (own prev next : List Drawn) (b y : Nat) : List Drawn :=
  let i := y % 320 % 40
  own ++ (if 0 < b ∧ i < seam then prev else []) ++ (if b < 7 ∧ 40 - seam ≤ i then next else [])

/-- The columns of row y a rectangle can lower. -/
def rowSpan (ds : List Drawn) (y : Int) : Int × Int :=
  ds.foldl (fun s d =>
    if d.rect.x1 < d.rect.x0 ∨ y < d.rect.y0 - d.cls.feather ∨ d.rect.y1 + d.cls.feather < y then s
    else (min s.1 (d.rect.x0 - d.cls.feather), max s.2 (d.rect.x1 + d.cls.feather))) (2048, -1)

/-- The mask cells of row y (255 is not listed). -/
def rowMask (ds : List Drawn) (y : Nat) : Cells :=
  let sp := rowSpan ds y
  let lo := sp.1.toNat
  let hi := min 2047 sp.2
  if hi < 0 then [] else
    (List.range (hi.toNat + 1 - lo)).filterMap (fun i =>
      let m := maskAt ds ((lo + i : Nat) : Int) (y : Int)
      if m = 255 then none else some (pixAddr (lo + i) y, m))

end Sys2Proof.Machine
end

