-- ==== Sys2Proof/Machine/RegMap.lean ====
section
/-! DEFINITION. The register fields of the 16 MiB window, one definition for each field of the register maps of
spec/ (R30, R50, R85–R87, R122, R123, R149, R177, R178, R204, R205, R228, R256, R298, R299, R339, R340, R371, R372,
R394, R395, R420), and the map from a word's offset to its fields. A field marked reserved has no entry: it reads as
zero (R7). Where a map gives one register for each region, layer, ring or die, the field takes that number. -/

namespace Sys2Proof.Machine

/-! `TCK_BCAST_MIXED` (R30) -/
def TCK_BCAST_MIXED_MIXED : Fld := ⟨0x10800, 0, 1, .w1c, 0x0⟩
def TCK_BCAST_MIXED_EMPTY : Fld := ⟨0x10800, 1, 1, .w1c, 0x0⟩
def TCK_BCAST_MIXED_SKIPPED : Fld := ⟨0x10800, 2, 1, .w1c, 0x0⟩
def TCK_BCAST_MIXED_ALIAS : Fld := ⟨0x10800, 4, 8, .ro, 0x0⟩
def TCK_BCAST_MIXED_OFFSET : Fld := ⟨0x10800, 12, 12, .ro, 0x0⟩
/-! `TCK_GRP_LO` (R30) -/
def TCK_GRP_LO_MEMBERS (g : Nat) : Fld := ⟨0x10810 + 0x8 * g, 0, 32, .rw, 0x0⟩
/-! `TCK_GRP_HI` (R30) -/
def TCK_GRP_HI_MEMBERS (g : Nat) : Fld := ⟨0x10814 + 0x8 * g, 0, 32, .rw, 0x0⟩
/-! `TCK_CTL` (R50) -/
def TCK_CTL_SYNC_ROLE : Fld := ⟨0x10000, 0, 2, .lck, 0x0⟩
def TCK_CTL_TOUT_EN : Fld := ⟨0x10000, 2, 1, .rw, 0x1⟩
def TCK_CTL_TOUT_MODE : Fld := ⟨0x10000, 3, 1, .rw, 0x0⟩
/-! `TCK_PERIOD` (R50) -/
def TCK_PERIOD_PERIOD_US : Fld := ⟨0x10004, 0, 13, .rw, 0xfa0⟩
/-! `TCK_BASK` (R50) -/
def TCK_BASK_BASK_US : Fld := ⟨0x10008, 0, 10, .rw, 0xfa⟩
/-! `TCK_APPLY` (R50) -/
def TCK_APPLY_GO : Fld := ⟨0x1000c, 0, 1, .wo, 0x0⟩
def TCK_APPLY_PENDING : Fld := ⟨0x1000c, 1, 1, .ro, 0x0⟩
def TCK_APPLY_ERR : Fld := ⟨0x1000c, 2, 1, .w1c, 0x0⟩
def TCK_APPLY_AT_LO : Fld := ⟨0x1000c, 8, 24, .ro, 0x0⟩
/-! `TCK_ACTIVE` (R50) -/
def TCK_ACTIVE_PERIOD_US : Fld := ⟨0x10010, 0, 13, .ro, 0xfa0⟩
def TCK_ACTIVE_BASK_US : Fld := ⟨0x10010, 16, 10, .ro, 0xfa⟩
/-! `TCK_ROWTIME` (R50) -/
def TCK_ROWTIME_ROW_CYC : Fld := ⟨0x10014, 0, 13, .ro, 0xea6⟩
/-! `TCK_COUNT_LO` (R50) -/
def TCK_COUNT_LO_COUNT : Fld := ⟨0x10018, 0, 32, .ro, 0x0⟩
/-! `TCK_COUNT_HI` (R50) -/
def TCK_COUNT_HI_COUNT : Fld := ⟨0x1001c, 0, 16, .ro, 0x0⟩
/-! `TCK_ROWPOS` (R50) -/
def TCK_ROWPOS_ROW : Fld := ⟨0x10020, 0, 9, .ro, 0x0⟩
def TCK_ROWPOS_BASK : Fld := ⟨0x10020, 9, 1, .ro, 0x1⟩
/-! `TCK_OVR` (R50) -/
def TCK_OVR_CONSEC : Fld := ⟨0x10030, 0, 8, .ro, 0x0⟩
def TCK_OVR_LIMIT : Fld := ⟨0x10030, 8, 4, .rw, 0x2⟩
/-! `TCK_OVR_COUNT` (R50) -/
def TCK_OVR_COUNT_COUNT : Fld := ⟨0x10034, 0, 32, .rc, 0x0⟩
/-! `TCK_SLACK` (R50) -/
def TCK_SLACK_LAST_US : Fld := ⟨0x10038, 0, 13, .ro, 0x0⟩
def TCK_SLACK_MIN_US : Fld := ⟨0x10038, 16, 13, .rw, 0x1fff⟩
/-! `TCK_CLKMON` (R50) -/
def TCK_CLKMON_TOL_PCT : Fld := ⟨0x1003c, 0, 8, .rw, 0x5⟩
def TCK_CLKMON_MEAS_US : Fld := ⟨0x1003c, 16, 16, .ro, 0x0⟩
/-! `TCK_SYNC_STAT` (R50) -/
def TCK_SYNC_STAT_STATE : Fld := ⟨0x10040, 0, 3, .ro, 0x0⟩
def TCK_SYNC_STAT_MASTER_IDX : Fld := ⟨0x10040, 4, 2, .ro, 0x0⟩
def TCK_SYNC_STAT_OWN_IDX : Fld := ⟨0x10040, 6, 2, .ro, 0x0⟩
def TCK_SYNC_STAT_PRESENT : Fld := ⟨0x10040, 8, 4, .ro, 0x0⟩
def TCK_SYNC_STAT_ELIGIBLE : Fld := ⟨0x10040, 12, 1, .ro, 0x0⟩
def TCK_SYNC_STAT_PERIOD_DIFF : Fld := ⟨0x10040, 13, 1, .ro, 0x0⟩
/-! `TCK_SYNC_ERR` (R50) -/
def TCK_SYNC_ERR_LAST : Fld := ⟨0x10044, 0, 16, .ro, 0x0⟩
def TCK_SYNC_ERR_PEAK : Fld := ⟨0x10044, 16, 16, .rc, 0x0⟩
/-! `TCK_SYNC_CFG` (R50) -/
def TCK_SYNC_CFG_LOSS_TICKS : Fld := ⟨0x10048, 0, 4, .rw, 0x3⟩
def TCK_SYNC_CFG_PULLIN_US : Fld := ⟨0x10048, 4, 6, .rw, 0x19⟩
def TCK_SYNC_CFG_ELIG_TICKS : Fld := ⟨0x10048, 12, 8, .rw, 0x40⟩
/-! `TCK_SL_HOPDLY` (R50) -/
def TCK_SL_HOPDLY_DELAY : Fld := ⟨0x1004c, 0, 16, .ro, 0x0⟩
/-! `TCK_SYNC_CNT` (R50) -/
def TCK_SYNC_CNT_LOSS : Fld := ⟨0x10050, 0, 16, .rc, 0x0⟩
def TCK_SYNC_CNT_MASTER_CHG : Fld := ⟨0x10050, 16, 16, .rc, 0x0⟩
/-! `TCK_CROAK` (R50) -/
def TCK_CROAK_LAT_A : Fld := ⟨0x10060, 0, 8, .ro, 0x0⟩
def TCK_CROAK_LAT_B : Fld := ⟨0x10060, 8, 8, .ro, 0x0⟩
def TCK_CROAK_SKEW : Fld := ⟨0x10060, 16, 8, .ro, 0x0⟩
def TCK_CROAK_SKEW_ERR : Fld := ⟨0x10060, 24, 1, .w1c, 0x0⟩

/-! `CMP_CTL` (R85) -/
def CMP_CTL_EPOCH_SYNC : Fld := ⟨0x80000, 0, 1, .rw, 0x0⟩
/-! `CMP_CUTOFF` (R85) -/
def CMP_CUTOFF_ROWS : Fld := ⟨0x80004, 0, 7, .rw, 0x4⟩
/-! `CMP_MASK` (R85) -/
def CMP_MASK_CLASSES : Fld := ⟨0x80008, 0, 4, .rw, 0xe⟩
/-! `CMP_COMMIT` (R85) -/
def CMP_COMMIT_ARMED : Fld := ⟨0x8000c, 0, 1, .ro, 0x0⟩
def CMP_COMMIT_LATE : Fld := ⟨0x8000c, 1, 1, .ro, 0x0⟩
def CMP_COMMIT_EPOCH_WAIT : Fld := ⟨0x8000c, 2, 1, .ro, 0x0⟩
def CMP_COMMIT_AT_LO : Fld := ⟨0x8000c, 8, 24, .ro, 0x0⟩
/-! `CMP_LATE_COUNT` (R85) -/
def CMP_LATE_COUNT_COUNT : Fld := ⟨0x80010, 0, 32, .rc, 0x0⟩
/-! `CMP_EPOCH_ACTIVE` (R85) -/
def CMP_EPOCH_ACTIVE_EPOCH : Fld := ⟨0x80014, 0, 32, .ro, 0x0⟩
/-! `CMP_EPOCH_ARMED` (R85) -/
def CMP_EPOCH_ARMED_EPOCH : Fld := ⟨0x80018, 0, 32, .ro, 0x0⟩
/-! `CMP_EPOCH_CFG` (R85) -/
def CMP_EPOCH_CFG_TIMEOUT_TICKS : Fld := ⟨0x8001c, 0, 8, .rw, 0x10⟩
/-! `CMP_ERR_COUNT` (R85) -/
def CMP_ERR_COUNT_FETCH : Fld := ⟨0x80020, 0, 16, .rc, 0x0⟩
def CMP_ERR_COUNT_GTC : Fld := ⟨0x80020, 16, 16, .rc, 0x0⟩
/-! `CMP_TIME` (R85) -/
def CMP_TIME_LAST_US : Fld := ⟨0x80024, 0, 13, .ro, 0x0⟩
def CMP_TIME_MAX_US : Fld := ⟨0x80024, 16, 13, .rw, 0x0⟩
/-! `CMP_STAT` (R85) -/
def CMP_STAT_FRONT : Fld := ⟨0x80028, 0, 1, .ro, 0x0⟩
/-! `CMP_SURF_ADDR_LO` (R86) -/
def CMP_SURF_ADDR_LO_ADDR (s : Nat) : Fld := ⟨0x80400 + 0x20 * s, 0, 32, .ro, 0x0⟩
/-! `CMP_SURFSH_ADDR_LO` (R86) -/
def CMP_SURFSH_ADDR_LO_ADDR (s : Nat) : Fld := ⟨0x80800 + 0x20 * s, 0, 32, .ro, 0x0⟩
/-! `CMP_SURF_ADDR_HI` (R86) -/
def CMP_SURF_ADDR_HI_ADDR (s : Nat) : Fld := ⟨0x80404 + 0x20 * s, 0, 32, .ro, 0x0⟩
/-! `CMP_SURFSH_ADDR_HI` (R86) -/
def CMP_SURFSH_ADDR_HI_ADDR (s : Nat) : Fld := ⟨0x80804 + 0x20 * s, 0, 32, .ro, 0x0⟩
/-! `CMP_SURF_GEOM` (R86) -/
def CMP_SURF_GEOM_W (s : Nat) : Fld := ⟨0x80408 + 0x20 * s, 0, 14, .ro, 0x0⟩
def CMP_SURF_GEOM_H (s : Nat) : Fld := ⟨0x80408 + 0x20 * s, 16, 12, .ro, 0x0⟩
/-! `CMP_SURFSH_GEOM` (R86) -/
def CMP_SURFSH_GEOM_W (s : Nat) : Fld := ⟨0x80808 + 0x20 * s, 0, 14, .ro, 0x0⟩
def CMP_SURFSH_GEOM_H (s : Nat) : Fld := ⟨0x80808 + 0x20 * s, 16, 12, .ro, 0x0⟩
/-! `CMP_SURF_FMT` (R86) -/
def CMP_SURF_FMT_FORMAT (s : Nat) : Fld := ⟨0x8040c + 0x20 * s, 0, 2, .ro, 0x0⟩
def CMP_SURF_FMT_COMP (s : Nat) : Fld := ⟨0x8040c + 0x20 * s, 2, 2, .ro, 0x0⟩
def CMP_SURF_FMT_LOCAL (s : Nat) : Fld := ⟨0x8040c + 0x20 * s, 4, 1, .ro, 0x0⟩
def CMP_SURF_FMT_FRAMES (s : Nat) : Fld := ⟨0x8040c + 0x20 * s, 8, 8, .ro, 0x0⟩
def CMP_SURF_FMT_BOUND (s : Nat) : Fld := ⟨0x8040c + 0x20 * s, 31, 1, .ro, 0x0⟩
/-! `CMP_SURFSH_FMT` (R86) -/
def CMP_SURFSH_FMT_FORMAT (s : Nat) : Fld := ⟨0x8080c + 0x20 * s, 0, 2, .ro, 0x0⟩
def CMP_SURFSH_FMT_COMP (s : Nat) : Fld := ⟨0x8080c + 0x20 * s, 2, 2, .ro, 0x0⟩
def CMP_SURFSH_FMT_LOCAL (s : Nat) : Fld := ⟨0x8080c + 0x20 * s, 4, 1, .ro, 0x0⟩
def CMP_SURFSH_FMT_FRAMES (s : Nat) : Fld := ⟨0x8080c + 0x20 * s, 8, 8, .ro, 0x0⟩
def CMP_SURFSH_FMT_BOUND (s : Nat) : Fld := ⟨0x8080c + 0x20 * s, 31, 1, .ro, 0x0⟩
/-! `CMP_SURF_STRIDE` (R86) -/
def CMP_SURF_STRIDE_BYTES (s : Nat) : Fld := ⟨0x80410 + 0x20 * s, 0, 20, .ro, 0x0⟩
/-! `CMP_SURFSH_STRIDE` (R86) -/
def CMP_SURFSH_STRIDE_BYTES (s : Nat) : Fld := ⟨0x80810 + 0x20 * s, 0, 20, .ro, 0x0⟩
/-! `CMP_SURF_FRAMEB` (R86) -/
def CMP_SURF_FRAMEB_BYTES (s : Nat) : Fld := ⟨0x80414 + 0x20 * s, 0, 32, .ro, 0x0⟩
/-! `CMP_SURFSH_FRAMEB` (R86) -/
def CMP_SURFSH_FRAMEB_BYTES (s : Nat) : Fld := ⟨0x80814 + 0x20 * s, 0, 32, .ro, 0x0⟩

/-! `LYR_CTL` (R87) -/
def LYR_CTL_EN (n : Nat) : Fld := ⟨0x81000 + 0x100 * n + 0x0, 0, 1, .ro, 0x0⟩
def LYR_CTL_OP (n : Nat) : Fld := ⟨0x81000 + 0x100 * n + 0x0, 1, 2, .ro, 0x0⟩
def LYR_CTL_PREMUL (n : Nat) : Fld := ⟨0x81000 + 0x100 * n + 0x0, 3, 1, .ro, 0x0⟩
def LYR_CTL_LIVE (n : Nat) : Fld := ⟨0x81000 + 0x100 * n + 0x0, 4, 1, .ro, 0x0⟩
def LYR_CTL_TAG_OVR (n : Nat) : Fld := ⟨0x81000 + 0x100 * n + 0x0, 5, 1, .ro, 0x0⟩
def LYR_CTL_CLASS (n : Nat) : Fld := ⟨0x81000 + 0x100 * n + 0x0, 6, 2, .ro, 0x0⟩
def LYR_CTL_ALPHA (n : Nat) : Fld := ⟨0x81000 + 0x100 * n + 0x0, 8, 8, .ro, 0xff⟩
def LYR_CTL_STALE (n : Nat) : Fld := ⟨0x81000 + 0x100 * n + 0x0, 16, 8, .ro, 0x10⟩
def LYR_CTL_SURF (n : Nat) : Fld := ⟨0x81000 + 0x100 * n + 0x0, 24, 5, .ro, 0x0⟩
/-! `LYRSH_CTL` (R87) -/
def LYRSH_CTL_EN (n : Nat) : Fld := ⟨0x81000 + 0x100 * n + 0x40, 0, 1, .ro, 0x0⟩
def LYRSH_CTL_OP (n : Nat) : Fld := ⟨0x81000 + 0x100 * n + 0x40, 1, 2, .ro, 0x0⟩
def LYRSH_CTL_PREMUL (n : Nat) : Fld := ⟨0x81000 + 0x100 * n + 0x40, 3, 1, .ro, 0x0⟩
def LYRSH_CTL_LIVE (n : Nat) : Fld := ⟨0x81000 + 0x100 * n + 0x40, 4, 1, .ro, 0x0⟩
def LYRSH_CTL_TAG_OVR (n : Nat) : Fld := ⟨0x81000 + 0x100 * n + 0x40, 5, 1, .ro, 0x0⟩
def LYRSH_CTL_CLASS (n : Nat) : Fld := ⟨0x81000 + 0x100 * n + 0x40, 6, 2, .ro, 0x0⟩
def LYRSH_CTL_ALPHA (n : Nat) : Fld := ⟨0x81000 + 0x100 * n + 0x40, 8, 8, .ro, 0xff⟩
def LYRSH_CTL_STALE (n : Nat) : Fld := ⟨0x81000 + 0x100 * n + 0x40, 16, 8, .ro, 0x10⟩
def LYRSH_CTL_SURF (n : Nat) : Fld := ⟨0x81000 + 0x100 * n + 0x40, 24, 5, .ro, 0x0⟩
/-! `LYR_DST` (R87) -/
def LYR_DST_X (n : Nat) : Fld := ⟨0x81000 + 0x100 * n + 0x4, 0, 11, .ro, 0x0⟩
def LYR_DST_Y (n : Nat) : Fld := ⟨0x81000 + 0x100 * n + 0x4, 16, 10, .ro, 0x0⟩
/-! `LYRSH_DST` (R87) -/
def LYRSH_DST_X (n : Nat) : Fld := ⟨0x81000 + 0x100 * n + 0x44, 0, 11, .ro, 0x0⟩
def LYRSH_DST_Y (n : Nat) : Fld := ⟨0x81000 + 0x100 * n + 0x44, 16, 10, .ro, 0x0⟩
/-! `LYR_DSZ` (R87) -/
def LYR_DSZ_W (n : Nat) : Fld := ⟨0x81000 + 0x100 * n + 0x8, 0, 12, .ro, 0x0⟩
def LYR_DSZ_H (n : Nat) : Fld := ⟨0x81000 + 0x100 * n + 0x8, 16, 10, .ro, 0x0⟩
/-! `LYRSH_DSZ` (R87) -/
def LYRSH_DSZ_W (n : Nat) : Fld := ⟨0x81000 + 0x100 * n + 0x48, 0, 12, .ro, 0x0⟩
def LYRSH_DSZ_H (n : Nat) : Fld := ⟨0x81000 + 0x100 * n + 0x48, 16, 10, .ro, 0x0⟩
/-! `LYR_SRC` (R87) -/
def LYR_SRC_X (n : Nat) : Fld := ⟨0x81000 + 0x100 * n + 0xc, 0, 13, .ro, 0x0⟩
def LYR_SRC_Y (n : Nat) : Fld := ⟨0x81000 + 0x100 * n + 0xc, 16, 12, .ro, 0x0⟩
/-! `LYRSH_SRC` (R87) -/
def LYRSH_SRC_X (n : Nat) : Fld := ⟨0x81000 + 0x100 * n + 0x4c, 0, 13, .ro, 0x0⟩
def LYRSH_SRC_Y (n : Nat) : Fld := ⟨0x81000 + 0x100 * n + 0x4c, 16, 12, .ro, 0x0⟩
/-! `LYR_SSZ` (R87) -/
def LYR_SSZ_W (n : Nat) : Fld := ⟨0x81000 + 0x100 * n + 0x10, 0, 14, .ro, 0x0⟩
def LYR_SSZ_H (n : Nat) : Fld := ⟨0x81000 + 0x100 * n + 0x10, 16, 12, .ro, 0x0⟩
/-! `LYRSH_SSZ` (R87) -/
def LYRSH_SSZ_W (n : Nat) : Fld := ⟨0x81000 + 0x100 * n + 0x50, 0, 14, .ro, 0x0⟩
def LYRSH_SSZ_H (n : Nat) : Fld := ⟨0x81000 + 0x100 * n + 0x50, 16, 12, .ro, 0x0⟩
/-! `LYR_FADE` (R87) -/
def LYR_FADE_COUNT (n : Nat) : Fld := ⟨0x81000 + 0x100 * n + 0x14, 0, 7, .ro, 0x0⟩
def LYR_FADE_STEP (n : Nat) : Fld := ⟨0x81000 + 0x100 * n + 0x14, 8, 6, .ro, 0x0⟩
def LYR_FADE_RUN (n : Nat) : Fld := ⟨0x81000 + 0x100 * n + 0x14, 16, 1, .ro, 0x0⟩
/-! `LYRSH_FADE` (R87) -/
def LYRSH_FADE_COUNT (n : Nat) : Fld := ⟨0x81000 + 0x100 * n + 0x54, 0, 7, .ro, 0x0⟩
/-! `LYR_SIG` (R87) -/
def LYR_SIG_CRC (n : Nat) : Fld := ⟨0x81000 + 0x100 * n + 0x18, 0, 32, .ro, 0x0⟩
/-! `LYR_STAT` (R87) -/
def LYR_STAT_SAME (n : Nat) : Fld := ⟨0x81000 + 0x100 * n + 0x1c, 0, 8, .ro, 0x0⟩
def LYR_STAT_FROZEN (n : Nat) : Fld := ⟨0x81000 + 0x100 * n + 0x1c, 8, 1, .w1c, 0x0⟩
def LYR_STAT_FETCH_ERR (n : Nat) : Fld := ⟨0x81000 + 0x100 * n + 0x1c, 9, 1, .w1c, 0x0⟩
def LYR_STAT_GTC_ERR (n : Nat) : Fld := ⟨0x81000 + 0x100 * n + 0x1c, 10, 1, .w1c, 0x0⟩
def LYR_STAT_SUPPRESSED (n : Nat) : Fld := ⟨0x81000 + 0x100 * n + 0x1c, 11, 1, .ro, 0x0⟩
def LYR_STAT_FRAME (n : Nat) : Fld := ⟨0x81000 + 0x100 * n + 0x1c, 16, 8, .ro, 0x0⟩
/-! `LYR_FTB` (R87) -/
def LYR_FTB_STEPS (n i : Nat) : Fld := ⟨0x81000 + 0x100 * n + 0x80 + 0x4 * i, 0, 32, .ro, 0x0⟩
/-! `LYR_FTBSH` (R87) -/
def LYR_FTBSH_STEPS (n i : Nat) : Fld := ⟨0x81000 + 0x100 * n + 0xc0 + 0x4 * i, 0, 32, .ro, 0x0⟩

/-! `GKO_CFG` (R122) -/
def GKO_CFG_HORIZON_MS : Fld := ⟨0xa0000, 0, 8, .ro, 0x64⟩
def GKO_CFG_SEAM_ROWS : Fld := ⟨0xa0000, 8, 4, .ro, 0x2⟩
def GKO_CFG_STALE_TICKS : Fld := ⟨0xa0000, 12, 4, .ro, 0x8⟩
def GKO_CFG_LAT_US : Fld := ⟨0xa0000, 16, 16, .ro, 0x0⟩
/-! `GKO_CFGSH` (R122) -/
def GKO_CFGSH_HORIZON_MS : Fld := ⟨0xa0400, 0, 8, .ro, 0x64⟩
def GKO_CFGSH_SEAM_ROWS : Fld := ⟨0xa0400, 8, 4, .ro, 0x2⟩
def GKO_CFGSH_STALE_TICKS : Fld := ⟨0xa0400, 12, 4, .ro, 0x8⟩
def GKO_CFGSH_LAT_US : Fld := ⟨0xa0400, 16, 16, .ro, 0x0⟩
/-! `GKO_CLS` (R122) -/
def GKO_CLS_DEPTH (c : Nat) : Fld := ⟨0xa0100 + 0x4 * c, 0, 8, .ro, 0x0⟩
def GKO_CLS_MARGIN_H (c : Nat) : Fld := ⟨0xa0100 + 0x4 * c, 8, 6, .ro, 0x2⟩
def GKO_CLS_MARGIN_V (c : Nat) : Fld := ⟨0xa0100 + 0x4 * c, 14, 6, .ro, 0x2⟩
def GKO_CLS_GROW (c : Nat) : Fld := ⟨0xa0100 + 0x4 * c, 20, 8, .ro, 0x0⟩
def GKO_CLS_FEATHER (c : Nat) : Fld := ⟨0xa0100 + 0x4 * c, 28, 4, .ro, 0x0⟩
/-! `GKO_CLSSH` (R122) -/
def GKO_CLSSH_DEPTH (c : Nat) : Fld := ⟨0xa0500 + 0x4 * c, 0, 8, .ro, 0x0⟩
def GKO_CLSSH_MARGIN_H (c : Nat) : Fld := ⟨0xa0500 + 0x4 * c, 8, 6, .ro, 0x2⟩
def GKO_CLSSH_MARGIN_V (c : Nat) : Fld := ⟨0xa0500 + 0x4 * c, 14, 6, .ro, 0x2⟩
def GKO_CLSSH_GROW (c : Nat) : Fld := ⟨0xa0500 + 0x4 * c, 20, 8, .ro, 0x0⟩
def GKO_CLSSH_FEATHER (c : Nat) : Fld := ⟨0xa0500 + 0x4 * c, 28, 4, .ro, 0x0⟩
/-! `GKO_TB_CFG` (R122) -/
def GKO_TB_CFG_REJECT_US : Fld := ⟨0xa0800, 0, 8, .rw, 0x14⟩
def GKO_TB_CFG_LOSS_TICKS : Fld := ⟨0xa0800, 8, 8, .rw, 0x40⟩
def GKO_TB_CFG_DEFAULT_AGE_US : Fld := ⟨0xa0800, 16, 16, .rw, 0x7530⟩
/-! `GKO_TB_DLY` (R122) -/
def GKO_TB_DLY_UP_NS : Fld := ⟨0xa0804, 0, 20, .ro, 0x0⟩
/-! `GKO_TB_STAT` (R122) -/
def GKO_TB_STAT_STATE : Fld := ⟨0xa0808, 0, 2, .ro, 0x0⟩
def GKO_TB_STAT_ACCEPTED : Fld := ⟨0xa0808, 8, 8, .ro, 0x0⟩
/-! `GKO_TB_ERR` (R122) -/
def GKO_TB_ERR_LAST_NS : Fld := ⟨0xa080c, 0, 16, .ro, 0x0⟩
def GKO_TB_ERR_REJECTS : Fld := ⟨0xa080c, 16, 16, .rc, 0x0⟩
/-! `GKO_TB_RATE` (R122) -/
def GKO_TB_RATE_RATE_PPB : Fld := ⟨0xa0810, 0, 32, .ro, 0x0⟩
/-! `GKO_LIST` (R122) -/
def GKO_LIST_LIST_ID : Fld := ⟨0xa0820, 0, 32, .ro, 0x0⟩
/-! `GKO_LIST_STAT` (R122) -/
def GKO_LIST_STAT_HOST : Fld := ⟨0xa0824, 0, 8, .ro, 0x0⟩
def GKO_LIST_STAT_FW : Fld := ⟨0xa0824, 8, 8, .ro, 0x0⟩
def GKO_LIST_STAT_EXT : Fld := ⟨0xa0824, 16, 8, .ro, 0x0⟩
def GKO_LIST_STAT_TWIN : Fld := ⟨0xa0824, 24, 8, .ro, 0x0⟩
/-! `GKO_LIST_CNT` (R122) -/
def GKO_LIST_CNT_TAKEN : Fld := ⟨0xa0828, 0, 16, .rc, 0x0⟩
def GKO_LIST_CNT_SUPERSEDED : Fld := ⟨0xa0828, 16, 16, .rc, 0x0⟩
/-! `GKO_OBJ_STAT` (R122) -/
def GKO_OBJ_STAT_STALE_NOW : Fld := ⟨0xa082c, 0, 8, .ro, 0x0⟩
def GKO_OBJ_STAT_STALE : Fld := ⟨0xa082c, 8, 1, .w1c, 0x0⟩
def GKO_OBJ_STAT_CLAMPED : Fld := ⟨0xa082c, 16, 16, .rc, 0x0⟩
/-! `GKO_TIME` (R122) -/
def GKO_TIME_LAST_US : Fld := ⟨0xa0830, 0, 13, .ro, 0x0⟩
def GKO_TIME_MAX_US : Fld := ⟨0xa0830, 16, 13, .rw, 0x0⟩
/-! `GKO_ENV_CTL` (R122) -/
def GKO_ENV_CTL_LOADED : Fld := ⟨0xa0900, 0, 1, .ro, 0x0⟩
def GKO_ENV_CTL_REL_A : Fld := ⟨0xa0900, 2, 1, .ro, 0x0⟩
def GKO_ENV_CTL_REL_B : Fld := ⟨0xa0900, 3, 1, .ro, 0x0⟩
/-! `GKO_ENV_CRC` (R122) -/
def GKO_ENV_CRC_CRC : Fld := ⟨0xa0904, 0, 32, .ro, 0x0⟩
/-! `GKO_ENV_LAST` (R122) -/
def GKO_ENV_LAST_CRC : Fld := ⟨0xa0908, 0, 32, .ro, 0x0⟩
/-! `GKO_ENV_CLAMP` (R122) -/
def GKO_ENV_CLAMP_PIXELS : Fld := ⟨0xa090c, 0, 21, .ro, 0x0⟩
/-! `GKO_ENV_FLOOR` (R122) -/
def GKO_ENV_FLOOR_PIXELS : Fld := ⟨0xa0910, 0, 21, .ro, 0x0⟩
/-! `GKO_ENV_HBPCUT` (R122) -/
def GKO_ENV_HBPCUT_PIXELS : Fld := ⟨0xa0914, 0, 21, .ro, 0x0⟩

/-! `NWT_CTL` (R123) -/
def NWT_CTL_ROLE (e : Nat) : Fld := ⟨0xC0000 + 0x1000 * e + 0x0, 0, 2, .lck, 0x0⟩
def NWT_CTL_HOLD_TICKS (e : Nat) : Fld := ⟨0xC0000 + 0x1000 * e + 0x0, 8, 8, .rw, 0x40⟩
/-! `NWT_STAT` (R123) -/
def NWT_STAT_STATE (e : Nat) : Fld := ⟨0xC0000 + 0x1000 * e + 0x4, 0, 2, .ro, 0x0⟩
def NWT_STAT_LAST_KIND (e : Nat) : Fld := ⟨0xC0000 + 0x1000 * e + 0x4, 8, 8, .ro, 0x0⟩
/-! `NWT_IMG` (R123) -/
def NWT_IMG_IMG_ID (e : Nat) : Fld := ⟨0xC0000 + 0x1000 * e + 0x8, 0, 32, .ro, 0x0⟩
/-! `NWT_BUDGET` (R123) -/
def NWT_BUDGET_CYCLES (e : Nat) : Fld := ⟨0xC0000 + 0x1000 * e + 0xc, 0, 24, .ro, 0x0⟩
/-! `NWT_CYC` (R123) -/
def NWT_CYC_LAST (e : Nat) : Fld := ⟨0xC0000 + 0x1000 * e + 0x10, 0, 24, .ro, 0x0⟩
/-! `NWT_CYCMAX` (R123) -/
def NWT_CYCMAX_MAX (e : Nat) : Fld := ⟨0xC0000 + 0x1000 * e + 0x14, 0, 24, .rw, 0x0⟩
/-! `NWT_DEFER` (R123) -/
def NWT_DEFER_DEFERRED (e : Nat) : Fld := ⟨0xC0000 + 0x1000 * e + 0x18, 0, 16, .rc, 0x0⟩
def NWT_DEFER_PREEMPT (e : Nat) : Fld := ⟨0xC0000 + 0x1000 * e + 0x18, 16, 16, .rc, 0x0⟩
/-! `NWT_ECC` (R123) -/
def NWT_ECC_CORRECTED (e : Nat) : Fld := ⟨0xC0000 + 0x1000 * e + 0x1c, 0, 16, .rc, 0x0⟩
def NWT_ECC_UNCORR (e : Nat) : Fld := ⟨0xC0000 + 0x1000 * e + 0x1c, 16, 1, .w1c, 0x0⟩
/-! `NWT_MISS` (R123) -/
def NWT_MISS_TICK_MISS (e : Nat) : Fld := ⟨0xC0000 + 0x1000 * e + 0x20, 0, 16, .rc, 0x0⟩
/-! `NWT_GRANT` (R123) -/
def NWT_GRANT_ITEMS (e : Nat) : Fld := ⟨0xC0000 + 0x1000 * e + 0x24, 0, 32, .ro, 0x0⟩

/-! `SCN_CTL` (R149) -/
def SCN_CTL_LOWCUT : Fld := ⟨0x100000, 0, 1, .rw, 0x1⟩
def SCN_CTL_RMIN : Fld := ⟨0x100000, 1, 2, .rw, 0x0⟩
def SCN_CTL_SEED : Fld := ⟨0x100000, 4, 4, .rw, 0x0⟩
def SCN_CTL_SOURCE : Fld := ⟨0x100000, 8, 2, .ro, 0x2⟩
def SCN_CTL_SEED_PEND : Fld := ⟨0x100000, 10, 1, .ro, 0x0⟩
/-! `SCN_PRECHG` (R149) -/
def SCN_PRECHG_CYC : Fld := ⟨0x100004, 0, 10, .rw, 0x140⟩
def SCN_PRECHG_MODE : Fld := ⟨0x100004, 10, 1, .rw, 0x1⟩
def SCN_PRECHG_LEVEL : Fld := ⟨0x100004, 12, 6, .rw, 0x36⟩
/-! `SCN_ROWTIMING` (R149) -/
def SCN_ROWTIMING_WRITE_CYC : Fld := ⟨0x100008, 0, 13, .ro, 0xd16⟩
/-! `SCN_BUS` (R149) -/
def SCN_BUS_LANES (d : Nat) : Fld := ⟨0x100010 + 0x4 * d, 0, 4, .ro, 0x0⟩
def SCN_BUS_UP (d : Nat) : Fld := ⟨0x100010 + 0x4 * d, 4, 1, .ro, 0x0⟩
def SCN_BUS_UTIL_PCT (d : Nat) : Fld := ⟨0x100010 + 0x4 * d, 8, 8, .ro, 0x0⟩
/-! `SCN_BUSCNT` (R149) -/
def SCN_BUSCNT_CRC_ERR (d : Nat) : Fld := ⟨0x100018 + 0x4 * d, 0, 16, .rc, 0x0⟩
def SCN_BUSCNT_RETRAIN (d : Nat) : Fld := ⟨0x100018 + 0x4 * d, 16, 16, .rc, 0x0⟩
/-! `SCN_ROWCNT` (R149) -/
def SCN_ROWCNT_REPEATED (d : Nat) : Fld := ⟨0x100020 + 0x4 * d, 0, 16, .rc, 0x0⟩
def SCN_ROWCNT_BLANKED (d : Nat) : Fld := ⟨0x100020 + 0x4 * d, 16, 16, .rc, 0x0⟩
/-! `SCN_CROAK_CNT` (R149) -/
def SCN_CROAK_CNT_LOST_A : Fld := ⟨0x100028, 0, 16, .rc, 0x0⟩
def SCN_CROAK_CNT_LOST_B : Fld := ⟨0x100028, 16, 16, .rc, 0x0⟩
/-! `SCN_RB_CFG` (R149) -/
def SCN_RB_CFG_LIMIT : Fld := ⟨0x100030, 0, 4, .rw, 0x2⟩
/-! `SCN_RB_STAT` (R149) -/
def SCN_RB_STAT_RGN_A : Fld := ⟨0x100034, 0, 5, .ro, 0x0⟩
def SCN_RB_STAT_RGN_B : Fld := ⟨0x100034, 8, 5, .ro, 0x0⟩
def SCN_RB_STAT_MISM_A : Fld := ⟨0x100034, 16, 1, .w1c, 0x0⟩
def SCN_RB_STAT_MISM_B : Fld := ⟨0x100034, 17, 1, .w1c, 0x0⟩
def SCN_RB_STAT_FROZ_A : Fld := ⟨0x100034, 18, 1, .w1c, 0x0⟩
def SCN_RB_STAT_FROZ_B : Fld := ⟨0x100034, 19, 1, .w1c, 0x0⟩
def SCN_RB_STAT_MISS_A : Fld := ⟨0x100034, 20, 1, .w1c, 0x0⟩
def SCN_RB_STAT_MISS_B : Fld := ⟨0x100034, 21, 1, .w1c, 0x0⟩
/-! `SCN_RB_EXP_A` (R149) -/
def SCN_RB_EXP_A_CRC : Fld := ⟨0x100038, 0, 32, .ro, 0x0⟩
/-! `SCN_RB_GOT_A` (R149) -/
def SCN_RB_GOT_A_CRC : Fld := ⟨0x10003c, 0, 32, .ro, 0x0⟩
/-! `SCN_RB_EXP_B` (R149) -/
def SCN_RB_EXP_B_CRC : Fld := ⟨0x100040, 0, 32, .ro, 0x0⟩
/-! `SCN_RB_GOT_B` (R149) -/
def SCN_RB_GOT_B_CRC : Fld := ⟨0x100044, 0, 32, .ro, 0x0⟩
/-! `SCN_RB_CNT` (R149) -/
def SCN_RB_CNT_MISMATCH : Fld := ⟨0x100048, 0, 16, .rc, 0x0⟩
def SCN_RB_CNT_FROZEN : Fld := ⟨0x100048, 16, 16, .rc, 0x0⟩
/-! `SCN_RANGE` (R149) -/
def SCN_RANGE_PIXELS (s : Nat) : Fld := ⟨0x100060 + 0x4 * s, 0, 21, .ro, 0x0⟩
/-! `SCN_LOWCUT_CNT` (R149) -/
def SCN_LOWCUT_CNT_PIXELS : Fld := ⟨0x100070, 0, 21, .ro, 0x0⟩
/-! `SCN_SP15` (R149) -/
def SCN_SP15_CORR : Fld := ⟨0x100074, 0, 16, .ro, 0x0⟩

/-! `PXD_NOM` (R177) -/
def PXD_NOM_LEVEL (n : Nat) : Fld := ⟨0x200000 + 0x1000 * n + 0x0, 0, 16, .rw, 0x8000⟩
/-! `PXD_LIMIT` (R177) -/
def PXD_LIMIT_LEVEL_MAX (n : Nat) : Fld := ⟨0x200000 + 0x1000 * n + 0x4, 0, 16, .rw, 0xc000⟩
/-! `PXD_SKNOM` (R177) -/
def PXD_SKNOM_LEVEL (n : Nat) : Fld := ⟨0x200000 + 0x1000 * n + 0x8, 0, 16, .lck, 0x0⟩
/-! `PXD_CONCEAL` (R177) -/
def PXD_CONCEAL_EN (n : Nat) : Fld := ⟨0x200000 + 0x1000 * n + 0xc, 0, 1, .rw, 0x1⟩
def PXD_CONCEAL_GAIN (n : Nat) : Fld := ⟨0x200000 + 0x1000 * n + 0xc, 1, 5, .rw, 0x10⟩
/-! `PXD_IREF_TRIM` (R177) -/
def PXD_IREF_TRIM_EIGHTH (n : Nat) : Fld := ⟨0x200000 + 0x1000 * n + 0x10, 0, 8, .ro, 0x0⟩
def PXD_IREF_TRIM_QUARTER (n : Nat) : Fld := ⟨0x200000 + 0x1000 * n + 0x10, 8, 8, .ro, 0x0⟩
def PXD_IREF_TRIM_HALF (n : Nat) : Fld := ⟨0x200000 + 0x1000 * n + 0x10, 16, 8, .ro, 0x0⟩
def PXD_IREF_TRIM_FULL (n : Nat) : Fld := ⟨0x200000 + 0x1000 * n + 0x10, 24, 8, .ro, 0x0⟩
/-! `PXD_IREF_MEAS` (R177) -/
def PXD_IREF_MEAS_DEV (n : Nat) : Fld := ⟨0x200000 + 0x1000 * n + 0x14, 0, 16, .ro, 0x0⟩
/-! `PXD_IREF_CFG` (R177) -/
def PXD_IREF_CFG_LIMIT (n : Nat) : Fld := ⟨0x200000 + 0x1000 * n + 0x18, 0, 8, .rw, 0x1e⟩
/-! `PXD_STAT` (R177) -/
def PXD_STAT_DEAD (n : Nat) : Fld := ⟨0x200000 + 0x1000 * n + 0x20, 0, 15, .ro, 0x0⟩
def PXD_STAT_DEG_TILES (n : Nat) : Fld := ⟨0x200000 + 0x1000 * n + 0x20, 16, 5, .ro, 0x0⟩
def PXD_STAT_PEND (n : Nat) : Fld := ⟨0x200000 + 0x1000 * n + 0x20, 21, 5, .ro, 0x0⟩
/-! `PXD_FLAGS` (R177) -/
def PXD_FLAGS_OPEN (n : Nat) : Fld := ⟨0x200000 + 0x1000 * n + 0x24, 0, 1, .w1c, 0x0⟩
def PXD_FLAGS_SHORT (n : Nat) : Fld := ⟨0x200000 + 0x1000 * n + 0x24, 1, 1, .w1c, 0x0⟩
def PXD_FLAGS_NSHORT (n : Nat) : Fld := ⟨0x200000 + 0x1000 * n + 0x24, 2, 1, .w1c, 0x0⟩
def PXD_FLAGS_COLSHORT (n : Nat) : Fld := ⟨0x200000 + 0x1000 * n + 0x24, 3, 1, .w1c, 0x0⟩
def PXD_FLAGS_DEGRADED (n : Nat) : Fld := ⟨0x200000 + 0x1000 * n + 0x24, 4, 1, .w1c, 0x0⟩
def PXD_FLAGS_WORN (n : Nat) : Fld := ⟨0x200000 + 0x1000 * n + 0x24, 5, 1, .w1c, 0x0⟩
def PXD_FLAGS_IREF (n : Nat) : Fld := ⟨0x200000 + 0x1000 * n + 0x24, 6, 1, .w1c, 0x0⟩
def PXD_FLAGS_CLIP (n : Nat) : Fld := ⟨0x200000 + 0x1000 * n + 0x24, 7, 1, .w1c, 0x0⟩
def PXD_FLAGS_PEND_FULL (n : Nat) : Fld := ⟨0x200000 + 0x1000 * n + 0x24, 8, 1, .w1c, 0x0⟩
/-! `PXD_CNT` (R177) -/
def PXD_CNT_CONFIRMED (n : Nat) : Fld := ⟨0x200000 + 0x1000 * n + 0x28, 0, 16, .rc, 0x0⟩
def PXD_CNT_CLEARED (n : Nat) : Fld := ⟨0x200000 + 0x1000 * n + 0x28, 16, 16, .rc, 0x0⟩
/-! `PXD_CLIP` (R177) -/
def PXD_CLIP_PIXELS (n : Nat) : Fld := ⟨0x200000 + 0x1000 * n + 0x2c, 0, 15, .ro, 0x0⟩
/-! `PXD_VF` (R177) -/
def PXD_VF_MEDIAN_MV (n : Nat) : Fld := ⟨0x200000 + 0x1000 * n + 0x30, 0, 12, .ro, 0x0⟩
def PXD_VF_SPREAD_MV (n : Nat) : Fld := ⟨0x200000 + 0x1000 * n + 0x30, 16, 12, .ro, 0x0⟩

/-! `AXL_CTL` (R178) -/
def AXL_CTL_SWEEP_EN : Fld := ⟨0x280000, 0, 1, .rw, 0x1⟩
def AXL_CTL_COLTEST_EN : Fld := ⟨0x280000, 1, 1, .rw, 0x1⟩
def AXL_CTL_NEIGH_EN : Fld := ⟨0x280000, 2, 1, .rw, 0x1⟩
/-! `AXL_CFG` (R178) -/
def AXL_CFG_ISENSE : Fld := ⟨0x280004, 0, 8, .rw, 0x50⟩
def AXL_CFG_VOPEN : Fld := ⟨0x280004, 8, 8, .rw, 0xb4⟩
def AXL_CFG_VSHORT : Fld := ⟨0x280004, 16, 8, .rw, 0x5a⟩
def AXL_CFG_CONFIRM : Fld := ⟨0x280004, 24, 4, .rw, 0x3⟩
/-! `AXL_CFG2` (R178) -/
def AXL_CFG2_VDEV : Fld := ⟨0x280008, 0, 8, .rw, 0x4b⟩
def AXL_CFG2_VNS : Fld := ⟨0x280008, 8, 8, .rw, 0x32⟩
def AXL_CFG2_STALL_TICKS : Fld := ⟨0x280008, 24, 8, .rw, 0x20⟩
/-! `AXL_SWEEP` (R178) -/
def AXL_SWEEP_GROUP : Fld := ⟨0x280010, 0, 7, .ro, 0x0⟩
def AXL_SWEEP_BUF : Fld := ⟨0x280010, 7, 1, .ro, 0x0⟩
def AXL_SWEEP_SWEEPS : Fld := ⟨0x280010, 16, 16, .ro, 0x0⟩
/-! `AXL_SKIP` (R178) -/
def AXL_SKIP_SWEEP : Fld := ⟨0x280014, 0, 16, .rc, 0x0⟩
def AXL_SKIP_NEIGH : Fld := ⟨0x280014, 16, 16, .rc, 0x0⟩
/-! `AXL_NEIGH` (R178) -/
def AXL_NEIGH_ROW : Fld := ⟨0x280018, 0, 9, .ro, 0x0⟩
def AXL_NEIGH_SWEEPS : Fld := ⟨0x280018, 16, 16, .ro, 0x0⟩
/-! `AXL_DIE` (R178) -/
def AXL_DIE_MEDIAN_MV (d : Nat) : Fld := ⟨0x280020 + 0x4 * d, 0, 12, .ro, 0x0⟩
def AXL_DIE_SPREAD_MV (d : Nat) : Fld := ⟨0x280020 + 0x4 * d, 16, 12, .ro, 0x0⟩
/-! `AXL_TIME` (R178) -/
def AXL_TIME_LAST_US : Fld := ⟨0x280028, 0, 10, .ro, 0x0⟩
def AXL_TIME_WINDOW_US : Fld := ⟨0x280028, 16, 10, .ro, 0x0⟩
/-! `AXL_HADDR` (R178) -/
def AXL_HADDR_PIXEL : Fld := ⟨0x280030, 0, 21, .rw, 0x0⟩
def AXL_HADDR_AUTOINC : Fld := ⟨0x280030, 31, 1, .rw, 0x0⟩
/-! `AXL_HDATA` (R178) -/
def AXL_HDATA_WORD : Fld := ⟨0x280034, 0, 16, .rw, 0x0⟩
/-! `AXL_HPORT` (R178) -/
def AXL_HPORT_QUEUED : Fld := ⟨0x280038, 0, 9, .ro, 0x0⟩
def AXL_HPORT_ERR : Fld := ⟨0x280038, 16, 1, .w1c, 0x0⟩
/-! `AXL_SAVE` (R178) -/
def AXL_SAVE_GO : Fld := ⟨0x280040, 0, 1, .wo, 0x0⟩
def AXL_SAVE_BUSY : Fld := ⟨0x280040, 1, 1, .ro, 0x0⟩
def AXL_SAVE_ERR : Fld := ⟨0x280040, 2, 1, .w1c, 0x0⟩
def AXL_SAVE_COPY : Fld := ⟨0x280040, 3, 1, .ro, 0x0⟩
def AXL_SAVE_SEQ : Fld := ⟨0x280040, 16, 16, .ro, 0x0⟩
/-! `AXL_DEAD` (R178) -/
def AXL_DEAD_TOTAL : Fld := ⟨0x280044, 0, 21, .ro, 0x0⟩
/-! `AXL_TILES` (R178) -/
def AXL_TILES_DEGRADED : Fld := ⟨0x280048, 0, 11, .ro, 0x0⟩
/-! `AXL_ECC` (R178) -/
def AXL_ECC_CORRECTED : Fld := ⟨0x28004c, 0, 16, .rc, 0x0⟩
def AXL_ECC_UNCORR : Fld := ⟨0x28004c, 16, 16, .rc, 0x0⟩

/-! `SAL_CFG` (R204) -/
def SAL_CFG_GUARD : Fld := ⟨0x300000, 0, 8, .rw, 0x8⟩
def SAL_CFG_TOL_PCT : Fld := ⟨0x300000, 8, 8, .rw, 0x5⟩
/-! `SAL_RULE_LIM` (R204) -/
def SAL_RULE_LIM_TILE_PCT : Fld := ⟨0x300004, 0, 8, .ro, 0x64⟩
def SAL_RULE_LIM_RGN_PCT : Fld := ⟨0x300004, 8, 8, .ro, 0x64⟩
def SAL_RULE_LIM_DIE_PCT : Fld := ⟨0x300004, 16, 8, .ro, 0x64⟩
def SAL_RULE_LIM_PKG_PCT : Fld := ⟨0x300004, 24, 8, .ro, 0x64⟩
/-! `SAL_RULE_CFG` (R204) -/
def SAL_RULE_CFG_ALLOW : Fld := ⟨0x300008, 0, 3, .ro, 0x2⟩
def SAL_RULE_CFG_T_START : Fld := ⟨0x300008, 8, 8, .ro, 0x69⟩
def SAL_RULE_CFG_T_END : Fld := ⟨0x300008, 16, 8, .ro, 0x7d⟩
def SAL_RULE_CFG_F_END : Fld := ⟨0x300008, 24, 8, .ro, 0x4d⟩
/-! `SAL_RULE_TEMP` (R204) -/
def SAL_RULE_TEMP_T_CUT : Fld := ⟨0x30000c, 0, 8, .ro, 0x82⟩
def SAL_RULE_TEMP_SINK_START : Fld := ⟨0x30000c, 8, 8, .ro, 0x5a⟩
def SAL_RULE_TEMP_SINK_END : Fld := ⟨0x30000c, 16, 8, .ro, 0x6e⟩
/-! `SAL_FW_LIM` (R204) -/
def SAL_FW_LIM_TILE_PCT : Fld := ⟨0x300010, 0, 8, .rw, 0x64⟩
def SAL_FW_LIM_RGN_PCT : Fld := ⟨0x300010, 8, 8, .rw, 0x64⟩
def SAL_FW_LIM_DIE_PCT : Fld := ⟨0x300010, 16, 8, .rw, 0x64⟩
def SAL_FW_LIM_PKG_PCT : Fld := ⟨0x300010, 24, 8, .rw, 0x64⟩
/-! `SAL_STAT` (R204) -/
def SAL_STAT_EMERG_A : Fld := ⟨0x300014, 0, 1, .ro, 0x0⟩
def SAL_STAT_EMERG_B : Fld := ⟨0x300014, 1, 1, .ro, 0x0⟩
def SAL_STAT_EMERG_PKG : Fld := ⟨0x300014, 2, 1, .ro, 0x0⟩
def SAL_STAT_REPEAT_OVER : Fld := ⟨0x300014, 3, 1, .w1c, 0x0⟩
def SAL_STAT_CLASS_RED : Fld := ⟨0x300014, 8, 4, .ro, 0x0⟩
def SAL_STAT_RESOLVE : Fld := ⟨0x300014, 16, 8, .ro, 0x0⟩
/-! `SAL_VLED` (R204) -/
def SAL_VLED_MIN_MV (d : Nat) : Fld := ⟨0x300018 + 0x4 * d, 0, 13, .ro, 0x0⟩
def SAL_VLED_MAX_MV (d : Nat) : Fld := ⟨0x300018 + 0x4 * d, 16, 13, .ro, 0x0⟩
/-! `SAL_SUPPLY` (R204) -/
def SAL_SUPPLY_SF_A : Fld := ⟨0x300020, 0, 11, .ro, 0x400⟩
def SAL_SUPPLY_SF_B : Fld := ⟨0x300020, 16, 11, .ro, 0x400⟩
/-! `SAL_DRV` (R204) -/
def SAL_DRV_PRED_MW : Fld := ⟨0x300024, 0, 14, .ro, 0x0⟩
def SAL_DRV_LIMIT_MW : Fld := ⟨0x300024, 16, 14, .ro, 0x2328⟩
/-! `SAL_DRV_CFG` (R204) -/
def SAL_DRV_CFG_BASE_MW : Fld := ⟨0x300028, 0, 13, .lck, 0x0⟩
def SAL_DRV_CFG_E_PJ : Fld := ⟨0x300028, 16, 8, .lck, 0x0⟩
/-! `SAL_BASK_COST` (R204) -/
def SAL_BASK_COST_SWEEP_MW : Fld := ⟨0x30002c, 0, 8, .lck, 0x0⟩
def SAL_BASK_COST_NEIGH_MW : Fld := ⟨0x30002c, 8, 8, .lck, 0x0⟩
/-! `SAL_GRANT_CFG` (R204) -/
def SAL_GRANT_CFG_FORCE : Fld := ⟨0x300030, 0, 8, .rw, 0x10⟩
/-! `SAL_GRANT` (R204) -/
def SAL_GRANT_SWEEP : Fld := ⟨0x300034, 0, 1, .ro, 0x0⟩
def SAL_GRANT_NEIGH : Fld := ⟨0x300034, 1, 1, .ro, 0x0⟩
def SAL_GRANT_SLICE : Fld := ⟨0x300034, 2, 1, .ro, 0x0⟩
def SAL_GRANT_SYM : Fld := ⟨0x300034, 3, 1, .ro, 0x0⟩
def SAL_GRANT_FORCED : Fld := ⟨0x300034, 4, 1, .ro, 0x0⟩
/-! `SAL_GRANT_CNT` (R204) -/
def SAL_GRANT_CNT_SYM_WH : Fld := ⟨0x300038, 0, 16, .rc, 0x0⟩
def SAL_GRANT_CNT_SLICE_WH : Fld := ⟨0x300038, 16, 16, .rc, 0x0⟩
/-! `SAL_ERR_CNT` (R204) -/
def SAL_ERR_CNT_PREDICT_MISS : Fld := ⟨0x30003c, 0, 16, .rc, 0x0⟩
def SAL_ERR_CNT_REPEAT_OVER : Fld := ⟨0x30003c, 16, 16, .rc, 0x0⟩
/-! `SALSH_RULE_LIM` (R204) -/
def SALSH_RULE_LIM_TILE_PCT : Fld := ⟨0x300044, 0, 8, .ro, 0x64⟩
def SALSH_RULE_LIM_RGN_PCT : Fld := ⟨0x300044, 8, 8, .ro, 0x64⟩
def SALSH_RULE_LIM_DIE_PCT : Fld := ⟨0x300044, 16, 8, .ro, 0x64⟩
def SALSH_RULE_LIM_PKG_PCT : Fld := ⟨0x300044, 24, 8, .ro, 0x64⟩
/-! `SALSH_RULE_CFG` (R204) -/
def SALSH_RULE_CFG_ALLOW : Fld := ⟨0x300048, 0, 3, .ro, 0x2⟩
def SALSH_RULE_CFG_T_START : Fld := ⟨0x300048, 8, 8, .ro, 0x69⟩
def SALSH_RULE_CFG_T_END : Fld := ⟨0x300048, 16, 8, .ro, 0x7d⟩
def SALSH_RULE_CFG_F_END : Fld := ⟨0x300048, 24, 8, .ro, 0x4d⟩
/-! `SALSH_RULE_TEMP` (R204) -/
def SALSH_RULE_TEMP_T_CUT : Fld := ⟨0x30004c, 0, 8, .ro, 0x82⟩
def SALSH_RULE_TEMP_SINK_START : Fld := ⟨0x30004c, 8, 8, .ro, 0x5a⟩
def SALSH_RULE_TEMP_SINK_END : Fld := ⟨0x30004c, 16, 8, .ro, 0x6e⟩
/-! `SAL_DIE_PWR` (R204) -/
def SAL_DIE_PWR_PRED (d : Nat) : Fld := ⟨0x300080 + 0x20 * d, 0, 16, .ro, 0x0⟩
def SAL_DIE_PWR_RAW (d : Nat) : Fld := ⟨0x300080 + 0x20 * d, 16, 16, .ro, 0x0⟩
/-! `SAL_DIE_LIM` (R204) -/
def SAL_DIE_LIM_LC (d : Nat) : Fld := ⟨0x300084 + 0x20 * d, 0, 16, .ro, 0x960⟩
def SAL_DIE_LIM_LA (d : Nat) : Fld := ⟨0x300084 + 0x20 * d, 16, 16, .ro, 0x960⟩
/-! `SAL_DIE_BKT` (R204) -/
def SAL_DIE_BKT_SPENT (d : Nat) : Fld := ⟨0x300088 + 0x20 * d, 0, 24, .ro, 0x249f00⟩
/-! `SAL_DIE_F01` (R204) -/
def SAL_DIE_F01_F0 (d : Nat) : Fld := ⟨0x30008c + 0x20 * d, 0, 11, .ro, 0x400⟩
def SAL_DIE_F01_F1 (d : Nat) : Fld := ⟨0x30008c + 0x20 * d, 16, 11, .ro, 0x400⟩
/-! `SAL_DIE_F23` (R204) -/
def SAL_DIE_F23_F2 (d : Nat) : Fld := ⟨0x300090 + 0x20 * d, 0, 11, .ro, 0x400⟩
def SAL_DIE_F23_F3 (d : Nat) : Fld := ⟨0x300090 + 0x20 * d, 16, 11, .ro, 0x400⟩
/-! `SAL_DIE_MEAS` (R204) -/
def SAL_DIE_MEAS_MEAS (d : Nat) : Fld := ⟨0x300094 + 0x20 * d, 0, 16, .ro, 0x0⟩
def SAL_DIE_MEAS_FFLOOR (d : Nat) : Fld := ⟨0x300094 + 0x20 * d, 16, 11, .ro, 0x400⟩
/-! `SAL_PKG_PWR` (R204) -/
def SAL_PKG_PWR_PRED : Fld := ⟨0x3000c0, 0, 16, .ro, 0x0⟩
def SAL_PKG_PWR_RAW : Fld := ⟨0x3000c0, 16, 16, .ro, 0x0⟩
/-! `SAL_PKG_LIM` (R204) -/
def SAL_PKG_LIM_LC : Fld := ⟨0x3000c4, 0, 16, .ro, 0x12c0⟩
def SAL_PKG_LIM_LA : Fld := ⟨0x3000c4, 16, 16, .ro, 0x12c0⟩
/-! `SAL_PKG_BKT` (R204) -/
def SAL_PKG_BKT_SPENT : Fld := ⟨0x3000c8, 0, 24, .ro, 0x493e00⟩
/-! `SAL_PKG_F01` (R204) -/
def SAL_PKG_F01_F0 : Fld := ⟨0x3000cc, 0, 11, .ro, 0x400⟩
def SAL_PKG_F01_F1 : Fld := ⟨0x3000cc, 16, 11, .ro, 0x400⟩
/-! `SAL_PKG_F23` (R204) -/
def SAL_PKG_F23_F2 : Fld := ⟨0x3000d0, 0, 11, .ro, 0x400⟩
def SAL_PKG_F23_F3 : Fld := ⟨0x3000d0, 16, 11, .ro, 0x400⟩
/-! `SAL_PKG_MEAS` (R204) -/
def SAL_PKG_MEAS_MEAS : Fld := ⟨0x3000d4, 0, 16, .ro, 0x0⟩
def SAL_PKG_MEAS_FFLOOR : Fld := ⟨0x3000d4, 16, 11, .ro, 0x400⟩
/-! `SAL_RGN_PWR` (R204) -/
def SAL_RGN_PWR_PRED (n : Nat) : Fld := ⟨0x300400 + 0x20 * n, 0, 16, .ro, 0x0⟩
def SAL_RGN_PWR_MEAS (n : Nat) : Fld := ⟨0x300400 + 0x20 * n, 16, 16, .ro, 0x0⟩
/-! `SAL_RGN_LIM` (R204) -/
def SAL_RGN_LIM_LA (n : Nat) : Fld := ⟨0x300404 + 0x20 * n, 0, 16, .ro, 0x3e8⟩
def SAL_RGN_LIM_TF (n : Nat) : Fld := ⟨0x300404 + 0x20 * n, 16, 11, .ro, 0x400⟩
def SAL_RGN_LIM_FROZEN (n : Nat) : Fld := ⟨0x300404 + 0x20 * n, 27, 1, .ro, 0x0⟩
/-! `SAL_RGN_F01` (R204) -/
def SAL_RGN_F01_F0 (n : Nat) : Fld := ⟨0x300408 + 0x20 * n, 0, 11, .ro, 0x400⟩
def SAL_RGN_F01_F1 (n : Nat) : Fld := ⟨0x300408 + 0x20 * n, 16, 11, .ro, 0x400⟩
/-! `SAL_RGN_F23` (R204) -/
def SAL_RGN_F23_F2 (n : Nat) : Fld := ⟨0x30040c + 0x20 * n, 0, 11, .ro, 0x400⟩
def SAL_RGN_F23_F3 (n : Nat) : Fld := ⟨0x30040c + 0x20 * n, 16, 11, .ro, 0x400⟩
/-! `SAL_RGN_BKT` (R204) -/
def SAL_RGN_BKT_SPENT (n : Nat) : Fld := ⟨0x300410 + 0x20 * n, 0, 24, .ro, 0xf4240⟩
/-! `SAL_RGN_FW` (R204) -/
def SAL_RGN_FW_DER (n : Nat) : Fld := ⟨0x300414 + 0x20 * n, 0, 9, .rw, 0x100⟩
/-! `THM_CFG` (R205) -/
def THM_CFG_NDIFF : Fld := ⟨0x301000, 0, 8, .rw, 0xc⟩
def THM_CFG_RATE : Fld := ⟨0x301000, 8, 8, .rw, 0x14⟩
def THM_CFG_READMIT : Fld := ⟨0x301000, 16, 8, .rw, 0x10⟩
/-! `THM_NTC_CFG` (R205) -/
def THM_NTC_CFG_ROLE : Fld := ⟨0x301004, 0, 8, .lck, 0x0⟩
def THM_NTC_CFG_GROUP : Fld := ⟨0x301004, 8, 8, .lck, 0x0⟩
/-! `THM_SUMMARY` (R205) -/
def THM_SUMMARY_SINK_T : Fld := ⟨0x301008, 0, 16, .ro, 0x0⟩
def THM_SUMMARY_DRV_T : Fld := ⟨0x301008, 16, 16, .ro, 0x0⟩
/-! `THM_FACT` (R205) -/
def THM_FACT_SINK_F : Fld := ⟨0x30100c, 0, 11, .ro, 0x400⟩
def THM_FACT_SINK_FRZ : Fld := ⟨0x30100c, 11, 1, .ro, 0x0⟩
def THM_FACT_DRV_F : Fld := ⟨0x30100c, 16, 11, .ro, 0x400⟩
def THM_FACT_DRV_FRZ : Fld := ⟨0x30100c, 27, 1, .ro, 0x0⟩
/-! `THM_CNT` (R205) -/
def THM_CNT_IMPL : Fld := ⟨0x301010, 0, 16, .rc, 0x0⟩
def THM_CNT_FREEZE : Fld := ⟨0x301010, 16, 16, .rc, 0x0⟩
/-! `THM_COMP` (R205) -/
def THM_COMP_OSC_T : Fld := ⟨0x301014, 0, 16, .ro, 0x0⟩
def THM_COMP_LIMITED : Fld := ⟨0x301014, 16, 1, .ro, 0x0⟩
/-! `THM_T` (R205) -/
def THM_T_TEMP (i : Nat) : Fld := ⟨0x301040 + 0x4 * i, 0, 16, .ro, 0x0⟩
def THM_T_SUBST (i : Nat) : Fld := ⟨0x301040 + 0x4 * i, 16, 1, .ro, 0x0⟩
def THM_T_IMPL (i : Nat) : Fld := ⟨0x301040 + 0x4 * i, 17, 1, .ro, 0x0⟩
def THM_T_FROZEN (i : Nat) : Fld := ⟨0x301040 + 0x4 * i, 18, 1, .ro, 0x0⟩
def THM_T_GOVERN (i : Nat) : Fld := ⟨0x301040 + 0x4 * i, 19, 1, .ro, 0x0⟩
/-! `THM_RAW` (R205) -/
def THM_RAW_RAW (i : Nat) : Fld := ⟨0x301100 + 0x4 * i, 0, 16, .ro, 0x0⟩

/-! `CAL_CTL` (R228) -/
def CAL_CTL_L1_RECAL : Fld := ⟨0x340000, 0, 4, .rws, 0x0⟩
/-! `CAL_STAT` (R228) -/
def CAL_STAT_PUC_DONE : Fld := ⟨0x340004, 0, 1, .ro, 0x0⟩
def CAL_STAT_PUC_WARM : Fld := ⟨0x340004, 1, 1, .ro, 0x0⟩
def CAL_STAT_PUC_SKIP_A : Fld := ⟨0x340004, 2, 1, .ro, 0x0⟩
def CAL_STAT_PUC_SKIP_B : Fld := ⟨0x340004, 3, 1, .ro, 0x0⟩
def CAL_STAT_FACT_OK : Fld := ⟨0x340004, 4, 1, .ro, 0x0⟩
def CAL_STAT_FACT_MINOR : Fld := ⟨0x340004, 5, 1, .ro, 0x0⟩
def CAL_STAT_VSEL : Fld := ⟨0x340004, 6, 1, .ro, 0x0⟩
def CAL_STAT_GSEL : Fld := ⟨0x340004, 7, 1, .ro, 0x0⟩
def CAL_STAT_USER_VALID : Fld := ⟨0x340004, 8, 2, .ro, 0x0⟩
def CAL_STAT_USER_DIRTY : Fld := ⟨0x340004, 10, 1, .ro, 0x0⟩
def CAL_STAT_STAGED : Fld := ⟨0x340004, 12, 3, .ro, 0x0⟩
/-! `CAL_PUC_TIME` (R228) -/
def CAL_PUC_TIME_TOTAL : Fld := ⟨0x340008, 0, 10, .ro, 0x0⟩
def CAL_PUC_TIME_PIXBUS_TRIES : Fld := ⟨0x340008, 10, 3, .ro, 0x0⟩
/-! `CAL_USER_STAT` (R228) -/
def CAL_USER_STAT_BUSY : Fld := ⟨0x340010, 0, 1, .ro, 0x0⟩
def CAL_USER_STAT_PHASE : Fld := ⟨0x340010, 1, 2, .ro, 0x0⟩
def CAL_USER_STAT_TILEROW : Fld := ⟨0x340010, 3, 5, .ro, 0x0⟩
def CAL_USER_STAT_MIXED : Fld := ⟨0x340010, 8, 1, .w1c, 0x0⟩
def CAL_USER_STAT_ERR : Fld := ⟨0x340010, 9, 1, .w1c, 0x0⟩
/-! `CAL_USER_SEQ` (R228) -/
def CAL_USER_SEQ_TRIM : Fld := ⟨0x340014, 0, 16, .ro, 0x0⟩
def CAL_USER_SEQ_MAP : Fld := ⟨0x340014, 16, 16, .ro, 0x0⟩
/-! `CAL_USER_CRC` (R228) -/
def CAL_USER_CRC_CRC (g : Nat) : Fld := ⟨0x340020 + 0x4 * g, 0, 32, .ro, 0x0⟩
/-! `CAL_AIM` (R228) -/
def CAL_AIM_AIM_H : Fld := ⟨0x340040, 0, 16, .ro, 0x0⟩
def CAL_AIM_AIM_V : Fld := ⟨0x340040, 16, 16, .ro, 0x0⟩
/-! `CAL_SERIAL` (R228) -/
def CAL_SERIAL_CHARS (i : Nat) : Fld := ⟨0x340050 + 0x4 * i, 0, 32, .ro, 0x0⟩
/-! `CAL_LANE_OFS` (R228) -/
def CAL_LANE_OFS_OFS_DATA (l : Nat) : Fld := ⟨0x340060 + 0x8 * l, 0, 6, .ro, 0x0⟩
def CAL_LANE_OFS_OFS_ERR (l : Nat) : Fld := ⟨0x340060 + 0x8 * l, 6, 6, .ro, 0x0⟩
def CAL_LANE_OFS_ENDSTOP (l : Nat) : Fld := ⟨0x340060 + 0x8 * l, 12, 1, .ro, 0x0⟩
def CAL_LANE_OFS_RECALS (l : Nat) : Fld := ⟨0x340060 + 0x8 * l, 16, 8, .rc, 0x0⟩
def CAL_LANE_OFS_ABANDONED (l : Nat) : Fld := ⟨0x340060 + 0x8 * l, 24, 8, .rc, 0x0⟩
/-! `CAL_LANE_TAP` (R228) -/
def CAL_LANE_TAP_TAP (l : Nat) : Fld := ⟨0x340064 + 0x8 * l, 0, 30, .ro, 0x0⟩
/-! `CAL_IREF_XC` (R228) -/
def CAL_IREF_XC_BG (n : Nat) : Fld := ⟨0x340100 + 0x4 * n, 0, 16, .ro, 0x0⟩
def CAL_IREF_XC_NB (n : Nat) : Fld := ⟨0x340100 + 0x4 * n, 16, 12, .ro, 0x0⟩
def CAL_IREF_XC_FAIL (n : Nat) : Fld := ⟨0x340100 + 0x4 * n, 28, 1, .ro, 0x0⟩
/-! `CAL_DACOFS` (R228) -/
def CAL_DACOFS_COLS (k : Nat) : Fld := ⟨0x341000 + 0x4 * k, 0, 32, .ro, 0x0⟩

/-! `RNG_CTL` (R256) -/
def RNG_CTL_EN : Fld := ⟨0x20000, 0, 1, .rw, 0x0⟩
def RNG_CTL_HINT_EN : Fld := ⟨0x20000, 1, 1, .rw, 0x1⟩
/-! `RNG_CFG` (R256) -/
def RNG_CFG_TAGS : Fld := ⟨0x20004, 0, 7, .rw, 0x20⟩
def RNG_CFG_RD_TIMEOUT_US : Fld := ⟨0x20004, 8, 16, .rw, 0x1388⟩
def RNG_CFG_CPL_STALL_TICKS : Fld := ⟨0x20004, 24, 8, .rw, 0x10⟩
/-! `RNG_DB_LO` (R256) -/
def RNG_DB_LO_ADDR : Fld := ⟨0x20008, 12, 20, .rw, 0x0⟩
/-! `RNG_DB_HI` (R256) -/
def RNG_DB_HI_ADDR : Fld := ⟨0x2000c, 0, 32, .rw, 0x0⟩
/-! `RNG_WB_LO` (R256) -/
def RNG_WB_LO_ADDR : Fld := ⟨0x20010, 7, 25, .rw, 0x0⟩
/-! `RNG_WB_HI` (R256) -/
def RNG_WB_HI_ADDR : Fld := ⟨0x20014, 0, 32, .rw, 0x0⟩
/-! `RNG_STAT` (R256) -/
def RNG_STAT_INFLIGHT : Fld := ⟨0x20018, 0, 9, .ro, 0x0⟩
def RNG_STAT_TAGS_USED : Fld := ⟨0x20018, 9, 7, .ro, 0x0⟩
def RNG_STAT_CFG_ERR : Fld := ⟨0x20018, 16, 1, .w1c, 0x0⟩
def RNG_STAT_HALTED : Fld := ⟨0x20018, 24, 8, .ro, 0x0⟩
/-! `RNG_CNT` (R256) -/
def RNG_CNT_HINT_MASK : Fld := ⟨0x2001c, 0, 8, .ro, 0x0⟩
def RNG_CNT_POLL_FAIL : Fld := ⟨0x2001c, 8, 8, .rc, 0x0⟩
def RNG_CNT_HINTS : Fld := ⟨0x2001c, 16, 16, .rc, 0x0⟩
/-! `RNG_EVT_BASE_LO` (R256) -/
def RNG_EVT_BASE_LO_ADDR : Fld := ⟨0x20020, 6, 26, .rw, 0x0⟩
/-! `RNG_EVT_BASE_HI` (R256) -/
def RNG_EVT_BASE_HI_ADDR : Fld := ⟨0x20024, 0, 32, .rw, 0x0⟩
/-! `RNG_EVT_CFG` (R256) -/
def RNG_EVT_CFG_SIZE_LOG2 : Fld := ⟨0x20028, 0, 4, .rw, 0x4⟩
def RNG_EVT_CFG_EN : Fld := ⟨0x20028, 4, 1, .rw, 0x0⟩
/-! `RNG_EVT_PROD` (R256) -/
def RNG_EVT_PROD_INDEX : Fld := ⟨0x2002c, 0, 32, .ro, 0x0⟩
/-! `RNG_EVT_LOST` (R256) -/
def RNG_EVT_LOST_LOST : Fld := ⟨0x20030, 0, 16, .rc, 0x0⟩
def RNG_EVT_LOST_FULL : Fld := ⟨0x20030, 16, 1, .ro, 0x0⟩
/-! `RNG_CMD_BASE_LO` (R256) -/
def RNG_CMD_BASE_LO_ADDR (r : Nat) : Fld := ⟨0x20100 + 0x20 * r, 6, 26, .rw, 0x0⟩
/-! `RNG_CMD_BASE_HI` (R256) -/
def RNG_CMD_BASE_HI_ADDR (r : Nat) : Fld := ⟨0x20104 + 0x20 * r, 0, 32, .rw, 0x0⟩
/-! `RNG_CPL_BASE_LO` (R256) -/
def RNG_CPL_BASE_LO_ADDR (r : Nat) : Fld := ⟨0x20108 + 0x20 * r, 6, 26, .rw, 0x0⟩
/-! `RNG_CPL_BASE_HI` (R256) -/
def RNG_CPL_BASE_HI_ADDR (r : Nat) : Fld := ⟨0x2010c + 0x20 * r, 0, 32, .rw, 0x0⟩
/-! `RNG_CMD_CFG` (R256) -/
def RNG_CMD_CFG_SIZE_LOG2 (r : Nat) : Fld := ⟨0x20110 + 0x20 * r, 0, 4, .rw, 0x4⟩
def RNG_CMD_CFG_CPL_SIZE_LOG2 (r : Nat) : Fld := ⟨0x20110 + 0x20 * r, 4, 4, .rw, 0x4⟩
def RNG_CMD_CFG_PRIO (r : Nat) : Fld := ⟨0x20110 + 0x20 * r, 8, 3, .rw, 0x0⟩
def RNG_CMD_CFG_EN (r : Nat) : Fld := ⟨0x20110 + 0x20 * r, 16, 1, .rw, 0x0⟩
/-! `RNG_CMD_CONS` (R256) -/
def RNG_CMD_CONS_INDEX (r : Nat) : Fld := ⟨0x20114 + 0x20 * r, 0, 32, .ro, 0x0⟩
/-! `RNG_CMD_STAT` (R256) -/
def RNG_CMD_STAT_HALTED (r : Nat) : Fld := ⟨0x20118 + 0x20 * r, 0, 1, .ro, 0x0⟩
def RNG_CMD_STAT_DRAINING (r : Nat) : Fld := ⟨0x20118 + 0x20 * r, 1, 1, .ro, 0x0⟩
def RNG_CMD_STAT_CPL_FULL (r : Nat) : Fld := ⟨0x20118 + 0x20 * r, 2, 1, .ro, 0x0⟩
def RNG_CMD_STAT_HELD (r : Nat) : Fld := ⟨0x20118 + 0x20 * r, 3, 1, .ro, 0x0⟩
def RNG_CMD_STAT_HALT_WHY (r : Nat) : Fld := ⟨0x20118 + 0x20 * r, 4, 2, .ro, 0x0⟩
def RNG_CMD_STAT_INFLIGHT (r : Nat) : Fld := ⟨0x20118 + 0x20 * r, 16, 9, .ro, 0x0⟩
/-! `RNG_CMD_CNT` (R256) -/
def RNG_CMD_CNT_DONE (r : Nat) : Fld := ⟨0x2011c + 0x20 * r, 0, 16, .rc, 0x0⟩
def RNG_CMD_CNT_NOT_OK (r : Nat) : Fld := ⟨0x2011c + 0x20 * r, 16, 16, .rc, 0x0⟩

/-! `LNK_CTL` (R298) -/
def LNK_CTL_EN : Fld := ⟨0x30000, 0, 1, .rw, 0x1⟩
def LNK_CTL_MAX_RATE : Fld := ⟨0x30000, 1, 2, .rw, 0x3⟩
def LNK_CTL_MAX_WIDTH : Fld := ⟨0x30000, 3, 2, .rw, 0x2⟩
def LNK_CTL_RETRAIN : Fld := ⟨0x30000, 5, 1, .wo, 0x0⟩
def LNK_CTL_L2_ALLOW : Fld := ⟨0x30000, 6, 1, .rw, 0x1⟩
/-! `LNK_TRAIN_CFG` (R298) -/
def LNK_TRAIN_CFG_BACKOFF_MS : Fld := ⟨0x30004, 0, 7, .rw, 0x1⟩
def LNK_TRAIN_CFG_HOSTLOSS_MS : Fld := ⟨0x30004, 16, 10, .rw, 0x64⟩
/-! `LNK_STAT` (R298) -/
def LNK_STAT_STATE : Fld := ⟨0x30008, 0, 4, .ro, 0x0⟩
def LNK_STAT_RATE : Fld := ⟨0x30008, 4, 2, .ro, 0x0⟩
def LNK_STAT_DL_ACTIVE : Fld := ⟨0x30008, 6, 4, .ro, 0x0⟩
def LNK_STAT_DL_ABSENT : Fld := ⟨0x30008, 10, 4, .ro, 0x0⟩
def LNK_STAT_UL_ACTIVE : Fld := ⟨0x30008, 14, 2, .ro, 0x0⟩
def LNK_STAT_UL_ABSENT : Fld := ⟨0x30008, 16, 2, .ro, 0x0⟩
def LNK_STAT_ATTEMPT : Fld := ⟨0x30008, 18, 4, .ro, 0x0⟩
def LNK_STAT_RATE_CAPPED : Fld := ⟨0x30008, 22, 1, .ro, 0x0⟩
def LNK_STAT_DOWN : Fld := ⟨0x30008, 23, 1, .ro, 0x0⟩
def LNK_STAT_UL_L1 : Fld := ⟨0x30008, 24, 1, .ro, 0x0⟩
def LNK_STAT_DL_L1 : Fld := ⟨0x30008, 25, 1, .ro, 0x0⟩
/-! `LNK_CNT` (R298) -/
def LNK_CNT_TRAINS : Fld := ⟨0x3000c, 0, 16, .rc, 0x0⟩
def LNK_CNT_RECOVERIES : Fld := ⟨0x3000c, 16, 16, .rc, 0x0⟩
/-! `LNK_ERR` (R298) -/
def LNK_ERR_CRC_ERR : Fld := ⟨0x30010, 0, 16, .rc, 0x0⟩
def LNK_ERR_REPLAYS : Fld := ⟨0x30010, 16, 16, .rc, 0x0⟩
/-! `LNK_PROTO` (R298) -/
def LNK_PROTO_MALFORMED : Fld := ⟨0x30014, 0, 16, .rc, 0x0⟩
def LNK_PROTO_REFUSED : Fld := ⟨0x30014, 16, 16, .rc, 0x0⟩
/-! `LNK_PM` (R298) -/
def LNK_PM_L1_IDLE_US : Fld := ⟨0x30018, 0, 8, .rw, 0x14⟩
def LNK_PM_L2_EXIT_US : Fld := ⟨0x30018, 16, 16, .ro, 0x0⟩
/-! `LNK_TM` (R298) -/
def LNK_TM_LEAD_NS : Fld := ⟨0x3001c, 0, 16, .ro, 0x0⟩
def LNK_TM_HOST_ADJ_NS : Fld := ⟨0x3001c, 16, 16, .rw, 0x0⟩
/-! `LNK_ECHO` (R298) -/
def LNK_ECHO_RTT_NS : Fld := ⟨0x30020, 0, 16, .ro, 0x0⟩
def LNK_ECHO_TURN_NS : Fld := ⟨0x30020, 16, 16, .ro, 0x0⟩
/-! `LNK_TAGS` (R298) -/
def LNK_TAGS_OUTSTANDING : Fld := ⟨0x30024, 0, 9, .ro, 0x0⟩
def LNK_TAGS_QUARANTINED : Fld := ⟨0x30024, 9, 7, .ro, 0x0⟩
def LNK_TAGS_LATE : Fld := ⟨0x30024, 16, 16, .rc, 0x0⟩
/-! `LNK_CREDIT` (R298) -/
def LNK_CREDIT_P_HDR : Fld := ⟨0x30028, 0, 8, .ro, 0x0⟩
def LNK_CREDIT_NP_HDR : Fld := ⟨0x30028, 8, 8, .ro, 0x0⟩
def LNK_CREDIT_P_DATA : Fld := ⟨0x30028, 16, 16, .ro, 0x0⟩
/-! `LNK_LANECNT` (R298) -/
def LNK_LANECNT_LOS : Fld := ⟨0x3002c, 0, 16, .rc, 0x0⟩
def LNK_LANECNT_LOL : Fld := ⟨0x3002c, 16, 16, .rc, 0x0⟩
/-! `LNK_DL` (R298) -/
def LNK_DL_LOS (l : Nat) : Fld := ⟨0x30030 + 0x4 * l, 0, 1, .ro, 0x1⟩
def LNK_DL_LOCK (l : Nat) : Fld := ⟨0x30030 + 0x4 * l, 1, 1, .ro, 0x0⟩
def LNK_DL_INVERTED (l : Nat) : Fld := ⟨0x30030 + 0x4 * l, 2, 1, .ro, 0x0⟩
def LNK_DL_ABSENT (l : Nat) : Fld := ⟨0x30030 + 0x4 * l, 3, 1, .ro, 0x0⟩
def LNK_DL_DESKEW_UI (l : Nat) : Fld := ⟨0x30030 + 0x4 * l, 8, 7, .ro, 0x0⟩
def LNK_DL_EYE_MV (l : Nat) : Fld := ⟨0x30030 + 0x4 * l, 16, 8, .ro, 0x0⟩
def LNK_DL_CTLE (l : Nat) : Fld := ⟨0x30030 + 0x4 * l, 24, 4, .ro, 0x0⟩
/-! `LNK_UL` (R298) -/
def LNK_UL_SWING (u : Nat) : Fld := ⟨0x30040 + 0x4 * u, 0, 4, .rw, 0x0⟩
def LNK_UL_DEEMPH (u : Nat) : Fld := ⟨0x30040 + 0x4 * u, 4, 4, .rw, 0x0⟩
def LNK_UL_ABSENT (u : Nat) : Fld := ⟨0x30040 + 0x4 * u, 8, 1, .ro, 0x0⟩
/-! `LNK_DFE` (R298) -/
def LNK_DFE_TAP (l : Nat) : Fld := ⟨0x30050 + 0x4 * l, 0, 30, .ro, 0x0⟩
/-! `LNK_SL_CTL` (R298) -/
def LNK_SL_CTL_EN : Fld := ⟨0x30060, 0, 1, .rw, 0x0⟩
def LNK_SL_CTL_HOPADJ_CYC : Fld := ⟨0x30060, 8, 8, .rw, 0x0⟩
def LNK_SL_CTL_HOP_DEF : Fld := ⟨0x30060, 16, 16, .rw, 0x40⟩
/-! `LNK_SL_STAT` (R298) -/
def LNK_SL_STAT_LOS : Fld := ⟨0x30064, 0, 1, .ro, 0x1⟩
def LNK_SL_STAT_LOCK : Fld := ⟨0x30064, 1, 1, .ro, 0x0⟩
def LNK_SL_STAT_TRAINED : Fld := ⟨0x30064, 2, 1, .ro, 0x0⟩
def LNK_SL_STAT_RING_N : Fld := ⟨0x30064, 3, 2, .ro, 0x0⟩
def LNK_SL_STAT_RING_CYC : Fld := ⟨0x30064, 16, 16, .ro, 0x0⟩
/-! `LNK_SL_CNT` (R298) -/
def LNK_SL_CNT_CRC_ERR : Fld := ⟨0x30068, 0, 16, .rc, 0x0⟩
def LNK_SL_CNT_REL_LATE : Fld := ⟨0x30068, 16, 8, .rc, 0x0⟩

/-! `CAN_CTL` (R299) -/
def CAN_CTL_MODE : Fld := ⟨0x40000, 0, 2, .lck, 0x0⟩
def CAN_CTL_AUTO_RECOVER : Fld := ⟨0x40000, 2, 1, .lck, 0x1⟩
def CAN_CTL_TDC_EN : Fld := ⟨0x40000, 3, 1, .lck, 0x0⟩
/-! `CAN_NBT` (R299) -/
def CAN_NBT_NBRP : Fld := ⟨0x40004, 0, 5, .lck, 0x1⟩
def CAN_NBT_NTSEG1 : Fld := ⟨0x40004, 5, 8, .lck, 0x3e⟩
def CAN_NBT_NTSEG2 : Fld := ⟨0x40004, 13, 7, .lck, 0xf⟩
def CAN_NBT_NSJW : Fld := ⟨0x40004, 20, 7, .lck, 0xf⟩
/-! `CAN_DBT` (R299) -/
def CAN_DBT_DBRP : Fld := ⟨0x40008, 0, 5, .lck, 0x0⟩
def CAN_DBT_DTSEG1 : Fld := ⟨0x40008, 5, 5, .lck, 0x1c⟩
def CAN_DBT_DTSEG2 : Fld := ⟨0x40008, 10, 4, .lck, 0x9⟩
def CAN_DBT_DSJW : Fld := ⟨0x40008, 14, 4, .lck, 0x9⟩
def CAN_DBT_TDCO : Fld := ⟨0x40008, 18, 7, .lck, 0x0⟩
/-! `CAN_ID` (R299) -/
def CAN_ID_ID (i : Nat) : Fld := ⟨0x4000c + 0x4 * i, 0, 29, .lck, 0x0⟩
def CAN_ID_IDE (i : Nat) : Fld := ⟨0x4000c + 0x4 * i, 29, 1, .lck, 0x0⟩
/-! `CAN_STAT_CFG` (R299) -/
def CAN_STAT_CFG_PERIOD_TICKS : Fld := ⟨0x40018, 0, 8, .lck, 0x19⟩
/-! `CAN_STAT` (R299) -/
def CAN_STAT_STATE : Fld := ⟨0x40020, 0, 2, .ro, 0x3⟩
def CAN_STAT_TEC : Fld := ⟨0x40020, 8, 8, .ro, 0x0⟩
def CAN_STAT_REC : Fld := ⟨0x40020, 16, 7, .ro, 0x0⟩
def CAN_STAT_TDCV : Fld := ⟨0x40020, 23, 8, .ro, 0x0⟩
/-! `CAN_RXCNT` (R299) -/
def CAN_RXCNT_COPIES : Fld := ⟨0x40024, 0, 16, .rc, 0x0⟩
def CAN_RXCNT_FORMAT : Fld := ⟨0x40024, 16, 16, .rc, 0x0⟩
/-! `CAN_ERRCNT` (R299) -/
def CAN_ERRCNT_BUS_OFF : Fld := ⟨0x40028, 0, 8, .rc, 0x0⟩
def CAN_ERRCNT_OVERRUN : Fld := ⟨0x40028, 8, 8, .rc, 0x0⟩
def CAN_ERRCNT_ASM_DISCARD : Fld := ⟨0x40028, 16, 8, .rc, 0x0⟩
def CAN_ERRCNT_IGNORED : Fld := ⟨0x40028, 24, 8, .rc, 0x0⟩
/-! `CAN_LAST` (R299) -/
def CAN_LAST_SEQ : Fld := ⟨0x4002c, 0, 16, .ro, 0x0⟩
def CAN_LAST_COUNTER : Fld := ⟨0x4002c, 16, 16, .ro, 0x0⟩

/-! `SFT_MODE` (R339) -/
def SFT_MODE_MODE : Fld := ⟨0x380000, 0, 2, .ro, 0x0⟩
def SFT_MODE_LIMP : Fld := ⟨0x380000, 2, 1, .ro, 0x0⟩
def SFT_MODE_SK_HEALTHY : Fld := ⟨0x380000, 3, 1, .ro, 0x0⟩
/-! `SFT_LOCK` (R339) -/
def SFT_LOCK_CAUSE_REC : Fld := ⟨0x380004, 0, 32, .ro, 0x0⟩
/-! `SFT_LOCK_STAT` (R339) -/
def SFT_LOCK_STAT_READ_OK : Fld := ⟨0x380008, 0, 1, .ro, 0x0⟩
def SFT_LOCK_STAT_LAST_REFUSE : Fld := ⟨0x380008, 4, 4, .ro, 0x0⟩
def SFT_LOCK_STAT_REFUSALS : Fld := ⟨0x380008, 16, 16, .rc, 0x0⟩
/-! `SFT_FEAT` (R339) -/
def SFT_FEAT_FEAT_OFF : Fld := ⟨0x38000c, 0, 4, .rw, 0x0⟩
/-! `SFT_INPUTS` (R339) -/
def SFT_INPUTS_PINS : Fld := ⟨0x380010, 0, 4, .ro, 0x0⟩
def SFT_INPUTS_HBP : Fld := ⟨0x380010, 4, 1, .ro, 0x0⟩
def SFT_INPUTS_LBF : Fld := ⟨0x380010, 5, 1, .ro, 0x1⟩
def SFT_INPUTS_HBP_LATCH : Fld := ⟨0x380010, 6, 1, .ro, 0x0⟩
def SFT_INPUTS_LBF_LATCH : Fld := ⟨0x380010, 7, 1, .ro, 0x0⟩
def SFT_INPUTS_PERMIT : Fld := ⟨0x380010, 8, 1, .ro, 0x0⟩
/-! `SFT_DISC_CFG` (R339) -/
def SFT_DISC_CFG_T_MS : Fld := ⟨0x380014, 0, 8, .lck, 0x14⟩
/-! `SFT_TWIN_CFG` (R339) -/
def SFT_TWIN_CFG_EN : Fld := ⟨0x380018, 0, 1, .lck, 0x1⟩
def SFT_TWIN_CFG_WINDOW : Fld := ⟨0x380018, 4, 4, .lck, 0x2⟩
def SFT_TWIN_CFG_PERSIST : Fld := ⟨0x380018, 8, 8, .lck, 0x8⟩
def SFT_TWIN_CFG_STALE : Fld := ⟨0x380018, 16, 8, .lck, 0x10⟩
/-! `SFT_TWIN_STAT` (R339) -/
def SFT_TWIN_STAT_STATE : Fld := ⟨0x38001c, 0, 2, .ro, 0x3⟩
def SFT_TWIN_STAT_LINK_STALE : Fld := ⟨0x38001c, 2, 1, .ro, 0x1⟩
def SFT_TWIN_STAT_CAN_STALE : Fld := ⟨0x38001c, 3, 1, .ro, 0x1⟩
def SFT_TWIN_STAT_PERMIT : Fld := ⟨0x38001c, 4, 1, .ro, 0x0⟩
def SFT_TWIN_STAT_MISM_CNT : Fld := ⟨0x38001c, 8, 8, .ro, 0x0⟩
/-! `SFT_TWIN_SEQ` (R339) -/
def SFT_TWIN_SEQ_LINK_SEQ : Fld := ⟨0x380020, 0, 16, .ro, 0x0⟩
def SFT_TWIN_SEQ_CAN_SEQ : Fld := ⟨0x380020, 16, 16, .ro, 0x0⟩
/-! `SFT_TWIN_CNT` (R339) -/
def SFT_TWIN_CNT_MISMATCH : Fld := ⟨0x380024, 0, 16, .rc, 0x0⟩
def SFT_TWIN_CNT_MISSING : Fld := ⟨0x380024, 16, 16, .rc, 0x0⟩
/-! `SFT_FP` (R339) -/
def SFT_FP_FP : Fld := ⟨0x380028, 0, 32, .ro, 0x0⟩
/-! `SFT_COMM_EPOCH` (R339) -/
def SFT_COMM_EPOCH_EPOCH : Fld := ⟨0x38002c, 0, 32, .ro, 0x0⟩
/-! `SFT_FP_STAT` (R339) -/
def SFT_FP_STAT_PEER_MISM : Fld := ⟨0x380030, 0, 4, .ro, 0x0⟩
/-! `SFT_SK_STAT` (R339) -/
def SFT_SK_STAT_VALID : Fld := ⟨0x380040, 0, 1, .ro, 0x0⟩
def SFT_SK_STAT_REASON : Fld := ⟨0x380040, 1, 3, .ro, 0x0⟩
def SFT_SK_STAT_SRAM_ERR : Fld := ⟨0x380040, 4, 1, .w1c, 0x0⟩
def SFT_SK_STAT_SCALE : Fld := ⟨0x380040, 16, 11, .ro, 0x0⟩
/-! `SFT_SK_ID` (R339) -/
def SFT_SK_ID_ID : Fld := ⟨0x380044, 0, 32, .ro, 0x0⟩
/-! `SFT_SK_CFG` (R339) -/
def SFT_SK_CFG_BLANK_MAX : Fld := ⟨0x380048, 0, 8, .lck, 0x10⟩
/-! `SFT_SK_HEALTH` (R339) -/
def SFT_SK_HEALTH_FAIL : Fld := ⟨0x38004c, 0, 7, .ro, 0x1⟩
/-! `SFT_HOSTWAIT` (R339) -/
def SFT_HOSTWAIT_MS : Fld := ⟨0x380050, 0, 11, .lck, 0x12c⟩
/-! `SFT_SESS_CTL` (R339) -/
def SFT_SESS_CTL_OPEN : Fld := ⟨0x380060, 0, 1, .wo, 0x0⟩
def SFT_SESS_CTL_CLOSE : Fld := ⟨0x380060, 1, 1, .wo, 0x0⟩
def SFT_SESS_CTL_PILOT : Fld := ⟨0x380060, 2, 1, .wo, 0x0⟩
def SFT_SESS_CTL_SET_PW : Fld := ⟨0x380060, 3, 1, .wo, 0x0⟩
def SFT_SESS_CTL_PWLEN : Fld := ⟨0x380060, 8, 6, .wo, 0x0⟩
/-! `SFT_SESS_STAT` (R339) -/
def SFT_SESS_STAT_ACTIVE : Fld := ⟨0x380064, 0, 1, .ro, 0x0⟩
def SFT_SESS_STAT_PILOT : Fld := ⟨0x380064, 1, 1, .ro, 0x0⟩
def SFT_SESS_STAT_PW_SET : Fld := ⟨0x380064, 2, 1, .ro, 0x0⟩
def SFT_SESS_STAT_LOCKED : Fld := ⟨0x380064, 3, 1, .ro, 0x0⟩
def SFT_SESS_STAT_FAILS : Fld := ⟨0x380064, 4, 4, .ro, 0x0⟩
def SFT_SESS_STAT_LOCK_MIN : Fld := ⟨0x380064, 16, 16, .ro, 0x0⟩
/-! `SFT_SESS_OP` (R339) -/
def SFT_SESS_OP_OPERATOR : Fld := ⟨0x380068, 0, 16, .rw, 0x0⟩
/-! `SFT_SESS_EPOCH` (R339) -/
def SFT_SESS_EPOCH_EPOCH : Fld := ⟨0x38006c, 0, 32, .rw, 0x0⟩
/-! `SFT_PW` (R339) -/
def SFT_PW_BYTES (i : Nat) : Fld := ⟨0x380070 + 0x4 * i, 0, 32, .wo, 0x0⟩
/-! `SFT_PILOT_CRC` (R339) -/
def SFT_PILOT_CRC_CRC : Fld := ⟨0x380090, 0, 32, .wo, 0x0⟩
/-! `SFT_PILOT_STAT` (R339) -/
def SFT_PILOT_STAT_WAITING : Fld := ⟨0x380094, 0, 1, .ro, 0x0⟩
def SFT_PILOT_STAT_OPCODE : Fld := ⟨0x380094, 8, 8, .ro, 0x0⟩

/-! `LCS_ID` (R340) -/
def LCS_ID_STEPPING : Fld := ⟨0x0, 0, 4, .ro, 0x1⟩
def LCS_ID_PART : Fld := ⟨0x0, 4, 16, .ro, 0x1310⟩
/-! `LCS_STATE` (R340) -/
def LCS_STATE_STATE : Fld := ⟨0x4, 0, 3, .ro, 0x0⟩
def LCS_STATE_PENDING : Fld := ⟨0x4, 3, 3, .ro, 0x0⟩
def LCS_STATE_PILOT_COMPAT : Fld := ⟨0x4, 6, 1, .ro, 0x0⟩
def LCS_STATE_ADV_ERR : Fld := ⟨0x4, 7, 1, .w1c, 0x0⟩
/-! `LCS_ADVANCE` (R340) -/
def LCS_ADVANCE_TARGET : Fld := ⟨0x8, 0, 3, .wo, 0x0⟩
def LCS_ADVANCE_KEY : Fld := ⟨0x8, 16, 16, .wo, 0x0⟩
/-! `LCS_CHALLENGE_LO` (R340) -/
def LCS_CHALLENGE_LO_CHAL : Fld := ⟨0x10, 0, 32, .ro, 0x0⟩
/-! `LCS_CHALLENGE_HI` (R340) -/
def LCS_CHALLENGE_HI_CHAL : Fld := ⟨0x14, 0, 32, .ro, 0x0⟩
/-! `LCS_TOKEN` (R340) -/
def LCS_TOKEN_BYTES (i : Nat) : Fld := ⟨0x40 + 0x4 * i, 0, 32, .wo, 0x0⟩
/-! `LCS_RETURN` (R340) -/
def LCS_RETURN_GO : Fld := ⟨0x80, 0, 1, .wo, 0x0⟩
/-! `LCS_RESET` (R420) -/
def LCS_RESET_CAUSE : Fld := ⟨0x100, 0, 4, .ro, 0x0⟩
def LCS_RESET_WARM : Fld := ⟨0x100, 4, 1, .ro, 0x0⟩
def LCS_RESET_EARLY : Fld := ⟨0x100, 6, 6, .ro, 0x0⟩
/-! `LCS_BOOT` (R420) -/
def LCS_BOOT_IMAGE : Fld := ⟨0x104, 0, 2, .ro, 0x0⟩
def LCS_BOOT_IMG0_BAD : Fld := ⟨0x104, 2, 1, .ro, 0x0⟩
def LCS_BOOT_IMG1_BAD : Fld := ⟨0x104, 3, 1, .ro, 0x0⟩
def LCS_BOOT_SETUP_OK : Fld := ⟨0x104, 4, 1, .ro, 0x0⟩
def LCS_BOOT_ENV_OK : Fld := ⟨0x104, 5, 1, .ro, 0x0⟩
def LCS_BOOT_ENDED : Fld := ⟨0x104, 6, 1, .ro, 0x0⟩
def LCS_BOOT_CAPABLE : Fld := ⟨0x104, 7, 1, .ro, 0x0⟩
def LCS_BOOT_FIRST_LIGHT : Fld := ⟨0x104, 8, 1, .ro, 0x0⟩
def LCS_BOOT_HW_RUN : Fld := ⟨0x104, 9, 1, .ro, 0x0⟩
def LCS_BOOT_HW_EXP : Fld := ⟨0x104, 10, 1, .ro, 0x0⟩
/-! `LCS_BOOT_TIME` (R420) -/
def LCS_BOOT_TIME_CAP_MS : Fld := ⟨0x108, 0, 12, .ro, 0x0⟩
def LCS_BOOT_TIME_LIGHT_MS : Fld := ⟨0x108, 16, 12, .ro, 0x0⟩
/-! `LCS_IMAGE` (R420) -/
def LCS_IMAGE_SEQ : Fld := ⟨0x10c, 0, 32, .ro, 0x0⟩

/-! `FLT_CTL` (R371) -/
def FLT_CTL_GRACE_TICKS : Fld := ⟨0x3a0000, 0, 8, .rw, 0x3⟩
/-! `FLT_STAT` (R371) -/
def FLT_STAT_MAXSEV : Fld := ⟨0x3a0004, 0, 3, .ro, 0x0⟩
def FLT_STAT_ACK_FULL : Fld := ⟨0x3a0004, 3, 1, .ro, 0x0⟩
def FLT_STAT_SELF : Fld := ⟨0x3a0004, 4, 1, .w1c, 0x0⟩
def FLT_STAT_SEV_REFUSED : Fld := ⟨0x3a0004, 5, 1, .w1c, 0x0⟩
def FLT_STAT_UNACKED : Fld := ⟨0x3a0004, 16, 16, .ro, 0x0⟩
/-! `FLT_ACK` (R371) -/
def FLT_ACK_RECORD : Fld := ⟨0x3a0008, 0, 32, .wo, 0x0⟩
/-! `FLT_ACK_CTL` (R371) -/
def FLT_ACK_CTL_ALL_S2 : Fld := ⟨0x3a000c, 0, 1, .wo, 0x0⟩
def FLT_ACK_CTL_ALL_INJ : Fld := ⟨0x3a000c, 1, 1, .wo, 0x0⟩
def FLT_ACK_CTL_ERR : Fld := ⟨0x3a000c, 2, 1, .w1c, 0x0⟩
/-! `FLT_LAST` (R371) -/
def FLT_LAST_RECORD : Fld := ⟨0x3a0010, 0, 32, .ro, 0x0⟩
/-! `FLT_LAST_LO` (R371) -/
def FLT_LAST_LO_MSG : Fld := ⟨0x3a0014, 0, 32, .ro, 0x0⟩
/-! `FLT_LAST_HI` (R371) -/
def FLT_LAST_HI_MSG : Fld := ⟨0x3a0018, 0, 32, .ro, 0x0⟩
/-! `FLT_DROP` (R371) -/
def FLT_DROP_DROPPED : Fld := ⟨0x3a001c, 0, 16, .rc, 0x0⟩
def FLT_DROP_ESCALATED : Fld := ⟨0x3a001c, 16, 16, .rc, 0x0⟩
/-! `FLT_SAT` (R371) -/
def FLT_SAT_ADDR : Fld := ⟨0x3a0020, 0, 24, .ro, 0x0⟩
def FLT_SAT_FLAG : Fld := ⟨0x3a0020, 24, 1, .w1c, 0x0⟩
/-! `FLT_INJ_SRC` (R371) -/
def FLT_INJ_SRC_SOURCE : Fld := ⟨0x3a0030, 0, 10, .rw, 0x0⟩
def FLT_INJ_SRC_KIND : Fld := ⟨0x3a0030, 10, 6, .rw, 0x0⟩
def FLT_INJ_SRC_REACT : Fld := ⟨0x3a0030, 16, 1, .rw, 0x0⟩
/-! `FLT_INJ_ADDR` (R371) -/
def FLT_INJ_ADDR_ADDR : Fld := ⟨0x3a0034, 0, 24, .rw, 0x0⟩
/-! `FLT_INJ_GO` (R371) -/
def FLT_INJ_GO_GO : Fld := ⟨0x3a0038, 0, 1, .wo, 0x0⟩
/-! `FLT_INJ_CNT` (R371) -/
def FLT_INJ_CNT_INJECTED : Fld := ⟨0x3a003c, 0, 16, .rc, 0x0⟩
/-! `FLT_UNACK_REC` (R371) -/
def FLT_UNACK_REC_RECORD (i : Nat) : Fld := ⟨0x3a0200 + 0x8 * i, 0, 32, .ro, 0x0⟩
/-! `FLT_UNACK_STAT` (R371) -/
def FLT_UNACK_STAT_SEV (i : Nat) : Fld := ⟨0x3a0204 + 0x8 * i, 0, 3, .ro, 0x0⟩
def FLT_UNACK_STAT_INJECTED (i : Nat) : Fld := ⟨0x3a0204 + 0x8 * i, 3, 1, .ro, 0x0⟩
def FLT_UNACK_STAT_VALID (i : Nat) : Fld := ⟨0x3a0204 + 0x8 * i, 4, 1, .ro, 0x0⟩
def FLT_UNACK_STAT_GRACE (i : Nat) : Fld := ⟨0x3a0204 + 0x8 * i, 8, 8, .ro, 0x0⟩
/-! `FLT_CNT` (R371) -/
def FLT_CNT_B0 (w : Nat) : Fld := ⟨0x3a2000 + 0x4 * w, 0, 8, .rc, 0x0⟩
def FLT_CNT_B1 (w : Nat) : Fld := ⟨0x3a2000 + 0x4 * w, 8, 8, .rc, 0x0⟩
def FLT_CNT_B2 (w : Nat) : Fld := ⟨0x3a2000 + 0x4 * w, 16, 8, .rc, 0x0⟩
def FLT_CNT_B3 (w : Nat) : Fld := ⟨0x3a2000 + 0x4 * w, 24, 8, .rc, 0x0⟩

/-! `REC_CTL` (R372) -/
def REC_CTL_MODE : Fld := ⟨0x3c0000, 0, 1, .rws, 0x0⟩
/-! `REC_STAT` (R372) -/
def REC_STAT_FROZEN : Fld := ⟨0x3c0004, 0, 1, .ro, 0x0⟩
def REC_STAT_FLUSHING : Fld := ⟨0x3c0004, 1, 1, .ro, 0x0⟩
def REC_STAT_FREEZE_TO : Fld := ⟨0x3c0004, 2, 1, .w1c, 0x0⟩
def REC_STAT_BUFFERED : Fld := ⟨0x3c0004, 8, 6, .ro, 0x0⟩
def REC_STAT_HELD : Fld := ⟨0x3c0004, 16, 7, .ro, 0x0⟩
/-! `REC_NEXT` (R372) -/
def REC_NEXT_NUMBER : Fld := ⟨0x3c0008, 0, 32, .ro, 0x0⟩
/-! `REC_OLDEST` (R372) -/
def REC_OLDEST_NUMBER : Fld := ⟨0x3c000c, 0, 32, .ro, 0x0⟩
/-! `REC_CNT` (R372) -/
def REC_CNT_DROPPED : Fld := ⟨0x3c0010, 0, 16, .rc, 0x0⟩
def REC_CNT_HOLD_OVF : Fld := ⟨0x3c0010, 16, 16, .rc, 0x0⟩
/-! `REC_TORN` (R372) -/
def REC_TORN_TORN : Fld := ⟨0x3c0014, 0, 16, .ro, 0x0⟩
def REC_TORN_PROG_FAIL : Fld := ⟨0x3c0014, 16, 16, .rc, 0x0⟩
/-! `REC_PF` (R372) -/
def REC_PF_PF_MV : Fld := ⟨0x3c0018, 0, 13, .rws, 0xbb8⟩
def REC_PF_LAST_FLUSH : Fld := ⟨0x3c0018, 16, 6, .ro, 0x0⟩
/-! `REC_MINUTES` (R372) -/
def REC_MINUTES_MINUTES : Fld := ⟨0x3c001c, 0, 32, .ro, 0x0⟩
/-! `REC_CYCLES` (R372) -/
def REC_CYCLES_CYCLES : Fld := ⟨0x3c0020, 0, 24, .ro, 0x0⟩
/-! `REC_KEEP` (R372) -/
def REC_KEEP_USED : Fld := ⟨0x3c0024, 0, 8, .ro, 0x0⟩

/-! `BST_CTL` (R394) -/
def BST_CTL_ABORT : Fld := ⟨0x3e0000, 0, 1, .wo, 0x0⟩
/-! `BST_START` (R394) -/
def BST_START_TEST : Fld := ⟨0x3e0004, 0, 8, .rw, 0x0⟩
def BST_START_GO : Fld := ⟨0x3e0004, 8, 1, .wo, 0x0⟩
/-! `BST_RGN_LO` (R394) -/
def BST_RGN_LO_REGIONS : Fld := ⟨0x3e0008, 0, 32, .rw, 0x0⟩
/-! `BST_RGN_HI` (R394) -/
def BST_RGN_HI_REGIONS : Fld := ⟨0x3e000c, 0, 32, .rw, 0x0⟩
/-! `BST_DEADLINE` (R394) -/
def BST_DEADLINE_TICKS : Fld := ⟨0x3e0010, 0, 16, .rw, 0x10⟩
/-! `BST_STAT` (R394) -/
def BST_STAT_RUNNING : Fld := ⟨0x3e0014, 0, 1, .ro, 0x0⟩
def BST_STAT_ORIGIN : Fld := ⟨0x3e0014, 1, 1, .ro, 0x0⟩
def BST_STAT_REFUSED_WR : Fld := ⟨0x3e0014, 2, 1, .w1c, 0x0⟩
def BST_STAT_TEST : Fld := ⟨0x3e0014, 8, 8, .ro, 0x0⟩
def BST_STAT_GROUP : Fld := ⟨0x3e0014, 16, 8, .ro, 0x0⟩
def BST_STAT_WAIT : Fld := ⟨0x3e0014, 24, 8, .ro, 0x0⟩
/-! `BST_EXPECT` (R394) -/
def BST_EXPECT_COUNT : Fld := ⟨0x3e0018, 0, 32, .ro, 0x0⟩
/-! `BST_EXEC` (R394) -/
def BST_EXEC_COUNT : Fld := ⟨0x3e001c, 0, 32, .ro, 0x0⟩
/-! `BST_RESULT` (R394) -/
def BST_RESULT_PASS : Fld := ⟨0x3e0020, 0, 1, .ro, 0x0⟩
def BST_RESULT_COMPLETE : Fld := ⟨0x3e0020, 1, 1, .ro, 0x0⟩
def BST_RESULT_ABORTED : Fld := ⟨0x3e0020, 2, 1, .ro, 0x0⟩
def BST_RESULT_DEFERRED : Fld := ⟨0x3e0020, 3, 1, .ro, 0x0⟩
def BST_RESULT_TEST : Fld := ⟨0x3e0020, 8, 8, .ro, 0x0⟩
def BST_RESULT_FAILS : Fld := ⟨0x3e0020, 16, 16, .ro, 0x0⟩
/-! `BST_SIG` (R394) -/
def BST_SIG_CRC : Fld := ⟨0x3e0024, 0, 32, .ro, 0x0⟩
/-! `BST_FIRSTFAIL` (R394) -/
def BST_FIRSTFAIL_INDEX : Fld := ⟨0x3e0028, 0, 24, .ro, 0x0⟩
def BST_FIRSTFAIL_VALID : Fld := ⟨0x3e0028, 24, 1, .ro, 0x0⟩
/-! `BST_REFUSED_ADDR` (R394) -/
def BST_REFUSED_ADDR_OFFSET : Fld := ⟨0x3e002c, 0, 24, .ro, 0x0⟩
/-! `BST_FAIL_IDX` (R394) -/
def BST_FAIL_IDX_INDEX (i : Nat) : Fld := ⟨0x3e0100 + 0x8 * i, 0, 24, .ro, 0x0⟩
/-! `BST_FAIL_VAL` (R394) -/
def BST_FAIL_VAL_VALUE (i : Nat) : Fld := ⟨0x3e0104 + 0x8 * i, 0, 32, .ro, 0x0⟩
/-! `DBG_CTL` (R396) -/
def DBG_CTL_EN : Fld := ⟨0x3e2000, 0, 1, .rw, 0x0⟩
/-! `DBG_TMUX` (R396) -/
def DBG_TMUX_SEL0 : Fld := ⟨0x3e2004, 0, 8, .rw, 0x0⟩
def DBG_TMUX_SEL1 : Fld := ⟨0x3e2004, 8, 8, .rw, 0x0⟩
/-! `DBG_TDBG_LO` (R396) -/
def DBG_TDBG_LO_SEL : Fld := ⟨0x3e2008, 0, 32, .rw, 0x0⟩
/-! `DBG_TDBG_HI` (R396) -/
def DBG_TDBG_HI_SEL : Fld := ⟨0x3e200c, 0, 32, .rw, 0x0⟩
/-! `DBG_STAT` (R396) -/
def DBG_STAT_GATED : Fld := ⟨0x3e2010, 0, 1, .ro, 0x1⟩
def DBG_STAT_BAD_SEL : Fld := ⟨0x3e2010, 1, 1, .w1c, 0x0⟩
/-! `DBG_JTAG` (R396) -/
def DBG_JTAG_LEVEL : Fld := ⟨0x3e2014, 0, 2, .ro, 0x0⟩

/-! `CRC_CTL` (R395) -/
def CRC_CTL_ALGO (u : Nat) : Fld := ⟨0x3E1000 + 0x20 * u + 0x0, 0, 2, .rw, 0x0⟩
def CRC_CTL_START (u : Nat) : Fld := ⟨0x3E1000 + 0x20 * u + 0x0, 2, 1, .wo, 0x0⟩
def CRC_CTL_BUSY (u : Nat) : Fld := ⟨0x3E1000 + 0x20 * u + 0x0, 3, 1, .ro, 0x0⟩
/-! `CRC_DATA8` (R395) -/
def CRC_DATA8_BYTE (u : Nat) : Fld := ⟨0x3E1000 + 0x20 * u + 0x4, 0, 8, .wo, 0x0⟩
/-! `CRC_DATA16` (R395) -/
def CRC_DATA16_HALF (u : Nat) : Fld := ⟨0x3E1000 + 0x20 * u + 0x8, 0, 16, .wo, 0x0⟩
/-! `CRC_DATA32` (R395) -/
def CRC_DATA32_WORD (u : Nat) : Fld := ⟨0x3E1000 + 0x20 * u + 0xc, 0, 32, .wo, 0x0⟩
/-! `CRC_VALUE` (R395) -/
def CRC_VALUE_VALUE (u : Nat) : Fld := ⟨0x3E1000 + 0x20 * u + 0x10, 0, 32, .rw, 0xffffffff⟩
/-! `CRC_RESULT` (R395) -/
def CRC_RESULT_RESULT (u : Nat) : Fld := ⟨0x3E1000 + 0x20 * u + 0x14, 0, 32, .ro, 0x0⟩

/-- One row of a register map: offset in its block, step and number of its copies, and the fields of copy i. -/
structure RegRow where
  off : Nat
  step : Nat
  count : Nat
  flds : Nat → List Fld

/-- The fields of the word at offset o of a block. -/
def RegRow.find : List RegRow → Nat → List Fld
  | [], _ => []
  | r :: rs, o =>
    if r.off ≤ o ∧ o < r.off + r.step * r.count ∧ (o - r.off) % r.step = 0 then r.flds ((o - r.off) / r.step)
    else RegRow.find rs o

def rowsTCK0 : List RegRow := [
  ⟨0x800, 0x4, 1, fun _ => [TCK_BCAST_MIXED_MIXED, TCK_BCAST_MIXED_EMPTY, TCK_BCAST_MIXED_SKIPPED, TCK_BCAST_MIXED_ALIAS, TCK_BCAST_MIXED_OFFSET]⟩,
  ⟨0x810, 0x8, 8, fun i => [TCK_GRP_LO_MEMBERS i]⟩,
  ⟨0x814, 0x8, 8, fun i => [TCK_GRP_HI_MEMBERS i]⟩,
  ⟨0x0, 0x4, 1, fun _ => [TCK_CTL_SYNC_ROLE, TCK_CTL_TOUT_EN, TCK_CTL_TOUT_MODE]⟩,
  ⟨0x4, 0x4, 1, fun _ => [TCK_PERIOD_PERIOD_US]⟩,
  ⟨0x8, 0x4, 1, fun _ => [TCK_BASK_BASK_US]⟩,
  ⟨0xc, 0x4, 1, fun _ => [TCK_APPLY_GO, TCK_APPLY_PENDING, TCK_APPLY_ERR, TCK_APPLY_AT_LO]⟩,
  ⟨0x10, 0x4, 1, fun _ => [TCK_ACTIVE_PERIOD_US, TCK_ACTIVE_BASK_US]⟩,
  ⟨0x14, 0x4, 1, fun _ => [TCK_ROWTIME_ROW_CYC]⟩,
  ⟨0x18, 0x4, 1, fun _ => [TCK_COUNT_LO_COUNT]⟩,
  ⟨0x1c, 0x4, 1, fun _ => [TCK_COUNT_HI_COUNT]⟩,
  ⟨0x20, 0x4, 1, fun _ => [TCK_ROWPOS_ROW, TCK_ROWPOS_BASK]⟩]
def rowsTCK1 : List RegRow := [
  ⟨0x30, 0x4, 1, fun _ => [TCK_OVR_CONSEC, TCK_OVR_LIMIT]⟩,
  ⟨0x34, 0x4, 1, fun _ => [TCK_OVR_COUNT_COUNT]⟩,
  ⟨0x38, 0x4, 1, fun _ => [TCK_SLACK_LAST_US, TCK_SLACK_MIN_US]⟩,
  ⟨0x3c, 0x4, 1, fun _ => [TCK_CLKMON_TOL_PCT, TCK_CLKMON_MEAS_US]⟩,
  ⟨0x40, 0x4, 1, fun _ => [TCK_SYNC_STAT_STATE, TCK_SYNC_STAT_MASTER_IDX, TCK_SYNC_STAT_OWN_IDX, TCK_SYNC_STAT_PRESENT, TCK_SYNC_STAT_ELIGIBLE, TCK_SYNC_STAT_PERIOD_DIFF]⟩,
  ⟨0x44, 0x4, 1, fun _ => [TCK_SYNC_ERR_LAST, TCK_SYNC_ERR_PEAK]⟩,
  ⟨0x48, 0x4, 1, fun _ => [TCK_SYNC_CFG_LOSS_TICKS, TCK_SYNC_CFG_PULLIN_US, TCK_SYNC_CFG_ELIG_TICKS]⟩,
  ⟨0x4c, 0x4, 1, fun _ => [TCK_SL_HOPDLY_DELAY]⟩,
  ⟨0x50, 0x4, 1, fun _ => [TCK_SYNC_CNT_LOSS, TCK_SYNC_CNT_MASTER_CHG]⟩,
  ⟨0x60, 0x4, 1, fun _ => [TCK_CROAK_LAT_A, TCK_CROAK_LAT_B, TCK_CROAK_SKEW, TCK_CROAK_SKEW_ERR]⟩]
def rowsTCK : List RegRow := rowsTCK0 ++ rowsTCK1

def rowsCMP0 : List RegRow := [
  ⟨0x0, 0x4, 1, fun _ => [CMP_CTL_EPOCH_SYNC]⟩,
  ⟨0x4, 0x4, 1, fun _ => [CMP_CUTOFF_ROWS]⟩,
  ⟨0x8, 0x4, 1, fun _ => [CMP_MASK_CLASSES]⟩,
  ⟨0xc, 0x4, 1, fun _ => [CMP_COMMIT_ARMED, CMP_COMMIT_LATE, CMP_COMMIT_EPOCH_WAIT, CMP_COMMIT_AT_LO]⟩,
  ⟨0x10, 0x4, 1, fun _ => [CMP_LATE_COUNT_COUNT]⟩,
  ⟨0x14, 0x4, 1, fun _ => [CMP_EPOCH_ACTIVE_EPOCH]⟩,
  ⟨0x18, 0x4, 1, fun _ => [CMP_EPOCH_ARMED_EPOCH]⟩,
  ⟨0x1c, 0x4, 1, fun _ => [CMP_EPOCH_CFG_TIMEOUT_TICKS]⟩,
  ⟨0x20, 0x4, 1, fun _ => [CMP_ERR_COUNT_FETCH, CMP_ERR_COUNT_GTC]⟩,
  ⟨0x24, 0x4, 1, fun _ => [CMP_TIME_LAST_US, CMP_TIME_MAX_US]⟩,
  ⟨0x28, 0x4, 1, fun _ => [CMP_STAT_FRONT]⟩,
  ⟨0x400, 0x20, 32, fun i => [CMP_SURF_ADDR_LO_ADDR i]⟩]
def rowsCMP1 : List RegRow := [
  ⟨0x800, 0x20, 32, fun i => [CMP_SURFSH_ADDR_LO_ADDR i]⟩,
  ⟨0x404, 0x20, 32, fun i => [CMP_SURF_ADDR_HI_ADDR i]⟩,
  ⟨0x804, 0x20, 32, fun i => [CMP_SURFSH_ADDR_HI_ADDR i]⟩,
  ⟨0x408, 0x20, 32, fun i => [CMP_SURF_GEOM_W i, CMP_SURF_GEOM_H i]⟩,
  ⟨0x808, 0x20, 32, fun i => [CMP_SURFSH_GEOM_W i, CMP_SURFSH_GEOM_H i]⟩,
  ⟨0x40c, 0x20, 32, fun i => [CMP_SURF_FMT_FORMAT i, CMP_SURF_FMT_COMP i, CMP_SURF_FMT_LOCAL i, CMP_SURF_FMT_FRAMES i, CMP_SURF_FMT_BOUND i]⟩,
  ⟨0x80c, 0x20, 32, fun i => [CMP_SURFSH_FMT_FORMAT i, CMP_SURFSH_FMT_COMP i, CMP_SURFSH_FMT_LOCAL i, CMP_SURFSH_FMT_FRAMES i, CMP_SURFSH_FMT_BOUND i]⟩,
  ⟨0x410, 0x20, 32, fun i => [CMP_SURF_STRIDE_BYTES i]⟩,
  ⟨0x810, 0x20, 32, fun i => [CMP_SURFSH_STRIDE_BYTES i]⟩,
  ⟨0x414, 0x20, 32, fun i => [CMP_SURF_FRAMEB_BYTES i]⟩,
  ⟨0x814, 0x20, 32, fun i => [CMP_SURFSH_FRAMEB_BYTES i]⟩]
def rowsCMP : List RegRow := rowsCMP0 ++ rowsCMP1

def rowsLYR0 (n : Nat) : List RegRow := [
  ⟨0x0, 0x4, 1, fun _ => [LYR_CTL_EN n, LYR_CTL_OP n, LYR_CTL_PREMUL n, LYR_CTL_LIVE n, LYR_CTL_TAG_OVR n, LYR_CTL_CLASS n, LYR_CTL_ALPHA n, LYR_CTL_STALE n, LYR_CTL_SURF n]⟩,
  ⟨0x40, 0x4, 1, fun _ => [LYRSH_CTL_EN n, LYRSH_CTL_OP n, LYRSH_CTL_PREMUL n, LYRSH_CTL_LIVE n, LYRSH_CTL_TAG_OVR n, LYRSH_CTL_CLASS n, LYRSH_CTL_ALPHA n, LYRSH_CTL_STALE n, LYRSH_CTL_SURF n]⟩,
  ⟨0x4, 0x4, 1, fun _ => [LYR_DST_X n, LYR_DST_Y n]⟩,
  ⟨0x44, 0x4, 1, fun _ => [LYRSH_DST_X n, LYRSH_DST_Y n]⟩,
  ⟨0x8, 0x4, 1, fun _ => [LYR_DSZ_W n, LYR_DSZ_H n]⟩,
  ⟨0x48, 0x4, 1, fun _ => [LYRSH_DSZ_W n, LYRSH_DSZ_H n]⟩,
  ⟨0xc, 0x4, 1, fun _ => [LYR_SRC_X n, LYR_SRC_Y n]⟩,
  ⟨0x4c, 0x4, 1, fun _ => [LYRSH_SRC_X n, LYRSH_SRC_Y n]⟩,
  ⟨0x10, 0x4, 1, fun _ => [LYR_SSZ_W n, LYR_SSZ_H n]⟩,
  ⟨0x50, 0x4, 1, fun _ => [LYRSH_SSZ_W n, LYRSH_SSZ_H n]⟩,
  ⟨0x14, 0x4, 1, fun _ => [LYR_FADE_COUNT n, LYR_FADE_STEP n, LYR_FADE_RUN n]⟩,
  ⟨0x54, 0x4, 1, fun _ => [LYRSH_FADE_COUNT n]⟩]
def rowsLYR1 (n : Nat) : List RegRow := [
  ⟨0x18, 0x4, 1, fun _ => [LYR_SIG_CRC n]⟩,
  ⟨0x1c, 0x4, 1, fun _ => [LYR_STAT_SAME n, LYR_STAT_FROZEN n, LYR_STAT_FETCH_ERR n, LYR_STAT_GTC_ERR n, LYR_STAT_SUPPRESSED n, LYR_STAT_FRAME n]⟩,
  ⟨0x80, 0x4, 16, fun i => [LYR_FTB_STEPS n i]⟩,
  ⟨0xc0, 0x4, 16, fun i => [LYR_FTBSH_STEPS n i]⟩]
def rowsLYR (n : Nat) : List RegRow := rowsLYR0 n ++ rowsLYR1 n

def rowsGKO0 : List RegRow := [
  ⟨0x0, 0x4, 1, fun _ => [GKO_CFG_HORIZON_MS, GKO_CFG_SEAM_ROWS, GKO_CFG_STALE_TICKS, GKO_CFG_LAT_US]⟩,
  ⟨0x400, 0x4, 1, fun _ => [GKO_CFGSH_HORIZON_MS, GKO_CFGSH_SEAM_ROWS, GKO_CFGSH_STALE_TICKS, GKO_CFGSH_LAT_US]⟩,
  ⟨0x100, 0x4, 16, fun i => [GKO_CLS_DEPTH i, GKO_CLS_MARGIN_H i, GKO_CLS_MARGIN_V i, GKO_CLS_GROW i, GKO_CLS_FEATHER i]⟩,
  ⟨0x500, 0x4, 16, fun i => [GKO_CLSSH_DEPTH i, GKO_CLSSH_MARGIN_H i, GKO_CLSSH_MARGIN_V i, GKO_CLSSH_GROW i, GKO_CLSSH_FEATHER i]⟩,
  ⟨0x800, 0x4, 1, fun _ => [GKO_TB_CFG_REJECT_US, GKO_TB_CFG_LOSS_TICKS, GKO_TB_CFG_DEFAULT_AGE_US]⟩,
  ⟨0x804, 0x4, 1, fun _ => [GKO_TB_DLY_UP_NS]⟩,
  ⟨0x808, 0x4, 1, fun _ => [GKO_TB_STAT_STATE, GKO_TB_STAT_ACCEPTED]⟩,
  ⟨0x80c, 0x4, 1, fun _ => [GKO_TB_ERR_LAST_NS, GKO_TB_ERR_REJECTS]⟩,
  ⟨0x810, 0x4, 1, fun _ => [GKO_TB_RATE_RATE_PPB]⟩,
  ⟨0x820, 0x4, 1, fun _ => [GKO_LIST_LIST_ID]⟩,
  ⟨0x824, 0x4, 1, fun _ => [GKO_LIST_STAT_HOST, GKO_LIST_STAT_FW, GKO_LIST_STAT_EXT, GKO_LIST_STAT_TWIN]⟩,
  ⟨0x828, 0x4, 1, fun _ => [GKO_LIST_CNT_TAKEN, GKO_LIST_CNT_SUPERSEDED]⟩]
def rowsGKO1 : List RegRow := [
  ⟨0x82c, 0x4, 1, fun _ => [GKO_OBJ_STAT_STALE_NOW, GKO_OBJ_STAT_STALE, GKO_OBJ_STAT_CLAMPED]⟩,
  ⟨0x830, 0x4, 1, fun _ => [GKO_TIME_LAST_US, GKO_TIME_MAX_US]⟩,
  ⟨0x900, 0x4, 1, fun _ => [GKO_ENV_CTL_LOADED, GKO_ENV_CTL_REL_A, GKO_ENV_CTL_REL_B]⟩,
  ⟨0x904, 0x4, 1, fun _ => [GKO_ENV_CRC_CRC]⟩,
  ⟨0x908, 0x4, 1, fun _ => [GKO_ENV_LAST_CRC]⟩,
  ⟨0x90c, 0x4, 1, fun _ => [GKO_ENV_CLAMP_PIXELS]⟩,
  ⟨0x910, 0x4, 1, fun _ => [GKO_ENV_FLOOR_PIXELS]⟩,
  ⟨0x914, 0x4, 1, fun _ => [GKO_ENV_HBPCUT_PIXELS]⟩]
def rowsGKO : List RegRow := rowsGKO0 ++ rowsGKO1

def rowsNWT0 (e : Nat) : List RegRow := [
  ⟨0x0, 0x4, 1, fun _ => [NWT_CTL_ROLE e, NWT_CTL_HOLD_TICKS e]⟩,
  ⟨0x4, 0x4, 1, fun _ => [NWT_STAT_STATE e, NWT_STAT_LAST_KIND e]⟩,
  ⟨0x8, 0x4, 1, fun _ => [NWT_IMG_IMG_ID e]⟩,
  ⟨0xc, 0x4, 1, fun _ => [NWT_BUDGET_CYCLES e]⟩,
  ⟨0x10, 0x4, 1, fun _ => [NWT_CYC_LAST e]⟩,
  ⟨0x14, 0x4, 1, fun _ => [NWT_CYCMAX_MAX e]⟩,
  ⟨0x18, 0x4, 1, fun _ => [NWT_DEFER_DEFERRED e, NWT_DEFER_PREEMPT e]⟩,
  ⟨0x1c, 0x4, 1, fun _ => [NWT_ECC_CORRECTED e, NWT_ECC_UNCORR e]⟩,
  ⟨0x20, 0x4, 1, fun _ => [NWT_MISS_TICK_MISS e]⟩,
  ⟨0x24, 0x4, 1, fun _ => [NWT_GRANT_ITEMS e]⟩]
def rowsNWT (e : Nat) : List RegRow := rowsNWT0 e

def rowsSCN0 : List RegRow := [
  ⟨0x0, 0x4, 1, fun _ => [SCN_CTL_LOWCUT, SCN_CTL_RMIN, SCN_CTL_SEED, SCN_CTL_SOURCE, SCN_CTL_SEED_PEND]⟩,
  ⟨0x4, 0x4, 1, fun _ => [SCN_PRECHG_CYC, SCN_PRECHG_MODE, SCN_PRECHG_LEVEL]⟩,
  ⟨0x8, 0x4, 1, fun _ => [SCN_ROWTIMING_WRITE_CYC]⟩,
  ⟨0x10, 0x4, 2, fun i => [SCN_BUS_LANES i, SCN_BUS_UP i, SCN_BUS_UTIL_PCT i]⟩,
  ⟨0x18, 0x4, 2, fun i => [SCN_BUSCNT_CRC_ERR i, SCN_BUSCNT_RETRAIN i]⟩,
  ⟨0x20, 0x4, 2, fun i => [SCN_ROWCNT_REPEATED i, SCN_ROWCNT_BLANKED i]⟩,
  ⟨0x28, 0x4, 1, fun _ => [SCN_CROAK_CNT_LOST_A, SCN_CROAK_CNT_LOST_B]⟩,
  ⟨0x30, 0x4, 1, fun _ => [SCN_RB_CFG_LIMIT]⟩,
  ⟨0x34, 0x4, 1, fun _ => [SCN_RB_STAT_RGN_A, SCN_RB_STAT_RGN_B, SCN_RB_STAT_MISM_A, SCN_RB_STAT_MISM_B, SCN_RB_STAT_FROZ_A, SCN_RB_STAT_FROZ_B, SCN_RB_STAT_MISS_A, SCN_RB_STAT_MISS_B]⟩,
  ⟨0x38, 0x4, 1, fun _ => [SCN_RB_EXP_A_CRC]⟩,
  ⟨0x3c, 0x4, 1, fun _ => [SCN_RB_GOT_A_CRC]⟩,
  ⟨0x40, 0x4, 1, fun _ => [SCN_RB_EXP_B_CRC]⟩]
def rowsSCN1 : List RegRow := [
  ⟨0x44, 0x4, 1, fun _ => [SCN_RB_GOT_B_CRC]⟩,
  ⟨0x48, 0x4, 1, fun _ => [SCN_RB_CNT_MISMATCH, SCN_RB_CNT_FROZEN]⟩,
  ⟨0x60, 0x4, 4, fun i => [SCN_RANGE_PIXELS i]⟩,
  ⟨0x70, 0x4, 1, fun _ => [SCN_LOWCUT_CNT_PIXELS]⟩,
  ⟨0x74, 0x4, 1, fun _ => [SCN_SP15_CORR]⟩]
def rowsSCN : List RegRow := rowsSCN0 ++ rowsSCN1

def rowsPXD0 (n : Nat) : List RegRow := [
  ⟨0x0, 0x4, 1, fun _ => [PXD_NOM_LEVEL n]⟩,
  ⟨0x4, 0x4, 1, fun _ => [PXD_LIMIT_LEVEL_MAX n]⟩,
  ⟨0x8, 0x4, 1, fun _ => [PXD_SKNOM_LEVEL n]⟩,
  ⟨0xc, 0x4, 1, fun _ => [PXD_CONCEAL_EN n, PXD_CONCEAL_GAIN n]⟩,
  ⟨0x10, 0x4, 1, fun _ => [PXD_IREF_TRIM_EIGHTH n, PXD_IREF_TRIM_QUARTER n, PXD_IREF_TRIM_HALF n, PXD_IREF_TRIM_FULL n]⟩,
  ⟨0x14, 0x4, 1, fun _ => [PXD_IREF_MEAS_DEV n]⟩,
  ⟨0x18, 0x4, 1, fun _ => [PXD_IREF_CFG_LIMIT n]⟩,
  ⟨0x20, 0x4, 1, fun _ => [PXD_STAT_DEAD n, PXD_STAT_DEG_TILES n, PXD_STAT_PEND n]⟩,
  ⟨0x24, 0x4, 1, fun _ => [PXD_FLAGS_OPEN n, PXD_FLAGS_SHORT n, PXD_FLAGS_NSHORT n, PXD_FLAGS_COLSHORT n, PXD_FLAGS_DEGRADED n, PXD_FLAGS_WORN n, PXD_FLAGS_IREF n, PXD_FLAGS_CLIP n, PXD_FLAGS_PEND_FULL n]⟩,
  ⟨0x28, 0x4, 1, fun _ => [PXD_CNT_CONFIRMED n, PXD_CNT_CLEARED n]⟩,
  ⟨0x2c, 0x4, 1, fun _ => [PXD_CLIP_PIXELS n]⟩,
  ⟨0x30, 0x4, 1, fun _ => [PXD_VF_MEDIAN_MV n, PXD_VF_SPREAD_MV n]⟩]
def rowsPXD (n : Nat) : List RegRow := rowsPXD0 n

def rowsAXL0 : List RegRow := [
  ⟨0x0, 0x4, 1, fun _ => [AXL_CTL_SWEEP_EN, AXL_CTL_COLTEST_EN, AXL_CTL_NEIGH_EN]⟩,
  ⟨0x4, 0x4, 1, fun _ => [AXL_CFG_ISENSE, AXL_CFG_VOPEN, AXL_CFG_VSHORT, AXL_CFG_CONFIRM]⟩,
  ⟨0x8, 0x4, 1, fun _ => [AXL_CFG2_VDEV, AXL_CFG2_VNS, AXL_CFG2_STALL_TICKS]⟩,
  ⟨0x10, 0x4, 1, fun _ => [AXL_SWEEP_GROUP, AXL_SWEEP_BUF, AXL_SWEEP_SWEEPS]⟩,
  ⟨0x14, 0x4, 1, fun _ => [AXL_SKIP_SWEEP, AXL_SKIP_NEIGH]⟩,
  ⟨0x18, 0x4, 1, fun _ => [AXL_NEIGH_ROW, AXL_NEIGH_SWEEPS]⟩,
  ⟨0x20, 0x4, 2, fun i => [AXL_DIE_MEDIAN_MV i, AXL_DIE_SPREAD_MV i]⟩,
  ⟨0x28, 0x4, 1, fun _ => [AXL_TIME_LAST_US, AXL_TIME_WINDOW_US]⟩,
  ⟨0x30, 0x4, 1, fun _ => [AXL_HADDR_PIXEL, AXL_HADDR_AUTOINC]⟩,
  ⟨0x34, 0x4, 1, fun _ => [AXL_HDATA_WORD]⟩,
  ⟨0x38, 0x4, 1, fun _ => [AXL_HPORT_QUEUED, AXL_HPORT_ERR]⟩,
  ⟨0x40, 0x4, 1, fun _ => [AXL_SAVE_GO, AXL_SAVE_BUSY, AXL_SAVE_ERR, AXL_SAVE_COPY, AXL_SAVE_SEQ]⟩]
def rowsAXL1 : List RegRow := [
  ⟨0x44, 0x4, 1, fun _ => [AXL_DEAD_TOTAL]⟩,
  ⟨0x48, 0x4, 1, fun _ => [AXL_TILES_DEGRADED]⟩,
  ⟨0x4c, 0x4, 1, fun _ => [AXL_ECC_CORRECTED, AXL_ECC_UNCORR]⟩]
def rowsAXL : List RegRow := rowsAXL0 ++ rowsAXL1

def rowsSAL0 : List RegRow := [
  ⟨0x0, 0x4, 1, fun _ => [SAL_CFG_GUARD, SAL_CFG_TOL_PCT]⟩,
  ⟨0x4, 0x4, 1, fun _ => [SAL_RULE_LIM_TILE_PCT, SAL_RULE_LIM_RGN_PCT, SAL_RULE_LIM_DIE_PCT, SAL_RULE_LIM_PKG_PCT]⟩,
  ⟨0x8, 0x4, 1, fun _ => [SAL_RULE_CFG_ALLOW, SAL_RULE_CFG_T_START, SAL_RULE_CFG_T_END, SAL_RULE_CFG_F_END]⟩,
  ⟨0xc, 0x4, 1, fun _ => [SAL_RULE_TEMP_T_CUT, SAL_RULE_TEMP_SINK_START, SAL_RULE_TEMP_SINK_END]⟩,
  ⟨0x10, 0x4, 1, fun _ => [SAL_FW_LIM_TILE_PCT, SAL_FW_LIM_RGN_PCT, SAL_FW_LIM_DIE_PCT, SAL_FW_LIM_PKG_PCT]⟩,
  ⟨0x14, 0x4, 1, fun _ => [SAL_STAT_EMERG_A, SAL_STAT_EMERG_B, SAL_STAT_EMERG_PKG, SAL_STAT_REPEAT_OVER, SAL_STAT_CLASS_RED, SAL_STAT_RESOLVE]⟩,
  ⟨0x18, 0x4, 2, fun i => [SAL_VLED_MIN_MV i, SAL_VLED_MAX_MV i]⟩,
  ⟨0x20, 0x4, 1, fun _ => [SAL_SUPPLY_SF_A, SAL_SUPPLY_SF_B]⟩,
  ⟨0x24, 0x4, 1, fun _ => [SAL_DRV_PRED_MW, SAL_DRV_LIMIT_MW]⟩,
  ⟨0x28, 0x4, 1, fun _ => [SAL_DRV_CFG_BASE_MW, SAL_DRV_CFG_E_PJ]⟩,
  ⟨0x2c, 0x4, 1, fun _ => [SAL_BASK_COST_SWEEP_MW, SAL_BASK_COST_NEIGH_MW]⟩,
  ⟨0x30, 0x4, 1, fun _ => [SAL_GRANT_CFG_FORCE]⟩]
def rowsSAL1 : List RegRow := [
  ⟨0x34, 0x4, 1, fun _ => [SAL_GRANT_SWEEP, SAL_GRANT_NEIGH, SAL_GRANT_SLICE, SAL_GRANT_SYM, SAL_GRANT_FORCED]⟩,
  ⟨0x38, 0x4, 1, fun _ => [SAL_GRANT_CNT_SYM_WH, SAL_GRANT_CNT_SLICE_WH]⟩,
  ⟨0x3c, 0x4, 1, fun _ => [SAL_ERR_CNT_PREDICT_MISS, SAL_ERR_CNT_REPEAT_OVER]⟩,
  ⟨0x44, 0x4, 1, fun _ => [SALSH_RULE_LIM_TILE_PCT, SALSH_RULE_LIM_RGN_PCT, SALSH_RULE_LIM_DIE_PCT, SALSH_RULE_LIM_PKG_PCT]⟩,
  ⟨0x48, 0x4, 1, fun _ => [SALSH_RULE_CFG_ALLOW, SALSH_RULE_CFG_T_START, SALSH_RULE_CFG_T_END, SALSH_RULE_CFG_F_END]⟩,
  ⟨0x4c, 0x4, 1, fun _ => [SALSH_RULE_TEMP_T_CUT, SALSH_RULE_TEMP_SINK_START, SALSH_RULE_TEMP_SINK_END]⟩,
  ⟨0x80, 0x20, 2, fun i => [SAL_DIE_PWR_PRED i, SAL_DIE_PWR_RAW i]⟩,
  ⟨0x84, 0x20, 2, fun i => [SAL_DIE_LIM_LC i, SAL_DIE_LIM_LA i]⟩,
  ⟨0x88, 0x20, 2, fun i => [SAL_DIE_BKT_SPENT i]⟩,
  ⟨0x8c, 0x20, 2, fun i => [SAL_DIE_F01_F0 i, SAL_DIE_F01_F1 i]⟩,
  ⟨0x90, 0x20, 2, fun i => [SAL_DIE_F23_F2 i, SAL_DIE_F23_F3 i]⟩,
  ⟨0x94, 0x20, 2, fun i => [SAL_DIE_MEAS_MEAS i, SAL_DIE_MEAS_FFLOOR i]⟩]
def rowsSAL2 : List RegRow := [
  ⟨0xc0, 0x4, 1, fun _ => [SAL_PKG_PWR_PRED, SAL_PKG_PWR_RAW]⟩,
  ⟨0xc4, 0x4, 1, fun _ => [SAL_PKG_LIM_LC, SAL_PKG_LIM_LA]⟩,
  ⟨0xc8, 0x4, 1, fun _ => [SAL_PKG_BKT_SPENT]⟩,
  ⟨0xcc, 0x4, 1, fun _ => [SAL_PKG_F01_F0, SAL_PKG_F01_F1]⟩,
  ⟨0xd0, 0x4, 1, fun _ => [SAL_PKG_F23_F2, SAL_PKG_F23_F3]⟩,
  ⟨0xd4, 0x4, 1, fun _ => [SAL_PKG_MEAS_MEAS, SAL_PKG_MEAS_FFLOOR]⟩,
  ⟨0x400, 0x20, 64, fun i => [SAL_RGN_PWR_PRED i, SAL_RGN_PWR_MEAS i]⟩,
  ⟨0x404, 0x20, 64, fun i => [SAL_RGN_LIM_LA i, SAL_RGN_LIM_TF i, SAL_RGN_LIM_FROZEN i]⟩,
  ⟨0x408, 0x20, 64, fun i => [SAL_RGN_F01_F0 i, SAL_RGN_F01_F1 i]⟩,
  ⟨0x40c, 0x20, 64, fun i => [SAL_RGN_F23_F2 i, SAL_RGN_F23_F3 i]⟩,
  ⟨0x410, 0x20, 64, fun i => [SAL_RGN_BKT_SPENT i]⟩,
  ⟨0x414, 0x20, 64, fun i => [SAL_RGN_FW_DER i]⟩]
def rowsSAL3 : List RegRow := [
  ⟨0x1000, 0x4, 1, fun _ => [THM_CFG_NDIFF, THM_CFG_RATE, THM_CFG_READMIT]⟩,
  ⟨0x1004, 0x4, 1, fun _ => [THM_NTC_CFG_ROLE, THM_NTC_CFG_GROUP]⟩,
  ⟨0x1008, 0x4, 1, fun _ => [THM_SUMMARY_SINK_T, THM_SUMMARY_DRV_T]⟩,
  ⟨0x100c, 0x4, 1, fun _ => [THM_FACT_SINK_F, THM_FACT_SINK_FRZ, THM_FACT_DRV_F, THM_FACT_DRV_FRZ]⟩,
  ⟨0x1010, 0x4, 1, fun _ => [THM_CNT_IMPL, THM_CNT_FREEZE]⟩,
  ⟨0x1014, 0x4, 1, fun _ => [THM_COMP_OSC_T, THM_COMP_LIMITED]⟩,
  ⟨0x1040, 0x4, 40, fun i => [THM_T_TEMP i, THM_T_SUBST i, THM_T_IMPL i, THM_T_FROZEN i, THM_T_GOVERN i]⟩,
  ⟨0x1100, 0x4, 40, fun i => [THM_RAW_RAW i]⟩]
def rowsSAL : List RegRow := rowsSAL0 ++ rowsSAL1 ++ rowsSAL2 ++ rowsSAL3

def rowsCAL0 : List RegRow := [
  ⟨0x0, 0x4, 1, fun _ => [CAL_CTL_L1_RECAL]⟩,
  ⟨0x4, 0x4, 1, fun _ => [CAL_STAT_PUC_DONE, CAL_STAT_PUC_WARM, CAL_STAT_PUC_SKIP_A, CAL_STAT_PUC_SKIP_B, CAL_STAT_FACT_OK, CAL_STAT_FACT_MINOR, CAL_STAT_VSEL, CAL_STAT_GSEL, CAL_STAT_USER_VALID, CAL_STAT_USER_DIRTY, CAL_STAT_STAGED]⟩,
  ⟨0x8, 0x4, 1, fun _ => [CAL_PUC_TIME_TOTAL, CAL_PUC_TIME_PIXBUS_TRIES]⟩,
  ⟨0x10, 0x4, 1, fun _ => [CAL_USER_STAT_BUSY, CAL_USER_STAT_PHASE, CAL_USER_STAT_TILEROW, CAL_USER_STAT_MIXED, CAL_USER_STAT_ERR]⟩,
  ⟨0x14, 0x4, 1, fun _ => [CAL_USER_SEQ_TRIM, CAL_USER_SEQ_MAP]⟩,
  ⟨0x20, 0x4, 4, fun i => [CAL_USER_CRC_CRC i]⟩,
  ⟨0x40, 0x4, 1, fun _ => [CAL_AIM_AIM_H, CAL_AIM_AIM_V]⟩,
  ⟨0x50, 0x4, 3, fun i => [CAL_SERIAL_CHARS i]⟩,
  ⟨0x60, 0x8, 7, fun i => [CAL_LANE_OFS_OFS_DATA i, CAL_LANE_OFS_OFS_ERR i, CAL_LANE_OFS_ENDSTOP i, CAL_LANE_OFS_RECALS i, CAL_LANE_OFS_ABANDONED i]⟩,
  ⟨0x64, 0x8, 7, fun i => [CAL_LANE_TAP_TAP i]⟩,
  ⟨0x100, 0x4, 64, fun i => [CAL_IREF_XC_BG i, CAL_IREF_XC_NB i, CAL_IREF_XC_FAIL i]⟩,
  ⟨0x1000, 0x4, 1024, fun i => [CAL_DACOFS_COLS i]⟩]
def rowsCAL : List RegRow := rowsCAL0

def rowsRNG0 : List RegRow := [
  ⟨0x0, 0x4, 1, fun _ => [RNG_CTL_EN, RNG_CTL_HINT_EN]⟩,
  ⟨0x4, 0x4, 1, fun _ => [RNG_CFG_TAGS, RNG_CFG_RD_TIMEOUT_US, RNG_CFG_CPL_STALL_TICKS]⟩,
  ⟨0x8, 0x4, 1, fun _ => [RNG_DB_LO_ADDR]⟩,
  ⟨0xc, 0x4, 1, fun _ => [RNG_DB_HI_ADDR]⟩,
  ⟨0x10, 0x4, 1, fun _ => [RNG_WB_LO_ADDR]⟩,
  ⟨0x14, 0x4, 1, fun _ => [RNG_WB_HI_ADDR]⟩,
  ⟨0x18, 0x4, 1, fun _ => [RNG_STAT_INFLIGHT, RNG_STAT_TAGS_USED, RNG_STAT_CFG_ERR, RNG_STAT_HALTED]⟩,
  ⟨0x1c, 0x4, 1, fun _ => [RNG_CNT_HINT_MASK, RNG_CNT_POLL_FAIL, RNG_CNT_HINTS]⟩,
  ⟨0x20, 0x4, 1, fun _ => [RNG_EVT_BASE_LO_ADDR]⟩,
  ⟨0x24, 0x4, 1, fun _ => [RNG_EVT_BASE_HI_ADDR]⟩,
  ⟨0x28, 0x4, 1, fun _ => [RNG_EVT_CFG_SIZE_LOG2, RNG_EVT_CFG_EN]⟩,
  ⟨0x2c, 0x4, 1, fun _ => [RNG_EVT_PROD_INDEX]⟩]
def rowsRNG1 : List RegRow := [
  ⟨0x30, 0x4, 1, fun _ => [RNG_EVT_LOST_LOST, RNG_EVT_LOST_FULL]⟩,
  ⟨0x100, 0x20, 8, fun i => [RNG_CMD_BASE_LO_ADDR i]⟩,
  ⟨0x104, 0x20, 8, fun i => [RNG_CMD_BASE_HI_ADDR i]⟩,
  ⟨0x108, 0x20, 8, fun i => [RNG_CPL_BASE_LO_ADDR i]⟩,
  ⟨0x10c, 0x20, 8, fun i => [RNG_CPL_BASE_HI_ADDR i]⟩,
  ⟨0x110, 0x20, 8, fun i => [RNG_CMD_CFG_SIZE_LOG2 i, RNG_CMD_CFG_CPL_SIZE_LOG2 i, RNG_CMD_CFG_PRIO i, RNG_CMD_CFG_EN i]⟩,
  ⟨0x114, 0x20, 8, fun i => [RNG_CMD_CONS_INDEX i]⟩,
  ⟨0x118, 0x20, 8, fun i => [RNG_CMD_STAT_HALTED i, RNG_CMD_STAT_DRAINING i, RNG_CMD_STAT_CPL_FULL i, RNG_CMD_STAT_HELD i, RNG_CMD_STAT_HALT_WHY i, RNG_CMD_STAT_INFLIGHT i]⟩,
  ⟨0x11c, 0x20, 8, fun i => [RNG_CMD_CNT_DONE i, RNG_CMD_CNT_NOT_OK i]⟩]
def rowsRNG : List RegRow := rowsRNG0 ++ rowsRNG1

def rowsLNK0 : List RegRow := [
  ⟨0x0, 0x4, 1, fun _ => [LNK_CTL_EN, LNK_CTL_MAX_RATE, LNK_CTL_MAX_WIDTH, LNK_CTL_RETRAIN, LNK_CTL_L2_ALLOW]⟩,
  ⟨0x4, 0x4, 1, fun _ => [LNK_TRAIN_CFG_BACKOFF_MS, LNK_TRAIN_CFG_HOSTLOSS_MS]⟩,
  ⟨0x8, 0x4, 1, fun _ => [LNK_STAT_STATE, LNK_STAT_RATE, LNK_STAT_DL_ACTIVE, LNK_STAT_DL_ABSENT, LNK_STAT_UL_ACTIVE, LNK_STAT_UL_ABSENT, LNK_STAT_ATTEMPT, LNK_STAT_RATE_CAPPED, LNK_STAT_DOWN, LNK_STAT_UL_L1, LNK_STAT_DL_L1]⟩,
  ⟨0xc, 0x4, 1, fun _ => [LNK_CNT_TRAINS, LNK_CNT_RECOVERIES]⟩,
  ⟨0x10, 0x4, 1, fun _ => [LNK_ERR_CRC_ERR, LNK_ERR_REPLAYS]⟩,
  ⟨0x14, 0x4, 1, fun _ => [LNK_PROTO_MALFORMED, LNK_PROTO_REFUSED]⟩,
  ⟨0x18, 0x4, 1, fun _ => [LNK_PM_L1_IDLE_US, LNK_PM_L2_EXIT_US]⟩,
  ⟨0x1c, 0x4, 1, fun _ => [LNK_TM_LEAD_NS, LNK_TM_HOST_ADJ_NS]⟩,
  ⟨0x20, 0x4, 1, fun _ => [LNK_ECHO_RTT_NS, LNK_ECHO_TURN_NS]⟩,
  ⟨0x24, 0x4, 1, fun _ => [LNK_TAGS_OUTSTANDING, LNK_TAGS_QUARANTINED, LNK_TAGS_LATE]⟩,
  ⟨0x28, 0x4, 1, fun _ => [LNK_CREDIT_P_HDR, LNK_CREDIT_NP_HDR, LNK_CREDIT_P_DATA]⟩,
  ⟨0x2c, 0x4, 1, fun _ => [LNK_LANECNT_LOS, LNK_LANECNT_LOL]⟩]
def rowsLNK1 : List RegRow := [
  ⟨0x30, 0x4, 4, fun i => [LNK_DL_LOS i, LNK_DL_LOCK i, LNK_DL_INVERTED i, LNK_DL_ABSENT i, LNK_DL_DESKEW_UI i, LNK_DL_EYE_MV i, LNK_DL_CTLE i]⟩,
  ⟨0x40, 0x4, 2, fun i => [LNK_UL_SWING i, LNK_UL_DEEMPH i, LNK_UL_ABSENT i]⟩,
  ⟨0x50, 0x4, 4, fun i => [LNK_DFE_TAP i]⟩,
  ⟨0x60, 0x4, 1, fun _ => [LNK_SL_CTL_EN, LNK_SL_CTL_HOPADJ_CYC, LNK_SL_CTL_HOP_DEF]⟩,
  ⟨0x64, 0x4, 1, fun _ => [LNK_SL_STAT_LOS, LNK_SL_STAT_LOCK, LNK_SL_STAT_TRAINED, LNK_SL_STAT_RING_N, LNK_SL_STAT_RING_CYC]⟩,
  ⟨0x68, 0x4, 1, fun _ => [LNK_SL_CNT_CRC_ERR, LNK_SL_CNT_REL_LATE]⟩]
def rowsLNK : List RegRow := rowsLNK0 ++ rowsLNK1

def rowsCAN0 : List RegRow := [
  ⟨0x0, 0x4, 1, fun _ => [CAN_CTL_MODE, CAN_CTL_AUTO_RECOVER, CAN_CTL_TDC_EN]⟩,
  ⟨0x4, 0x4, 1, fun _ => [CAN_NBT_NBRP, CAN_NBT_NTSEG1, CAN_NBT_NTSEG2, CAN_NBT_NSJW]⟩,
  ⟨0x8, 0x4, 1, fun _ => [CAN_DBT_DBRP, CAN_DBT_DTSEG1, CAN_DBT_DTSEG2, CAN_DBT_DSJW, CAN_DBT_TDCO]⟩,
  ⟨0xc, 0x4, 3, fun i => [CAN_ID_ID i, CAN_ID_IDE i]⟩,
  ⟨0x18, 0x4, 1, fun _ => [CAN_STAT_CFG_PERIOD_TICKS]⟩,
  ⟨0x20, 0x4, 1, fun _ => [CAN_STAT_STATE, CAN_STAT_TEC, CAN_STAT_REC, CAN_STAT_TDCV]⟩,
  ⟨0x24, 0x4, 1, fun _ => [CAN_RXCNT_COPIES, CAN_RXCNT_FORMAT]⟩,
  ⟨0x28, 0x4, 1, fun _ => [CAN_ERRCNT_BUS_OFF, CAN_ERRCNT_OVERRUN, CAN_ERRCNT_ASM_DISCARD, CAN_ERRCNT_IGNORED]⟩,
  ⟨0x2c, 0x4, 1, fun _ => [CAN_LAST_SEQ, CAN_LAST_COUNTER]⟩]
def rowsCAN : List RegRow := rowsCAN0

def rowsSFT0 : List RegRow := [
  ⟨0x0, 0x4, 1, fun _ => [SFT_MODE_MODE, SFT_MODE_LIMP, SFT_MODE_SK_HEALTHY]⟩,
  ⟨0x4, 0x4, 1, fun _ => [SFT_LOCK_CAUSE_REC]⟩,
  ⟨0x8, 0x4, 1, fun _ => [SFT_LOCK_STAT_READ_OK, SFT_LOCK_STAT_LAST_REFUSE, SFT_LOCK_STAT_REFUSALS]⟩,
  ⟨0xc, 0x4, 1, fun _ => [SFT_FEAT_FEAT_OFF]⟩,
  ⟨0x10, 0x4, 1, fun _ => [SFT_INPUTS_PINS, SFT_INPUTS_HBP, SFT_INPUTS_LBF, SFT_INPUTS_HBP_LATCH, SFT_INPUTS_LBF_LATCH, SFT_INPUTS_PERMIT]⟩,
  ⟨0x14, 0x4, 1, fun _ => [SFT_DISC_CFG_T_MS]⟩,
  ⟨0x18, 0x4, 1, fun _ => [SFT_TWIN_CFG_EN, SFT_TWIN_CFG_WINDOW, SFT_TWIN_CFG_PERSIST, SFT_TWIN_CFG_STALE]⟩,
  ⟨0x1c, 0x4, 1, fun _ => [SFT_TWIN_STAT_STATE, SFT_TWIN_STAT_LINK_STALE, SFT_TWIN_STAT_CAN_STALE, SFT_TWIN_STAT_PERMIT, SFT_TWIN_STAT_MISM_CNT]⟩,
  ⟨0x20, 0x4, 1, fun _ => [SFT_TWIN_SEQ_LINK_SEQ, SFT_TWIN_SEQ_CAN_SEQ]⟩,
  ⟨0x24, 0x4, 1, fun _ => [SFT_TWIN_CNT_MISMATCH, SFT_TWIN_CNT_MISSING]⟩,
  ⟨0x28, 0x4, 1, fun _ => [SFT_FP_FP]⟩,
  ⟨0x2c, 0x4, 1, fun _ => [SFT_COMM_EPOCH_EPOCH]⟩]
def rowsSFT1 : List RegRow := [
  ⟨0x30, 0x4, 1, fun _ => [SFT_FP_STAT_PEER_MISM]⟩,
  ⟨0x40, 0x4, 1, fun _ => [SFT_SK_STAT_VALID, SFT_SK_STAT_REASON, SFT_SK_STAT_SRAM_ERR, SFT_SK_STAT_SCALE]⟩,
  ⟨0x44, 0x4, 1, fun _ => [SFT_SK_ID_ID]⟩,
  ⟨0x48, 0x4, 1, fun _ => [SFT_SK_CFG_BLANK_MAX]⟩,
  ⟨0x4c, 0x4, 1, fun _ => [SFT_SK_HEALTH_FAIL]⟩,
  ⟨0x50, 0x4, 1, fun _ => [SFT_HOSTWAIT_MS]⟩,
  ⟨0x60, 0x4, 1, fun _ => [SFT_SESS_CTL_OPEN, SFT_SESS_CTL_CLOSE, SFT_SESS_CTL_PILOT, SFT_SESS_CTL_SET_PW, SFT_SESS_CTL_PWLEN]⟩,
  ⟨0x64, 0x4, 1, fun _ => [SFT_SESS_STAT_ACTIVE, SFT_SESS_STAT_PILOT, SFT_SESS_STAT_PW_SET, SFT_SESS_STAT_LOCKED, SFT_SESS_STAT_FAILS, SFT_SESS_STAT_LOCK_MIN]⟩,
  ⟨0x68, 0x4, 1, fun _ => [SFT_SESS_OP_OPERATOR]⟩,
  ⟨0x6c, 0x4, 1, fun _ => [SFT_SESS_EPOCH_EPOCH]⟩,
  ⟨0x70, 0x4, 8, fun i => [SFT_PW_BYTES i]⟩,
  ⟨0x90, 0x4, 1, fun _ => [SFT_PILOT_CRC_CRC]⟩]
def rowsSFT2 : List RegRow := [
  ⟨0x94, 0x4, 1, fun _ => [SFT_PILOT_STAT_WAITING, SFT_PILOT_STAT_OPCODE]⟩]
def rowsSFT : List RegRow := rowsSFT0 ++ rowsSFT1 ++ rowsSFT2

def rowsLCS0 : List RegRow := [
  ⟨0x0, 0x4, 1, fun _ => [LCS_ID_STEPPING, LCS_ID_PART]⟩,
  ⟨0x4, 0x4, 1, fun _ => [LCS_STATE_STATE, LCS_STATE_PENDING, LCS_STATE_PILOT_COMPAT, LCS_STATE_ADV_ERR]⟩,
  ⟨0x8, 0x4, 1, fun _ => [LCS_ADVANCE_TARGET, LCS_ADVANCE_KEY]⟩,
  ⟨0x10, 0x4, 1, fun _ => [LCS_CHALLENGE_LO_CHAL]⟩,
  ⟨0x14, 0x4, 1, fun _ => [LCS_CHALLENGE_HI_CHAL]⟩,
  ⟨0x40, 0x4, 16, fun i => [LCS_TOKEN_BYTES i]⟩,
  ⟨0x80, 0x4, 1, fun _ => [LCS_RETURN_GO]⟩,
  ⟨0x100, 0x4, 1, fun _ => [LCS_RESET_CAUSE, LCS_RESET_WARM, LCS_RESET_EARLY]⟩,
  ⟨0x104, 0x4, 1, fun _ => [LCS_BOOT_IMAGE, LCS_BOOT_IMG0_BAD, LCS_BOOT_IMG1_BAD, LCS_BOOT_SETUP_OK, LCS_BOOT_ENV_OK, LCS_BOOT_ENDED, LCS_BOOT_CAPABLE, LCS_BOOT_FIRST_LIGHT, LCS_BOOT_HW_RUN, LCS_BOOT_HW_EXP]⟩,
  ⟨0x108, 0x4, 1, fun _ => [LCS_BOOT_TIME_CAP_MS, LCS_BOOT_TIME_LIGHT_MS]⟩,
  ⟨0x10c, 0x4, 1, fun _ => [LCS_IMAGE_SEQ]⟩]
def rowsLCS : List RegRow := rowsLCS0

def rowsFLT0 : List RegRow := [
  ⟨0x0, 0x4, 1, fun _ => [FLT_CTL_GRACE_TICKS]⟩,
  ⟨0x4, 0x4, 1, fun _ => [FLT_STAT_MAXSEV, FLT_STAT_ACK_FULL, FLT_STAT_SELF, FLT_STAT_SEV_REFUSED, FLT_STAT_UNACKED]⟩,
  ⟨0x8, 0x4, 1, fun _ => [FLT_ACK_RECORD]⟩,
  ⟨0xc, 0x4, 1, fun _ => [FLT_ACK_CTL_ALL_S2, FLT_ACK_CTL_ALL_INJ, FLT_ACK_CTL_ERR]⟩,
  ⟨0x10, 0x4, 1, fun _ => [FLT_LAST_RECORD]⟩,
  ⟨0x14, 0x4, 1, fun _ => [FLT_LAST_LO_MSG]⟩,
  ⟨0x18, 0x4, 1, fun _ => [FLT_LAST_HI_MSG]⟩,
  ⟨0x1c, 0x4, 1, fun _ => [FLT_DROP_DROPPED, FLT_DROP_ESCALATED]⟩,
  ⟨0x20, 0x4, 1, fun _ => [FLT_SAT_ADDR, FLT_SAT_FLAG]⟩,
  ⟨0x30, 0x4, 1, fun _ => [FLT_INJ_SRC_SOURCE, FLT_INJ_SRC_KIND, FLT_INJ_SRC_REACT]⟩,
  ⟨0x34, 0x4, 1, fun _ => [FLT_INJ_ADDR_ADDR]⟩,
  ⟨0x38, 0x4, 1, fun _ => [FLT_INJ_GO_GO]⟩]
def rowsFLT1 : List RegRow := [
  ⟨0x3c, 0x4, 1, fun _ => [FLT_INJ_CNT_INJECTED]⟩,
  ⟨0x200, 0x8, 64, fun i => [FLT_UNACK_REC_RECORD i]⟩,
  ⟨0x204, 0x8, 64, fun i => [FLT_UNACK_STAT_SEV i, FLT_UNACK_STAT_INJECTED i, FLT_UNACK_STAT_VALID i, FLT_UNACK_STAT_GRACE i]⟩,
  ⟨0x2000, 0x4, 256, fun i => [FLT_CNT_B0 i, FLT_CNT_B1 i, FLT_CNT_B2 i, FLT_CNT_B3 i]⟩]
def rowsFLT : List RegRow := rowsFLT0 ++ rowsFLT1

def rowsREC0 : List RegRow := [
  ⟨0x0, 0x4, 1, fun _ => [REC_CTL_MODE]⟩,
  ⟨0x4, 0x4, 1, fun _ => [REC_STAT_FROZEN, REC_STAT_FLUSHING, REC_STAT_FREEZE_TO, REC_STAT_BUFFERED, REC_STAT_HELD]⟩,
  ⟨0x8, 0x4, 1, fun _ => [REC_NEXT_NUMBER]⟩,
  ⟨0xc, 0x4, 1, fun _ => [REC_OLDEST_NUMBER]⟩,
  ⟨0x10, 0x4, 1, fun _ => [REC_CNT_DROPPED, REC_CNT_HOLD_OVF]⟩,
  ⟨0x14, 0x4, 1, fun _ => [REC_TORN_TORN, REC_TORN_PROG_FAIL]⟩,
  ⟨0x18, 0x4, 1, fun _ => [REC_PF_PF_MV, REC_PF_LAST_FLUSH]⟩,
  ⟨0x1c, 0x4, 1, fun _ => [REC_MINUTES_MINUTES]⟩,
  ⟨0x20, 0x4, 1, fun _ => [REC_CYCLES_CYCLES]⟩,
  ⟨0x24, 0x4, 1, fun _ => [REC_KEEP_USED]⟩]
def rowsREC : List RegRow := rowsREC0

def rowsBST0 : List RegRow := [
  ⟨0x0, 0x4, 1, fun _ => [BST_CTL_ABORT]⟩,
  ⟨0x4, 0x4, 1, fun _ => [BST_START_TEST, BST_START_GO]⟩,
  ⟨0x8, 0x4, 1, fun _ => [BST_RGN_LO_REGIONS]⟩,
  ⟨0xc, 0x4, 1, fun _ => [BST_RGN_HI_REGIONS]⟩,
  ⟨0x10, 0x4, 1, fun _ => [BST_DEADLINE_TICKS]⟩,
  ⟨0x14, 0x4, 1, fun _ => [BST_STAT_RUNNING, BST_STAT_ORIGIN, BST_STAT_REFUSED_WR, BST_STAT_TEST, BST_STAT_GROUP, BST_STAT_WAIT]⟩,
  ⟨0x18, 0x4, 1, fun _ => [BST_EXPECT_COUNT]⟩,
  ⟨0x1c, 0x4, 1, fun _ => [BST_EXEC_COUNT]⟩,
  ⟨0x20, 0x4, 1, fun _ => [BST_RESULT_PASS, BST_RESULT_COMPLETE, BST_RESULT_ABORTED, BST_RESULT_DEFERRED, BST_RESULT_TEST, BST_RESULT_FAILS]⟩,
  ⟨0x24, 0x4, 1, fun _ => [BST_SIG_CRC]⟩,
  ⟨0x28, 0x4, 1, fun _ => [BST_FIRSTFAIL_INDEX, BST_FIRSTFAIL_VALID]⟩,
  ⟨0x2c, 0x4, 1, fun _ => [BST_REFUSED_ADDR_OFFSET]⟩]
def rowsBST1 : List RegRow := [
  ⟨0x100, 0x8, 64, fun i => [BST_FAIL_IDX_INDEX i]⟩,
  ⟨0x104, 0x8, 64, fun i => [BST_FAIL_VAL_VALUE i]⟩,
  ⟨0x2000, 0x4, 1, fun _ => [DBG_CTL_EN]⟩,
  ⟨0x2004, 0x4, 1, fun _ => [DBG_TMUX_SEL0, DBG_TMUX_SEL1]⟩,
  ⟨0x2008, 0x4, 1, fun _ => [DBG_TDBG_LO_SEL]⟩,
  ⟨0x200c, 0x4, 1, fun _ => [DBG_TDBG_HI_SEL]⟩,
  ⟨0x2010, 0x4, 1, fun _ => [DBG_STAT_GATED, DBG_STAT_BAD_SEL]⟩,
  ⟨0x2014, 0x4, 1, fun _ => [DBG_JTAG_LEVEL]⟩]
def rowsBST : List RegRow := rowsBST0 ++ rowsBST1

def rowsCRCU0 (u : Nat) : List RegRow := [
  ⟨0x0, 0x4, 1, fun _ => [CRC_CTL_ALGO u, CRC_CTL_START u, CRC_CTL_BUSY u]⟩,
  ⟨0x4, 0x4, 1, fun _ => [CRC_DATA8_BYTE u]⟩,
  ⟨0x8, 0x4, 1, fun _ => [CRC_DATA16_HALF u]⟩,
  ⟨0xc, 0x4, 1, fun _ => [CRC_DATA32_WORD u]⟩,
  ⟨0x10, 0x4, 1, fun _ => [CRC_VALUE_VALUE u]⟩,
  ⟨0x14, 0x4, 1, fun _ => [CRC_RESULT_RESULT u]⟩]
def rowsCRCU (u : Nat) : List RegRow := rowsCRCU0 u

/-- The fields of the aligned word at window offset a (R6, R7; the address map of R230). -/
def regFields (a : Nat) : List Fld :=
  if a < 0x10000 then RegRow.find rowsLCS a
  else if a < 0x20000 then RegRow.find rowsTCK (a - 0x10000)
  else if a < 0x30000 then RegRow.find rowsRNG (a - 0x20000)
  else if a < 0x40000 then RegRow.find rowsLNK (a - 0x30000)
  else if a < 0x80000 then RegRow.find rowsCAN (a - 0x40000)
  else if a < 0x81000 then RegRow.find rowsCMP (a - 0x80000)
  else if a < 0x81800 then RegRow.find (rowsLYR ((a - 0x81000) / 0x100)) ((a - 0x81000) % 0x100)
  else if a < 0xA0000 then []
  else if a < 0xC0000 then RegRow.find rowsGKO (a - 0xA0000)
  else if a < 0xE0000 then RegRow.find (rowsNWT ((a - 0xC0000) / 0x1000)) ((a - 0xC0000) % 0x1000)
  else if a < 0x100000 then []
  else if a < 0x200000 then RegRow.find rowsSCN (a - 0x100000)
  else if a < 0x240000 then RegRow.find (rowsPXD ((a - 0x200000) / 0x1000)) ((a - 0x200000) % 0x1000)
  else if a < 0x280000 then []
  else if a < 0x300000 then RegRow.find rowsAXL (a - 0x280000)
  else if a < 0x340000 then RegRow.find rowsSAL (a - 0x300000)
  else if a < 0x380000 then RegRow.find rowsCAL (a - 0x340000)
  else if a < 0x3A0000 then RegRow.find rowsSFT (a - 0x380000)
  else if a < 0x3C0000 then RegRow.find rowsFLT (a - 0x3A0000)
  else if a < 0x3E0000 then RegRow.find rowsREC (a - 0x3C0000)
  else if a < 0x3E1000 then RegRow.find rowsBST (a - 0x3E0000)
  else if a < 0x3E1080 then RegRow.find (rowsCRCU ((a - 0x3E1000) / 0x20)) ((a - 0x3E1000) % 0x20)
  else if a < 0x400000 then RegRow.find rowsBST (a - 0x3E0000)
  else []

end Sys2Proof.Machine
end

