-- ==== Sys2Proof/Machine/Blocks.lean ====
section
/-! DEFINITION. The blocks of the hardware, as plain data: what each holds beside what its registers show. Each
field's comment names the rule of spec/ that gives it. -/

namespace Sys2Proof.Machine

/-- What a module knows of one system index from the frames it has had (R44, R45, R79, R287). -/
structure Peer where
  /-- boundaries since the last frame from it; none: no frame since reset (R44) -/
  age : Option Nat := none
  /-- a BOUNDARY frame of it has come since reset: the fields below are its own (R287) -/
  told : Bool := false
  mode : SyncMode := .solo
  eligible : Bool := false
  master : Nat := 0
  /-- the epoch it last reported as armed (R79) -/
  armed : Option Nat := none
  /-- the error of its last frame in SCA cycles (R46) -/
  err : Option Int := none
  /-- its configuration fingerprint, commissioning epoch and fault summary as last sent (R287) -/
  fp : Nat := 0
  epoch : Nat := 0
  faults : Nat := 0
  /-- consecutive ticks in which its fingerprint differed (R326), and that FINGERPRINT_MISMATCH was sent -/
  fpDiff : Nat := 0
  fpSent : Bool := false
  deriving DecidableEq, Repr

/-- The tick and its sharing (R31–R48), beside what the TCK_ registers show. -/
structure TickBlock where
  /-- the 48-bit tick count (R31) -/
  count : Nat := 0
  /-- device time of the last boundary, in SCA cycles since reset (R104) -/
  time : Nat := 0
  /-- device times of the last boundaries, newest first: tick count and SCA cycles (R104) -/
  past : List (Nat × Nat) := []
  /-- a change of period scheduled: period, bask, boundary (R33) -/
  change : Option (Nat × Nat × Nat) := none
  /-- the period of the tick now running, in µs, before any correction (R33, R37) -/
  run : Nat := 4000
  /-- the bask of the tick now running, in SCA cycles, correction included (R46) -/
  bask : Nat := 80000
  /-- correction waiting for the first bask that has not ended, in SCA cycles (R46) -/
  corr : Int := 0
  /-- the correction the tick now running was given, in SCA cycles (R46, R138) -/
  applied : Int := 0
  /-- the last correction that a frame of the master gave, kept in HOLDOVER (R48) -/
  lastCorr : Int := 0
  /-- the next boundary is moved by this many SCA cycles in one step (R46) -/
  step : Int := 0
  /-- the length in SCA cycles of the tick after the next boundary, where the one step reaches into it (R46) -/
  stepTo : Option Nat := none
  /-- consecutive frames inside the window in ACQUIRE, outside it in LOCKED (R48) -/
  inRun : Nat := 0
  outRun : Nat := 0
  /-- consecutive ticks LOCKED (R45), and ticks without a frame in HOLDOVER (R48) -/
  lockedTicks : Nat := 0
  lostTicks : Nat := 0
  /-- a Croak frame of the master arrived in this tick (R48), one of any other module since reset (R45) -/
  heard : Bool := false
  heardAny : Bool := false
  /-- boundaries since the system link first became trained after reset (R45) -/
  sinceTrained : Option Nat := none
  peers : List Peer := [{}, {}, {}, {}]
  /-- a period change the master announced: its period and the boundaries left (R47) -/
  announced : Option (Nat × Nat) := none
  /-- the period its master's last frame gave (R47) -/
  masterPer : Option Nat := none
  /-- TICK_PERIOD was sent for the boundary now missing (R37) -/
  periodSent : Bool := false
  /-- an emitter has lit since reset: the source left DARK (R46) -/
  lit : Bool := false
  deriving DecidableEq, Repr

/-- One frame buffer: intensity and side value of each pixel by global pixel address, 0 where unlisted (R70, R84). -/
structure Frame where
  light : Cells := []
  side : Cells := []
  deriving DecidableEq, Repr

/-- A commit taken and not yet in force (R75, R79). -/
structure Armed where
  ring : Nat
  seq : Nat
  epoch : Nat
  /-- the boundary it uses under R75 -/
  due : Nat
  late : Bool
  /-- the boundary the release names (R79) -/
  released : Option Nat
  deriving DecidableEq, Repr

/-- A layer's fetch of its host surface for the composition now running (R62, R78, R81). -/
structure Fetch where
  /-- reads not yet requested: host address and bytes -/
  todo : List (Nat × Nat) := []
  /-- reads requested and not ended -/
  waiting : List (Nat × Nat) := []
  /-- bytes fetched, by host address + 1 in the value so that 0 means not fetched -/
  bytes : Cells := []
  /-- the records of a GTC directory have been requested (R59) -/
  dirDone : Bool := false
  /-- reads that failed (R62) -/
  lost : List (Nat × Nat) := []
  /-- every read the layer's window needs, in request order, for the signature (R81): those of `todo` and those that another
  layer of the same slot asks for (R78) -/
  plan : List (Nat × Nat) := []
  deriving DecidableEq, Repr

/-- Composition, beside what the CMP_ and LYR_ registers show (R38–R84). -/
structure CompBlock where
  /-- the two frame buffers; CMP_STAT.FRONT names the front one (R84) -/
  buf0 : Frame := {}
  buf1 : Frame := {}
  /-- the mask plane of the frame now composing, 255 where unlisted (R67, R112) -/
  mask : Cells := []
  /-- the two mask band buffers: the band last rendered into each and its mask cells, none since reset (R84) -/
  bandBuf : List (Option (Nat × Cells)) := [none, none]
  /-- progress of the frame now composing through the four stages of R38 -/
  bands : Nat := 0
  composed : Bool := false
  resolved : Bool := false
  ready : Bool := false
  /-- the pass found the envelope changed (R120) -/
  passFailed : Bool := false
  /-- a frame has been swapped in since reset (R39) -/
  everSwapped : Bool := false
  /-- the first boundary at which not-ready boundaries count (R39) -/
  countFrom : Option Nat := none
  /-- FRAME_REPEAT_LIMIT was sent in this run (R41) -/
  repeatSent : Bool := false
  /-- the earliest unfinished stage at the last counted boundary (R41) -/
  lastStage : Nat := 0
  /-- layers whose shadow ALPHA, and layers whose fade table, were written since the last commit (R72) -/
  alphaNew : List Nat := []
  fadeNew : List Nat := []
  armed : Option Armed := none
  /-- the cut-off of the boundary to come has passed (R75) -/
  cutoff : Bool := false
  /-- a COMMIT has been taken since reset (R119), and one has come into force (R416) -/
  taken : Bool := false
  committed : Bool := false
  /-- the symbol step was granted for the frame now composing (R64) -/
  symGranted : Bool := false
  fetch : List Fetch := [{}, {}, {}, {}, {}, {}, {}, {}]
  /-- layers with a signature to compare (R81), and those whose FROZEN was sent in this run (R82) -/
  sigSeen : List Nat := []
  frozenSent : List Nat := []
  /-- furthest record end of each frame of each active local GTC slot, by 256 * slot + frame (R63) -/
  dirEnd : Cells := []
  /-- the same of each shadow local GTC slot that a COMMIT has validated since it was bound (R63) -/
  dirEndSh : Cells := []
  /-- the local surface area, by byte offset (R63, R84) -/
  area : Cells := []
  deriving DecidableEq, Repr

/-- One work item of the firmware image (R91). -/
structure WorkItem where
  slot : Nat
  allowance : Nat
  essential : Bool
  deriving DecidableEq, Repr

/-- One Newt engine, beside what its NWT_ registers show (R88–R99). -/
structure Engine where
  items : List WorkItem := []
  code : Cells := []
  data : Cells := []
  entry : Nat := 0
  /-- a run of missed ticks has been reported (R92) -/
  missRun : Bool := false
  /-- items whose slot has started, the running one first, each with whether it resumes where it was preempted (R91, R92) -/
  queue : List (Nat × Bool) := []
  /-- DEFERRABLE items preempted, to resume when granted (R92) -/
  preempted : List Nat := []
  /-- the engine ran when this tick began (R99, R123) -/
  ran : Bool := false
  /-- the extension object table, the boundary of the tick it was written in, and the ticks it is still held (R98,
  R99) -/
  table : List ObjRec := []
  tableAt : Nat := 0
  hold : Option Nat := none
  /-- events of type EXTENSION posted in this tick (R93) -/
  posted : Nat := 0
  deriving DecidableEq, Repr

/-- An extension image on its way into an engine (R97); the image is in its descriptor's data. -/
structure ExtLoad where
  /-- the descriptor -/
  id : Nat
  engine : Nat
  /-- the image: header, signature, code and data -/
  image : List Nat
  /-- 0 staged and being verified, 1 verified, to be copied at the next boundary, 2 copied, to start at the next -/
  step : Nat
  deriving DecidableEq, Repr

/-- The Newt engines (R88–R99). -/
structure EngBlock where
  engines : List Engine := List.replicate 32 {}
  loads : List ExtLoad := []
  /-- public keys of slot 0, and of slot 1 where one is stored: x * 2^256 + y (R96) -/
  key0 : Option Nat := none
  key1 : Option Nat := none
  /-- the run slot that started last: 0 OPEN, 1 ACTIVE, 2 SEALED, 3 CLOSE (R90) -/
  slot : Nat := 0
  deriving DecidableEq, Repr

/-- A host object list (R100–R102). -/
structure ObjList where
  id : Nat := 0
  htime : Nat := 0
  recs : List ObjRec := []
  /-- device time of the boundary it became active at, SCA cycles (R106) -/
  since : Nat := 0
  deriving DecidableEq, Repr

/-- A box Gecko draws (R107), its observation time in device nanoseconds fixed when the frame's boundary fell. -/
structure Box where
  obj : ObjRec
  tobs : Rat
  deriving DecidableEq, Repr

/-- The time base of R105; times in nanoseconds. -/
structure TimeBase where
  href : Rat := 0
  tref : Rat := 0
  rate : Rat := 0
  tprev : Rat := 0
  /-- consecutive rejected answers, and ticks since the last accepted one -/
  rejRun : Nat := 0
  quiet : Nat := 0
  /-- answers accepted in ACQUIRE -/
  inAcquire : Nat := 0
  deriving DecidableEq, Repr

/-- Gecko, the envelope and its floor (R98–R120), beside what the GKO_ registers show. -/
structure GkoBlock where
  host : ObjList := {}
  /-- a list has been taken since reset (R113) -/
  listTaken : Bool := false
  /-- the input buffer: a list taken and not yet active, with its descriptor (R102) -/
  input : Option (Nat × Nat × ObjList) := none
  /-- the firmware object table, and the device time in SCA cycles of the boundary of the tick it was written in (R106) -/
  firmware : List ObjRec := []
  firmwareAt : Nat := 0
  /-- twin-path summary boxes handed over by the safety island, and that time for them (R107) -/
  twin : List ObjRec := []
  twinAt : Nat := 0
  /-- the boxes of the frame now composing and that boundary's device time in SCA cycles -/
  boxes : List Box := []
  origin : Nat := 0
  tb : TimeBase := {}
  /-- OBJECTS_STALE was sent in this run of stale ticks (R113) -/
  staleSent : Bool := false
  /-- the envelope map and floor in the pond store (R114, R115) -/
  env : Plane := {}
  floor : Plane := {}
  /-- the permit sampled at the start of the pass (R117) -/
  permit : Bool := false
  /-- an envelope was loaded at the start of the pass (R120) -/
  passLoaded : Bool := false
  /-- a floor release ran on die A, B in the last sealed frame (R118) -/
  relA : Bool := false
  relB : Bool := false
  deriving DecidableEq, Repr

/-- A pixel word on its way to an emitter die (R134, R139), and whether the drive level was clipped (R154) or LOWCUT
changed the code (R149). -/
structure BusWord where
  word : Nat := 0
  clip : Bool := false
  low : Bool := false
  deriving DecidableEq, Repr

/-- Scan-out and the emitter rows (R124–R147), beside what the SCN_ registers show. Where a list has one entry for each
die, die A comes first. -/
structure ScnBlock where
  /-- the seed in force (R136) -/
  seed : Nat := 0
  /-- the words each region row holds, by 320 * region + row; 64 zero words where unlisted (R134, R141, R150) -/
  rows : Keyed (List Nat) := []
  /-- region rows (320 * region + row) missed at their last row time, and rows switched off (R141) -/
  missed : List Nat := []
  off : List Nat := []
  /-- the regions checked in the tick now running, by die: running readback value (R144) -/
  rb : List Nat := [0xFFFFFFFF, 0xFFFFFFFF]
  /-- GOT of each region at its previous check (R145) -/
  lastGot : Keyed Nat := []
  /-- consecutive mismatches of each die, and consecutive basks without a value (R145, R305) -/
  mism : List Nat := [0, 0]
  missRun : List Nat := [0, 0]
  /-- READBACK_MISMATCH was sent in this run of mismatches -/
  mismSent : List Bool := [false, false]
  /-- lanes without block lock, 4 * die + lane, with their consecutive failed retrains (R142) -/
  lost : Keyed Nat := []
  /-- a bus declared down (R142) -/
  down : List Bool := [false, false]
  /-- the die holds its tiles off for want of a Croak (R143) -/
  dark : List Bool := [true, true]
  /-- the device times of the last Croak each die received, and the period it last measured between two (R143) -/
  croakAt : List (Option Nat) := [none, none]
  croakPer : List (Option Nat) := [none, none]
  /-- SCA or SCB cycles each block sends its Croak ahead of the boundary (R42) -/
  launch : List Nat := [0, 0]
  /-- the latency is measured again in the next bask; the launch offset is corrected at the next boundary (R43) -/
  skewMeasure : Bool := false
  skewCorrect : Bool := false
  /-- the row that starts next, 320 if none is left in this tick (R127) -/
  next : Nat := 320
  /-- the words on the pixel bus for that row, by region; 64 zero words where unlisted (R139) -/
  ahead : Keyed (List BusWord) := []
  /-- the words each region's row now in its row time held before it, by region (R129) -/
  was : Keyed (List Nat) := []
  /-- the sub-period now running, and the one that starts next (R135) -/
  sub : Nat := 0
  subNext : Nat := 0
  /-- every tile is held off: a BLANK command, until the source is no longer DARK (R125, R126) -/
  blank : Bool := false
  /-- counts of the active part now running: lit pixels by range, LOWCUT changes (R149), clipped pixels by region
  (R154) -/
  rangeAcc : List Nat := [0, 0, 0, 0]
  lowAcc : Nat := 0
  clipAcc : Keyed Nat := []
  /-- sums of R180 by tile: weighted levels and weights -/
  kNum : Keyed Nat := []
  kDen : Keyed Nat := []
  deriving DecidableEq, Repr

/-- A pixel on a region's pending list (R167): its pixel, the flag it carries and its count. -/
structure Pend where
  region : Nat
  pix : Nat
  short : Bool
  count : Nat
  deriving DecidableEq, Repr

/-- A health-port write waiting for the next bask (R158). -/
structure PortWrite where
  pix : Nat
  word : Nat
  deriving DecidableEq, Repr

/-- A row that carries the sense current, from `start` to `stop` in SCA cycles after the boundary, by 320 * region + row
(R164); phased where a neighbour test drives it in phases (R170). -/
structure Sensed where
  row : Nat
  start : Nat
  stop : Nat
  phased : Bool
  deriving DecidableEq, Repr

/-- Pixel drive and emitter health (R150–R175), beside what the PXD_ and AXL_ registers show. -/
structure PixBlock where
  /-- the factory gain trim F (R153) and the user trim U as stored (R211), by pixel -/
  fGain : Plane := {}
  uTrim : Plane := {}
  /-- the health words (R157) and the kill bits of the emitter dies (R150, R159) -/
  health : Plane := {}
  kill : Cells := []
  /-- the tile temperature table as written and as scan-out copied it (R155, R160, R172) -/
  tgain : Plane := {}
  tgainUsed : Plane := {}
  /-- the tile table of dead counts and DEGRADED, as in the window (R160, R175) -/
  tiles : Plane := {}
  /-- the emitter dies' stores of column-DAC linearity corrections, and of bandgap and ADC reference values (R152, R206) -/
  dacLin : Cells := []
  refVals : Cells := []
  /-- what is in force on the emitter dies of the column-DAC offsets, by register field, and of the reference trims, by
  4 * region + range (R202, R225) -/
  dieOfs : Cells := []
  dieTrim : List Nat := []
  /-- queued port writes (R158) -/
  queue : List PortWrite := []
  /-- pixels pending, oldest first (R167); pairs of column lines (R169) and of pixels (R170) pending, with counts,
  by 4 * (left or upper pixel) + 0 for column lines, 1 beside each other, 2 one above the other -/
  pend : List Pend := []
  pairs : Keyed Nat := []
  /-- the two halves of the result buffer (R165) -/
  half0 : Cells := []
  half1 : Cells := []
  /-- readings of this full sweep of each die, in mV (R456) -/
  sweepA : List Nat := []
  sweepB : List Nat := []
  /-- regions whose last reference check was out of limit, and whose ADC check failed (R152) -/
  irefRun : List Nat := []
  adcBad : List Nat := []
  /-- rows measured in the last bask (R164) -/
  sensed : List Sensed := []
  /-- consecutive boundaries at which the sweep step was withheld (R162), and that SWEEP_STALL was sent -/
  stall : Nat := 0
  stallSent : Bool := false
  /-- a health save that runs: bits [7:0] of each word as it started (R161), and the bask it waits for -/
  saveAsked : Bool := false
  saving : Option Cells := none
  deriving DecidableEq, Repr

/-- The Skink pattern (R307–R311): the image checked and locked at start-up. -/
structure SkinkBlock where
  /-- the 327,744 bytes of the pattern SRAM, 0 where unlisted -/
  pattern : Cells := []
  /-- check 3 of R308 is to be repeated against a new envelope (R310) -/
  recheck : Bool := false
  deriving DecidableEq, Repr

/-- The life cycle (R328–R330): the state in force and the one pending, as numbered in R254; PILOT_COMPAT (R333) and
the challenge (R330). -/
structure LifeBlock where
  state : Nat := 0
  pending : Nat := 0
  pilot : Bool := false
  challenge : Nat := 0
  /-- rails that have fallen below their reset threshold and not risen through their release threshold since, numbered as in
  R370: 0 is VSAFE (R398, R423) -/
  low : List Nat := [1, 2, 3, 4, 5]
  /-- T0 has passed since the last reset (R398), and the set-up record has been looked at (R404, R413) -/
  released : Bool := false
  setUp : Bool := false
  deriving DecidableEq, Repr

/-- Where a fetched descriptor stands (R241): fetched and not issued; held back; at work so that its ring issues
nothing further; accepted and running on. -/
inductive Stage where
  | fetched | held | working | accepted
  deriving DecidableEq, Repr

/-- A descriptor in flight (R239), with the data it reads from host memory. -/
structure Flight where
  /-- a number no other flight has: descriptors fetched so far -/
  id : Nat
  ring : Nat
  slot : Nat
  opcode : Nat
  /-- bits [15:10] of word 0, zero in a well-formed descriptor (R247) -/
  rsvd : Nat := 0
  fence : Bool
  hint : Bool
  cookie : Nat
  args : List Nat
  stage : Stage
  /-- its completion is queued or waits for its place in the ring (R243) -/
  ended : Bool := false
  /-- host reads still to be requested, address and words, and the address its data starts at -/
  todo : List (Nat × Nat) := []
  base : Nat := 0
  /-- host reads requested and not ended -/
  waiting : Nat := 0
  /-- the data fetched, by byte -/
  buf : Cells := []
  /-- a read of its data failed (R244) -/
  failed : Bool := false
  /-- the session it was accepted in, where it needs one: 0 none, 1 password, 2 pilot (R333, R334); the number of the session
  that was open then, 0 none -/
  gate : Nat := 0
  sess : Nat := 0
  deriving DecidableEq, Repr

/-- A completion entry waiting to be written (R242, R243). -/
structure Cpl where
  id : Nat
  ring : Nat
  slot : Nat
  opcode : Nat
  cookie : Nat
  hint : Bool
  status : Nat
  detail : Nat
  tick : Nat
  result : Nat
  /-- it belongs to a boundary, whose tick count it carries (R248) -/
  bound : Bool
  deriving DecidableEq, Repr

/-- One command ring and its completion ring, beside what its registers show (R232–R245). -/
structure Ring where
  /-- command producer index and completion consumer index as last read from the doorbell page (R235) -/
  prod : Nat := 0
  cplCons : Nat := 0
  /-- completion producer index: entries written (R233) -/
  cplProd : Nat := 0
  /-- completions waiting for room (R243) -/
  queue : List Cpl := []
  /-- a fetch of descriptors is under way (R239) -/
  fetching : Bool := false
  /-- consecutive boundaries at which the completion ring was full, and that CPL_STALL was sent (R243) -/
  fullTicks : Nat := 0
  stallSent : Bool := false
  deriving DecidableEq, Repr

/-- The ring engine (R232–R254), beside what the RNG_ registers show. -/
structure RingBlock where
  rings : List Ring := [{}, {}, {}, {}, {}, {}, {}, {}]
  flights : List Flight := []
  nextId : Nat := 0
  /-- a poll is in progress, and one more is asked for (R237) -/
  polling : Bool := false
  pollAgain : Bool := false
  /-- a round has left descriptors unfetched for want of a tag (R239, R240) -/
  tagWait : Bool := false
  /-- completion rings (bits 0–7) and event ring (bit 8) written since the last EVENT_HINT, and that one asks for
  it (R242) -/
  batch : Nat := 0
  hintDue : Bool := false
  /-- completions that fall due at the boundary being carried out, in the order of R242, and that they are gathered -/
  due : List Cpl := []
  gather : Bool := false
  /-- the event ring: consumer index last read, ever enabled since reset, sequence number, events dropped since the
  last one written, EVENT_LOST sent in this run (R250) -/
  evtCons : Nat := 0
  evtEver : Bool := false
  evtHalted : Bool := false
  evtSeq : Nat := 0
  evtLost : Nat := 0
  evtRun : Bool := false
  deriving DecidableEq, Repr

/-- Who asked for a host read (R240, R278). -/
inductive Req where
  | poll
  | desc (ring first count : Nat)
  | arg (id : Nat)
  | surf (layer : Nat)
  deriving DecidableEq, Repr

/-- A read tag in use (R278): its request, the words that have arrived, by word offset, value + 1. -/
structure TagUse where
  tag : Nat
  req : Req
  addr : Nat
  words : Nat
  got : Cells := []
  deriving DecidableEq, Repr

/-- The Pelzon link, beside what the LNK_ registers show. -/
structure LinkBlock where
  /-- read tags in use, and released tags in quarantine (R278) -/
  tags : List TagUse := []
  quarantine : List Nat := []
  /-- packets waiting to be sent on the uplink (R276) -/
  upQueue : List UpPacket := []
  /-- packets sent and not acknowledged, with their SEQ, oldest first; the SEQ the next one takes; replays without an
  advance (R277) -/
  unacked : List (Nat × UpPacket) := []
  seq : Nat := 0
  replays : Nat := 0
  /-- cumulative credits granted and used: posted headers, posted data, non-posted headers, completion headers,
  completion data; the classes that are unlimited: posted, non-posted, completion (R276) -/
  granted : List Nat := [0, 0, 0, 0, 0]
  used : List Nat := [0, 0, 0, 0, 0]
  inf : List Bool := [false, false, false]
  /-- the step-down cap (R268) -/
  cap : Option Nat := none
  /-- rates and LOCKED mask of the host's last training block, the lanes that received TS1 in this attempt, rate, width
  and active lanes of the last TS2 (R264) -/
  rates : Nat := 0
  hostLocked : Nat := 0
  ts1 : List Nat := []
  ts2 : Option (Nat × Nat × Nat) := none
  /-- the state the last attempt failed in (R270); L0 was reached since reset; the host-loss timer runs (R270) -/
  failState : Nat := 0
  everL0 : Bool := false
  hostLoss : Bool := false
  /-- the latency echo of this CONFIG has returned (R282); an L2 exit is under way (R272, R448) -/
  echoed : Bool := false
  l2Exit : Bool := false
  /-- the last PM block sent (R264): 1 L1, 3 L2 accepted, 4 refused -/
  pmSent : Nat := 0
  /-- downlink lanes being recalibrated in L1 (R226) -/
  recal : List Nat := []
  /-- the system link: an echo is out, boundary frames are sent (R285); the frames sent since the last boundary (R286,
  R287) -/
  slEcho : Bool := false
  slSending : Bool := false
  slSent : List (List Nat) := []
  /-- the release this module made as master: epoch and the boundary of its first frame (R79, R288) -/
  release : Option (Nat × Nat) := none
  /-- SEQ of the last downlink packet received intact and in order, and that the device's acknowledgement is a NAK
  (R277) -/
  rxSeq : Nat := 4095
  nak : Bool := false
  /-- after a framing error packets are discarded up to the next LLC block (R273) -/
  deaf : Bool := false
  /-- posted headers, posted data credits and non-posted headers the device has taken and granted again (R276); the LLC block
  it last sent (R264); the host's initial credits of this CONFIG have come (R267) -/
  took : List Nat := [0, 0, 0]
  llcSent : List Nat := []
  credited : Bool := false
  /-- ID of the latency echo request that is out (R282) -/
  echoId : Option Nat := none
  deriving DecidableEq, Repr

/-- A safety block under assembly (R293): its last part, SEQ byte, next part, bytes so far. -/
structure CanAsm where
  last : Nat
  seq8 : Nat
  next : Nat
  bytes : List Nat
  deriving DecidableEq, Repr

/-- The CAN FD controller, beside what the CAN_ registers show (R290–R296). -/
structure CanBlock where
  asm : Option CanAsm := none
  /-- COUNTER of the last limp command accepted since reset (R294) -/
  limpSeen : Option Nat := none
  /-- the status frame waiting to be sent, and boundaries since the last one fell due (R295) -/
  status : Option CanFrame := none
  statTicks : Nat := 0
  /-- RX_OVERRUN was sent in this run (R296) -/
  overRun : Bool := false
  /-- the receive buffer, oldest first, and the receive error counter in full (R296) -/
  rx : List CanFrame := []
  recs : Nat := 0
  deriving DecidableEq, Repr

/-- A CAL_USER_WRITE that runs (R214–R220). -/
structure CalWrite where
  id : Nat
  group : Nat
  persist : Bool
  hold : Bool
  /-- the check value of its data -/
  crc : Nat
  /-- as CAL_USER_STAT.PHASE: 1 first pass, 2 applying, 3 programming; it waits for a check value (R333) -/
  phase : Nat := 1
  waits : Bool := false
  /-- PIXTRIM: the plane of the first pass, the next tile row, the second pass matched, the plane rewritten after a
  mismatch (R218, R219) -/
  plane : Cells := []
  row : Nat := 0
  pass2 : Bool := false
  restore : Option Cells := none
  /-- a map group has come into force (R217) -/
  inForce : Bool := false
  /-- its programming waits for a health save that was running (R220) -/
  behind : Bool := false
  deriving DecidableEq, Repr

/-- User calibration (R211–R221), beside what the CAL_ registers show. -/
structure CalBlock where
  /-- VG of each tile (R211), and the copy scan-out uses from the next boundary (R217) -/
  vignet : Plane := { fill := 0x8000 }
  vigNext : Option Plane := none
  /-- dX of node (i, j) at 2 * (65 j + i), dY beside it, 16-bit two's complement (R211) -/
  geom : Plane := {}
  write : Option CalWrite := none
  /-- staged map groups: the bytes of group g (R217) -/
  staged : Keyed (List Nat) := []
  /-- the trim block, the map block in force differ from the stored ones (R221) -/
  dirtyTrim : Bool := false
  dirtyMap : Bool := false
  /-- trims of pixel-bus lanes 0–2 of both dies, which no register shows (R222) -/
  busTrim : Keyed LaneCal := []
  /-- factory records that failed their check or their read at start-up, by row of R206 (R207) -/
  bad : List Nat := []
  deriving DecidableEq, Repr

/-- The sums of a tile (R179): N, M, r of the four classes, and Z. -/
structure TileSum where
  lit : Nat := 0
  low : Nat := 0
  r : List Nat := [0, 0, 0, 0]
  z : Rat := 0
  deriving DecidableEq, Repr

/-- What Salamander resolved for one frame (R186–R188). Powers in µW; levels in the order regions 0–63, die A, die B,
package. -/
structure FrameBudget where
  /-- each tile's predicted power after and before reduction, and its drive-table value (R182, R183); tiles that draw
  nothing are not listed -/
  pred : Keyed Rat := []
  raw : Keyed Rat := []
  /-- the four final factors of each tile (R187); unlisted: all 1,024 -/
  fac : Keyed (List Nat) := []
  /-- power of each level member after reduction, and before it -/
  level : List Rat := []
  levelRaw : List Rat := []
  /-- the factors of each level member, and the available limit each was resolved against -/
  g : List (List Nat) := []
  la : List Rat := []
  /-- f_floor of die A, die B and the package; the dies whose floor is released; a package emergency (R188) -/
  ffloor : List Nat := [1024, 1024, 1024]
  rel : List Bool := [false, false]
  pkg : Bool := false
  /-- classes reduced somewhere, and the symbol step granted (R193) -/
  red : Nat := 0
  sym : Bool := true
  /-- tiles and regions over their limit at the floor: true for a region, its source, the address (R188) -/
  exceeded : List (Bool × Nat × Nat) := []
  /-- the drive table the frame was resolved with: K_t before the guard, and that of a region's tiles not listed (R180,
  R183) -/
  kt : Keyed Rat := []
  kRest : List Rat := []
  deriving DecidableEq, Repr

/-- Salamander (R179–R195), beside what the SAL_ registers show. Levels are numbered as in FrameBudget. -/
structure SalBlock where
  sums : Keyed TileSum := []
  /-- K_t as last measured, in 1/1,024 µA; unlisted: LEVEL_MAX of the region (R180) -/
  kt : Keyed Rat := []
  /-- V_d in mV and S_d of each die, and the samples of the tick now running: lowest and highest (R181) -/
  vd : List Nat := [3600, 3600]
  sf : List Rat := [1, 1]
  lowest : List (Option Nat) := [none, none]
  highest : List Nat := [0, 0]
  /-- the newest sample of each rail, in mV (R181, R314) -/
  newest : List (Option Nat) := [none, none]
  /-- V_min of the last tick; consecutive ticks below 2.7 V; VLED_UNDER sent in this run; a whole tick at 2.7 V has been
  seen since T0 (R181, R399) -/
  vmin : List Nat := [0, 0]
  under : List Nat := [0, 0]
  underSent : List Bool := [false, false]
  upOnce : List Bool := [false, false]
  derated : List Bool := [false, false]
  /-- continuous, short and available limits in force, and the tile limit of each region (R184, R185), in µW -/
  lc : List Rat := []
  ls : List Rat := []
  la : List Rat := []
  tileLc : List Rat := []
  /-- spent energies in µJ; empty until boundary 0, when each starts at C (R185) -/
  spent : List Rat := []
  /-- measured power of the last tick (R191), and of each tile (R183) -/
  meas : List Rat := []
  tileMeas : Keyed Rat := []
  /-- power of the self-test slice of each region in the tick now running (R191) -/
  slice : Keyed Rat := []
  /-- what the frame now composing and the frame in front were resolved to -/
  next : FrameBudget := {}
  shown : FrameBudget := {}
  /-- the tick that ends showed the frame in front before the boundary (R191, R195) -/
  before : FrameBudget := {}
  /-- runs of FLOOR_OVER, of BUDGET_EMERGENCY and of DRIVER_OVER -/
  overRun : List (Bool × Nat × Nat) := []
  emRun : Bool := false
  drvRun : Bool := false
  /-- P_drv in mW for the tick in progress (R194) -/
  pdrv : Rat := 0
  /-- consecutive boundaries at which the sweep step was withheld, and that the next is to be forced (R194) -/
  withheld : Nat := 0
  forceDue : Bool := false
  /-- the tile records of the pond store (R183): 64 bits each -/
  records : Plane := {}
  deriving DecidableEq, Repr

/-- A freeze of a temperature factor (R199): factor 0–63 T_r of a region, 64 K_sink, 65 K_drv; the sensor that froze it
and f_frz. -/
structure Freeze where
  factor : Nat
  sensor : Nat
  frz : Rat
  deriving DecidableEq, Repr

/-- The temperature sensors and what they govern (R196–R202), beside what the THM_ registers show. Readings and values
in 1/16 °C. -/
structure ThmBlock where
  /-- readings taken in the bask now running, in force at the next boundary -/
  taken : Option (List Int) := none
  /-- readings that came into force, newest first, at most 17 boundaries -/
  past : List (List Int) := []
  /-- each sensor is implausible; boundaries in a row it has passed the tests; its last plausible reading -/
  impl : List Bool := List.replicate 40 false
  okRun : List Nat := List.replicate 40 0
  last : List (Option Int) := List.replicate 40 none
  /-- values in force (R198) -/
  val : List Rat := List.replicate 40 0
  /-- factors in force: T_r of each region, K_sink, K_drv -/
  factor : List Rat := List.replicate 66 1
  freezes : List Freeze := []
  /-- the sensors that govern K_sink and K_drv (R199) -/
  govSink : Option Nat := none
  govDrv : Option Nat := none
  /-- OVERTEMP runs by sensor, and NO_SENSORS runs: die A, die B, driver die -/
  hot : List Nat := []
  noneRun : List Bool := [false, false, false]
  /-- corrections in force: each range of each region at 4 * region + range, then PLL, SAF and AON oscillators; and
  ticks since the last step of each oscillator (R202) -/
  corr : List Int := List.replicate 259 0
  oscAge : List Nat := [16, 16, 16]
  deriving DecidableEq, Repr
/-- A fault message on its way to the collector (R341, R342). -/
structure Msg where
  /-- a number no other message has: messages sent so far -/
  id : Nat
  source : Nat
  kind : Nat
  addr : Nat
  /-- `TCK_ROWPOS.ROW` at detection, 0x1FF during a bask, and the tick count's low 15 bits -/
  row : Nat
  tick : Nat
  injected : Bool := false
  /-- the reaction has been carried out, by the island (R320) or at acceptance (R342) -/
  acted : Bool := false
  /-- an injected message that arrived beside a real one of its source (R352) -/
  masked : Bool := false
  deriving DecidableEq, Repr

/-- One record of the event recorder (R357). -/
structure Rec where
  number : Nat
  source : Nat := 0
  kind : Nat := 0
  addr : Nat := 0
  sev : Nat := 0
  injected : Bool := false
  type : Nat
  tick : Nat := 0
  minutes : Nat := 0
  cycles : Nat := 0
  extra : Nat := 0
  fp : Nat := 0
  /-- second part of a CHANGE entry: content CRC before, after, and the epoch it carries (R358) -/
  part : Option (Nat × Nat × Nat) := none
  deriving DecidableEq, Repr

/-- What a used record slot of the flash holds (R357, R367). -/
inductive Slot where
  | valid (r : Rec)
  | torn
  deriving DecidableEq, Repr

/-- The event recorder, beside what its registers and the flash hold (R357–R369). -/
structure RecBlock where
  /-- the buffer in safety RAM, and the holding queue of a freeze, oldest first (R362, R368) -/
  buffer : List Rec := []
  hold : List Rec := []
  /-- the number the next record takes (R359) -/
  next : Nat := 0
  /-- SAF ms at which the freeze in force started, and at which the last one ended (R369) -/
  frozenAt : Option Nat := none
  lastEnd : Option Nat := none
  /-- the record being programmed, and its failed attempts (R362, R364) -/
  prog : Option Nat := none
  tries : Nat := 0
  /-- a flush runs; it began with the records below flushTo (R362, R365) -/
  flushing : Bool := false
  flushTo : Nat := 0
  /-- after a power-fail: the records that may still be numbered; its flush started below 3.0 V (R365, R450) -/
  pf : Option Nat := none
  slow : Bool := false
  /-- the records the power-fail flush has programmed, while it runs (R365, R366) -/
  pfFlush : Option Nat := none
  /-- the circulating block being erased, and that the erase is suspended (R360, R365) -/
  erasing : Option Nat := none
  suspended : Bool := false
  /-- drops in the run at the buffer, and in the freeze (R363, R368) -/
  dropRun : Nat := 0
  holdDrops : Nat := 0
  deriving DecidableEq, Repr

/-- An entry of the unacknowledged table (R346, R347). -/
structure Unack where
  record : Nat
  sev : Nat
  injected : Bool
  grace : Nat
  source : Nat
  kind : Nat
  addr : Nat
  /-- its message came in one SAF cycle with a real one of its source (R352) -/
  masked : Bool
  /-- the module was in FALLBACK or DARK when the record was made (R348) -/
  inLock : Bool
  deriving DecidableEq, Repr

/-- The fault collector, beside what the FLT_ registers show (R341–R356). -/
structure FltBlock where
  /-- messages sent since reset -/
  sent : Nat := 0
  /-- the input queue, and the run of messages dropped at it (R342) -/
  queue : List Msg := []
  dropRun : Nat := 0
  /-- the unacknowledged table by entry, and the records counted without an entry (R346, R349) -/
  table : Keyed Unack := []
  overflow : Nat := 0
  /-- entries whose grace count has reached 0 and that are still to be escalated (R347) -/
  due : List Unack := []
  /-- the latch of R353 -/
  selfLatch : Bool := false
  /-- the severity table as written and in force: source, severity + 1; a source without an entry has the reset
  severity of each of its kinds (R345) -/
  sevW : Cells := []
  sevNow : Cells := []
  deriving DecidableEq, Repr

/-- The record a lock-out's cause has, or the message whose record is still to be made (R313). -/
inductive CauseRef where
  | msg (id : Nat)
  | record (n : Nat)
  deriving DecidableEq, Repr

/-- The record number that names no record (R313). -/
def noRecord : CauseRef := .record 0xFFFFFFFF

/-- A safety command block (R283): its SEQ, the tick count of its arrival, its bytes. -/
structure SafeBlock where
  seq : Nat
  at' : Nat
  bytes : List Nat
  deriving DecidableEq, Repr

/-- One dual-channel input (R317, R318). -/
structure DualIn where
  /-- consecutive samples in disagreement, and at the inactive pair while latched -/
  count : Nat := 0
  calm : Nat := 0
  deriving DecidableEq, Repr

/-- A closed session that is not settled yet (R327, R334): its number, its kind, and that it persisted a change. -/
structure Account where
  no : Nat
  pilot : Bool
  changed : Bool
  deriving DecidableEq, Repr

/-- The safety island, beside what the SFT_ registers show (R300–R335). -/
structure SftBlock where
  /-- LIMP_N is high (R300, R404) -/
  limpHigh : Bool := false
  /-- SAF milliseconds since T0 (R407, R417) -/
  ms : Nat := 0
  /-- the message whose record is to become CAUSE_REC (R313) -/
  causeMsg : Option Nat := none
  /-- causes collected before start-up ends: dark, record (R407) -/
  collected : List (Bool × CauseRef) := []
  /-- latched conditions of R305: PIXBUS_DOWN, SCANOUT_FROZEN; PLL_UNLOCK and SCAN_CLOCK until they recover -/
  busBad : Bool := false
  frozenBad : Bool := false
  pllBad : Bool := false
  clkBad : Bool := false
  /-- SAF ms of the latest read of the causing record (R313) -/
  readAt : Option Nat := none
  /-- a RESUME was accepted and acts at the next boundary; the boundary just past ended a lock-out (R315, R125) -/
  resume : Bool := false
  afterLock : Bool := false
  hbp : DualIn := {}
  lbf : DualIn := {}
  /-- the message of the condition that turned the Skink path unhealthy (R305, R313) -/
  failRef : CauseRef := noRecord
  /-- sessions that have closed while descriptors accepted in them still run (R334); the number of the session opened last -/
  closing : List Account := []
  sessNo : Nat := 0
  /-- the safety blocks discarded as not newer, saturating (R321) -/
  replays : Nat := 0
  /-- LBF_DEMAND was sent in this run of LBF reading asserted (R317) -/
  lbfSent : Bool := false
  /-- the newest block of each carrier (R321) -/
  link : Option SafeBlock := none
  can : Option SafeBlock := none
  /-- TWIN_MISMATCH was sent in this run; the last boundary was in MISSING (R324) -/
  mismSent : Bool := false
  missRun : Bool := false
  /-- SAF ms of the last use of the session, and that the open session persisted a change (R334, R327) -/
  lastUse : Nat := 0
  changed : Bool := false
  /-- a new commissioning epoch, for the next boundary (R327) -/
  epochNext : Option Nat := none
  /-- the descriptors that wait for their check value, the value each needs, SAF ms its wait started (R333) -/
  pilotWait : List (Nat × Nat × Nat) := []
  /-- SFT_PWi and LCS_TOKENi as written, by word (R330, R331) -/
  pw : Cells := []
  token : Cells := []
  deriving DecidableEq, Repr

/-- A copy of a block in the commissioning area (R161, R220): its sequence number, its bytes, and the CRC-32C it ends with. -/
structure Copy where
  seq : Nat
  bytes : Cells
  crc : Nat
  deriving DecidableEq, Repr

/-- The flash die (R408): what its areas hold. -/
structure FlashBlock where
  /-- the 11 factory records as bytes, by row of R206, each with the CRC-32C it ends with behind them; none: absent -/
  factory : List (Option Cells) := List.replicate 11 none
  /-- the envelope image of the commissioning area, its bytes (R119) -/
  env : Option Cells := none
  /-- the two copies of the trim block and of the map block: sequence number and bytes; none: not valid (R220); that
  a block was written before (R221) -/
  trim : List (Option Copy) := [none, none]
  map : List (Option Copy) := [none, none]
  trimEver : Bool := false
  mapEver : Bool := false
  /-- the two copies of the health save: sequence number and bytes, none: not valid; that each was written before
  (R161) -/
  health : List (Option Copy) := [none, none]
  healthEver : List Bool := [false, false]
  /-- password hash, failure count, commissioning epoch (R327, R331, R332) -/
  pwHash : Option Nat := none
  pwFails : Nat := 0
  /-- the count of powered minutes at which the password lock ends (R332) -/
  lockEnd : Option Nat := none
  epoch : Nat := 0
  /-- the firmware images, their bytes (R409) -/
  images : List (Option Cells) := [none, none]
  /-- the symbol library by byte, 0xFF where unlisted (R307, R408) -/
  library : Cells := []
  /-- the used record slots, by 2,048 * block + slot, the slots the next keep-forever and circulating record take, and
  the records programmed since the newest POWER_FAIL record (R360, R366) -/
  slots : Keyed Slot := []
  keepAt : Nat := 0
  recAt : Nat := 2048
  flushed : Nat := 0
  deriving DecidableEq, Repr

/-- A self-test that runs (R373–R385). -/
structure Test where
  num : Nat
  /-- the BIST_RUN it belongs to; none: started through BST_START -/
  desc : Option Nat
  /-- its target regions, of LANE_LOOP its lanes, in ascending order, and the group now running (R376) -/
  regions : List Nat
  group : Nat := 0
  deadline : Nat
  wait : Nat := 0
  /-- the group's next slice, or none where it runs continuously; boundaries left of a continuous group that was
  granted; a test without regions has been granted or needs no grant (R377, R378) -/
  slice : Option Nat := none
  left : Nat := 0
  started : Bool := false
  /-- slices of the group now running that have run; device time at which what runs now started (R373, R377) -/
  begun : Nat := 0
  since : Nat := 0
  expect : Nat
  exec : Nat := 0
  /-- running signature; failed patterns (R383, R384) -/
  crc : Nat := 0xFFFFFFFF
  fails : Nat := 0
  first : Option Nat := none
  /-- the result registers belong to it -/
  shown : Bool := true
  deriving DecidableEq, Repr

/-- The self-test controller (R373–R387): a test of BIST_RUN and one of BST_START, oldest first. -/
structure BstBlock where
  tests : List Test := []
  deriving DecidableEq, Repr

/-- The input queues of the general check-value units: by unit, the writes that wait, oldest first, each with its
bytes (R389). -/
structure CrcBlock where
  queues : List (List (List Nat)) := [[], [], [], []]
  deriving DecidableEq, Repr

/-- The test access port (R393): TRST_J_N held low, the instruction carried out last, the value it shifts out, and the
lands EXTEST drives. -/
structure JtagBlock where
  held : Bool := true
  op : Option JtagOp := none
  out : Option Nat := none
  lands : Option Nat := none
  deriving DecidableEq, Repr

end Sys2Proof.Machine
end

