-- ==== Sys2Proof/Machine/State.lean ====
section
/-! DEFINITION. The state of the block, the reasons a step can stop, and the state after reset. -/

namespace Sys2Proof.Machine

structure State where
  /-- the commands that wait, oldest first -/
  pending : List Instr := []
  /-- the register file: the value of each field whose value is not its reset value, by `Fld.key` -/
  regs : Cells := []
  /-- write-once fields that have had their write since reset (R9) -/
  locked : Cells := []
  tick : TickBlock := {}
  comp : CompBlock := {}
  eng : EngBlock := {}
  gko : GkoBlock := {}
  scn : ScnBlock := {}
  ring : RingBlock := {}
  link : LinkBlock := {}
  can : CanBlock := {}
  cal : CalBlock := {}
  pix : PixBlock := {}
  skink : SkinkBlock := {}
  life : LifeBlock := {}
  sal : SalBlock := {}
  thm : ThmBlock := {}
  rcd : RecBlock := {}
  flt : FltBlock := {}
  sft : SftBlock := {}
  flash : FlashBlock := {}
  bst : BstBlock := {}
  crc : CrcBlock := {}
  jtag : JtagBlock := {}
  /-- the register file as sampled at the last boundary (set-up registers of R149, R177, R192) -/
  sampled : Cells := []
  /-- messages on their way to the fault collector (R342) -/
  fifo : List Msg := []
  /-- what the last register read answered its accessor (R9, R26) -/
  data : Nat := 0
  /-- the model's own: free values used so far (log 3) -/
  freeCtr : Nat := 0
  deriving DecidableEq, Repr

/-- Why a step stops with a fault. -/
inductive Fault where
  /-- Raised by the meaning of every command whose operands are outside the ranges of `Instr.wf`: no command the hardware
  can meet. Safe: nothing of the spec is claimed there. -/
  | illFormed
  deriving DecidableEq, Repr

/-- Why a command is refused. -/
inductive Refusal where
  /-- A command whose meaning the model does not have. No arm of `exec` answers it. Safe: such a command stops the run. -/
  | notModelled (mnemonic : String)
  deriving DecidableEq, Repr

/-- The state after the first power-on, before T0 (R397, R398, R401): every register at its reset value, `LCS_RESET.CAUSE`
1 for the VSAFE power-on, blank flash. -/
def State.reset : State := { regs := [(0x100 * 32, 1)] }

end Sys2Proof.Machine
end

