-- ==== Sys2Proof/Machine/Ops.lean ====
section
/-! DEFINITION. The operations every meaning is written over: register fields, counters, fault messages, free
values. -/

namespace Sys2Proof.Machine

/-- What register field f holds. -/
def State.rd (s : State) (f : Fld) : Nat := Cells.reg s.regs f

/-- s with v, cut to the field's width, in field f. -/
def State.wr (s : State) (f : Fld) (v : Nat) : State := { s with regs := Cells.setReg s.regs f v }

/-- What set-up field f held at the last boundary, which is what the block works with (R149, R177, R192). -/
def State.smp (s : State) (f : Fld) : Nat := Cells.reg s.sampled f

/-- The module is of stepping A1, to which alone the limitations of R446 apply. -/
def State.isA1 (s : State) : Bool := s.rd LCS_ID_STEPPING == 1

/-- A one-bit field is set. -/
def State.isOn (s : State) (f : Fld) : Bool := s.rd f != 0

/-- s with the integer i in field f, as two's complement of the field's width. -/
def State.wrI (s : State) (f : Fld) (i : Int) : State := s.wr f (unsigned f.width i)

/-- The signed number field f holds. -/
def State.rdI (s : State) (f : Fld) : Int := signed f.width (s.rd f)

/-- `TCK_ROWPOS.ROW` as a fault message carries it: 0x1FF during a bask (R341). -/
def State.msgRow (s : State) : Nat := if s.isOn TCK_ROWPOS_BASK then 0x1FF else s.rd TCK_ROWPOS_ROW

/-- The next fault message of the block, with the tick and row of the moment (R341). -/
def State.msgOf (s : State) (source kind addr : Nat) (injected : Bool) : Msg :=
  { id := s.flt.sent, source := source, kind := kind, addr := addr % 2 ^ 24, row := s.msgRow,
    tick := s.tick.count % 2 ^ 15, injected := injected }

/-- Message m enters the asynchronous FIFO towards the collector (R342). -/
def State.sendMsg (s : State) (m : Msg) : State :=
  { s with fifo := s.fifo ++ [m], flt := { s.flt with sent := s.flt.sent + 1 } }

/-- A fault message is sent (R341). -/
def State.send (s : State) (source kind addr : Nat) : State := s.sendMsg (s.msgOf source kind addr false)

/-- VSAFE is absent: it has fallen below its reset threshold (R398, R404). -/
def State.unpowered (s : State) : Bool := s.life.low.contains 0

/-- A value the spec leaves open, and the state that has used it up. -/
def State.free (s : State) : Nat × State := (Config.freeValue s.freeCtr, { s with freeCtr := s.freeCtr + 1 })

/-- The counters of R356 that are no error counters. -/
def plainCounter (f : Fld) : Bool :=
  [AXL_SWEEP_SWEEPS.key, AXL_NEIGH_SWEEPS.key, GKO_LIST_CNT_TAKEN.key, GKO_TB_STAT_ACCEPTED.key, LNK_CNT_TRAINS.key,
    RNG_CNT_HINTS.key, CAN_RXCNT_COPIES.key, AXL_SAVE_SEQ.key].contains f.key ||
  (List.range 8).any (fun r => (RNG_CMD_CNT_DONE r).key == f.key) ||
  (List.range 7).any (fun l => (CAL_LANE_OFS_RECALS l).key == f.key) || f.key == REC_MINUTES_MINUTES.key ||
  f.key == REC_CYCLES_CYCLES.key

/-- FLT_SAT shows the first counter that saturated since FLAG was cleared (R355). -/
def State.satFlag (s : State) (off : Nat) : State :=
  if s.isOn FLT_SAT_FLAG then s else (s.wr FLT_SAT_ADDR off).wr FLT_SAT_FLAG 1

/-- The offset FLT_SAT shows for a counter: 0 for those of records (R355). -/
def satOffset (f : Fld) : Nat := if f.key = REC_MINUTES_MINUTES.key ∨ f.key = REC_CYCLES_CYCLES.key then 0 else f.off

/-- A counter has just saturated: FLT_SAT shows it (R355), and an error counter's source sends COUNTER_SATURATED
(R356). -/
def State.saturated (s : State) (f : Fld) : State :=
  let s1 := s.satFlag (satOffset f)
  if plainCounter f then s1 else s1.send 0x3F1 0x01 f.off

/-- Counter f counts n more; it stops at all ones (R355). -/
def State.bumpBy (s : State) (f : Fld) (n : Nat) : State :=
  let v := s.rd f
  let v' := satAdd f.width v n
  let s1 := s.wr f v'
  if v' = 2 ^ f.width - 1 ∧ v ≠ v' then s1.saturated f else s1

/-- Counter f counts one more. -/
def State.bump (s : State) (f : Fld) : State := s.bumpBy f 1

/-- A fold of f over 0 … n-1. -/
def upTo {α : Type} (n : Nat) (s : α) (f : α → Nat → α) : α := (List.range n).foldl f s

/-- Entry i of a list of two, A and B, set. -/
def setAt {α : Type} (l : List α) (i : Nat) (v : α) : List α := l.set i v

/-- The scan-out block's fault source of die d (R148). -/
def dieSource (d : Nat) : Nat := 0x06D + d

/-- The word at window offset off as its fields hold it. -/
def State.word (s : State) (off : Nat) : Nat := ((regFields off).map (fun f => s.rd f * 2 ^ f.lo)).sum

/-- A field that keeps the larger of what it holds and v. -/
def State.keepMax (s : State) (f : Fld) (v : Nat) : State := if s.rd f < v then s.wr f v else s

/-- A field that keeps the smaller of what it holds and v. -/
def State.keepMin (s : State) (f : Fld) (v : Nat) : State := if v < s.rd f then s.wr f v else s

/-- A count of n shown in field f: it stops at all ones (R355). -/
def State.wrCount (s : State) (f : Fld) (n : Nat) : State :=
  let v := min (2 ^ f.width - 1) n
  let s1 := s.wr f v
  if v = 2 ^ f.width - 1 ∧ s.rd f ≠ v then s1.saturated f else s1

/-- A counter of a message field has gone from n to n + 1: at all ones FLT_SAT shows it, with no register's offset, and
COUNTER_SATURATED is sent (R355, R356). -/
def State.fieldCount (s : State) (n : Nat) : State :=
  if n + 1 = 0xFFFFFF then (s.satFlag 0).send 0x3F1 0x01 0 else s

/-! ### How a command ends -/

/-- What a command leaves where it would give t: the device is held in reset until T0, and only the commands that `holds`
and `resetsTo` end act before (R398). -/
def State.heldOr (s t : State) : State := if s.life.released then t else s

/-- A well-formed command runs and gives t; another stops. The queue, the life cycle (R328) and the flash (R408) are as
before: only the commands below reach them. -/
def runs (ok : Bool) (s t : State) : Host.Outcome State Fault Refusal :=
  if ok then .next (s.heldOr { t with pending := s.pending, life := s.life, flash := s.flash }) else .fault .illFormed

/-- A command that may program the flash (R408). -/
def programs (ok : Bool) (s t : State) : Host.Outcome State Fault Refusal :=
  if ok then .next (s.heldOr { t with pending := s.pending, life := s.life }) else .fault .illFormed

/-- A command that may program the flash and act on the life cycle (R328, R330). -/
def advances (ok : Bool) (s t : State) : Host.Outcome State Fault Refusal :=
  if ok then .next (s.heldOr { t with pending := s.pending }) else .fault .illFormed

/-- A command that acts in reset too, on what goes on there: the recorder's programming on VSAFE (R365), the TAP (R393). -/
def holds (ok : Bool) (s t : State) : Host.Outcome State Fault Refusal :=
  if ok then .next { t with pending := s.pending, life := s.life } else .fault .illFormed

/-- Power and RESET_N act whatever the device does (R398, R401). -/
def resetsTo (ok : Bool) (s t : State) : Host.Outcome State Fault Refusal :=
  if ok then .next { t with pending := s.pending } else .fault .illFormed

/-- Start-up: the life-cycle state stays as the reset has put it (R328). -/
def boots (ok : Bool) (s t : State) : Host.Outcome State Fault Refusal :=
  if ok then .next { t with pending := s.pending, life := { t.life with state := s.life.state, pending := s.life.pending } }
  else .fault .illFormed

end Sys2Proof.Machine
end

