-- ==== Sys2Proof/Machine/Tick.lean ====
section
/-! DEFINITION. The tick and its sharing between modules (R31–R50, R455): the change of period, the choice of master
and the sync states. -/

namespace Sys2Proof.Machine

/-- The period and bask in force, in µs (R32). -/
def State.period (s : State) : Nat := s.rd TCK_ACTIVE_PERIOD_US
def State.baskUs (s : State) : Nat := s.rd TCK_ACTIVE_BASK_US

/-- The tick now running in SCA cycles, corrections included (R46). -/
def State.tickLength (s : State) : Nat := (320 * (s.tick.run : Int) + s.tick.applied + s.tick.step).toNat

/-- A tick count that stops at all ones of 48 bits (R31). -/
def tickAfter (count n : Nat) : Nat := min (2 ^ 48 - 1) (count + n)

/-- The sync state's number in TCK_SYNC_STAT.STATE (R50). -/
def syncNum : SyncMode → Nat
  | .solo => 0 | .acquire => 1 | .locked => 2 | .holdover => 3 | .master => 4

def syncOf (n : Nat) : SyncMode :=
  if n = 1 then .acquire else if n = 2 then .locked else if n = 3 then .holdover else if n = 4 then .master else .solo

/-- The module's sync state. -/
def State.sync (s : State) : SyncMode := syncOf (s.rd TCK_SYNC_STAT_STATE)

/-- The module follows a master (R33). -/
def isFollower : SyncMode → Bool
  | .acquire => true | .locked => true | .holdover => true | .solo => false | .master => false

/-- The module's own system index (R22). -/
def State.ownIdx (s : State) : Nat := s.rd TCK_SYNC_STAT_OWN_IDX

/-- LOSS_TICKS; 0 acts as 1 (R50). -/
def State.lossTicks (s : State) : Nat := max 1 (s.rd TCK_SYNC_CFG_LOSS_TICKS)

/-- A pending change is dropped (R33). -/
def State.dropChange (s : State) : State :=
  match s.tick.change with
  | none => s
  | some _ => ({ s with tick := { s.tick with change := none } }.wr TCK_APPLY_PENDING 0).wr TCK_APPLY_ERR 1

/-- The module takes sync state m under master idx (R33, R48). A change its former master announced is not its own, and
a release is put into frames by the master alone (R33, R287). -/
def State.setSync (s : State) (m : SyncMode) (idx : Nat) : State :=
  let stays := isFollower m && isFollower s.sync && idx == s.rd TCK_SYNC_STAT_MASTER_IDX
  let s1 := (s.wr TCK_SYNC_STAT_STATE (syncNum m)).wr TCK_SYNC_STAT_MASTER_IDX idx
  let s2 := { s1 with
    tick := { s1.tick with
      inRun := 0, outRun := 0, lockedTicks := 0, lostTicks := 0
      announced := if stays then s1.tick.announced else none
      masterPer := if stays then s1.tick.masterPer else none
      lastCorr := if isFollower m then s1.tick.lastCorr else 0 }
    link := { s1.link with release := if m = .master then s1.link.release else none } }
  if isFollower m then s2.dropChange else s2

/-- Peer i of the module. -/
def State.peer (s : State) (i : Nat) : Peer := s.tick.peers.getD i {}

def State.setPeer (s : State) (i : Nat) (p : Peer) : State :=
  { s with tick := { s.tick with peers := s.tick.peers.set i p } }

/-- Module i is present to this one (R44). -/
def State.present (s : State) (i : Nat) : Bool :=
  i == s.ownIdx ||
  match (s.peer i).age with
  | none => false
  | some a => decide (a ≤ s.lossTicks)

/-- The sync state module i is known to be in. -/
def State.modeOf (s : State) (i : Nat) : SyncMode := if i = s.ownIdx then s.sync else (s.peer i).mode

/-- Some present module is MASTER or LOCKED (R45). -/
def State.anyLeader (s : State) : Bool :=
  (List.range 4).any (fun i => s.present i && (s.modeOf i == .master || s.modeOf i == .locked))

/-- This module is eligible (R45). -/
def State.eligibleNow (s : State) : Bool :=
  s.rd TCK_CTL_SYNC_ROLE == 0 &&
  (s.sync == .master || decide (s.rd TCK_SYNC_CFG_ELIG_TICKS ≤ s.tick.lockedTicks) || !s.anyLeader) &&
  (s.tick.heardAny || match s.tick.sinceTrained with
    | none => false
    | some n => decide (s.lossTicks + 1 ≤ n))

/-- The lowest present eligible index (R45). -/
def State.chosen (s : State) : Option Nat :=
  (List.range 4).find? (fun i =>
    s.present i && (if i = s.ownIdx then s.eligibleNow else (s.peer i).eligible))

/-- Another module is present. -/
def State.company (s : State) : Bool := (List.range 4).any (fun i => i != s.ownIdx && s.present i)

/-- |e| ≤ 2 µs of the last frame of module i (R48). -/
def State.inWindow (s : State) (i : Nat) : Bool :=
  match (s.peer i).err with
  | none => false
  | some e => decide (e.natAbs ≤ 640)

/-- SYNC_LOST, why 0 for a left window and 1 for stopped frames (R455). -/
def State.syncLost (s : State) (why : Nat) : State :=
  (s.bump TCK_SYNC_CNT_LOSS).send 0x200 0x01 (s.rd TCK_SYNC_STAT_MASTER_IDX + 4 * why)

/-- MASTER_CHANGED from the present master to idx (R455). -/
def State.masterChanged (s : State) (idx : Nat) : State :=
  (s.bump TCK_SYNC_CNT_MASTER_CHG).send 0x200 0x02 (idx + 4 * s.rd TCK_SYNC_STAT_MASTER_IDX)

/-- The sync state after the choice of R45 names module c, or none (R45, R48). A module in role SOLO ignores the
system link. -/
def State.follow (s : State) (c : Option Nat) : State :=
  if s.rd TCK_CTL_SYNC_ROLE = 2 then
    (if s.sync = .solo then s else s.setSync .solo s.ownIdx)
  else
    match c with
    | none => if s.sync = .solo then s else s.setSync .solo s.ownIdx
    | some i =>
      if i = s.ownIdx then
        match s.sync with
        | .master => s
        | .solo => if s.company then s.setSync .master i else s
        | _ => (s.masterChanged i).setSync .master i
      else
        match s.sync with
        | .solo => s.setSync .acquire i
        | .master => (s.masterChanged i).setSync (if s.inWindow i then .locked else .acquire) i
        | _ => if s.rd TCK_SYNC_STAT_MASTER_IDX = i then s else (s.masterChanged i).setSync .acquire i

/-- TCK_SYNC_STAT.PRESENT (R44). -/
def State.presentMask (s : State) : Nat := (List.range 4).foldl (fun a i => a + (if s.present i then 2 ^ i else 0)) 0

/-- TCK_SYNC_STAT.PERIOD_DIFF: the period of the master followed is not the own one (R47). -/
def State.periodDiff (s : State) : Bool :=
  isFollower s.sync && s.tick.masterPer.any (fun p => p != s.rd TCK_PERIOD_PERIOD_US)

/-- MASTER_SELECT: each boundary sets the master (R45). In HOLDOVER the silent master is given up only when
HOLDOVER ends (R48). -/
def State.selectMaster (s : State) : State :=
  if s.sync = .holdover ∧ ¬ s.present (s.rd TCK_SYNC_STAT_MASTER_IDX) then s else s.follow s.chosen

/-- The part of a boundary that concerns frames of the master (R48): a tick that ends without one. -/
def State.frameWatch (s : State) : State :=
  let t := s.tick
  let s1 :=
    match s.sync with
    | .acquire => if t.heard then s else s.setSync .holdover (s.rd TCK_SYNC_STAT_MASTER_IDX)
    | .locked => if t.heard then s else s.setSync .holdover (s.rd TCK_SYNC_STAT_MASTER_IDX)
    | _ => s
  let t1 := s1.tick
  { s1 with tick := { t1 with
      heard := false
      lostTicks := if s1.sync = .holdover then t1.lostTicks + 1 else 0
      lockedTicks := if s1.sync = .locked then min 255 (t1.lockedTicks + 1) else 0
      sinceTrained := t1.sinceTrained.map (fun n => min 255 (n + 1))
      peers := t1.peers.map (fun p => { p with age := p.age.map (fun a => min 255 (a + 1)) }) } }

/-- Period p and bask b come into force (R33, R50). -/
def State.setPeriod (s : State) (p b : Nat) : State :=
  ((s.wr TCK_ACTIVE_PERIOD_US p).wr TCK_ACTIVE_BASK_US b).wr TCK_ROWTIME_ROW_CYC (p - b)

/-- A scheduled change that is due at boundary k comes into force (R33). -/
def State.changeDue (s : State) (k : Nat) : State :=
  match s.tick.change with
  | none => s
  | some (p, b, at') =>
    if at' = k then
      ({ s with tick := { s.tick with change := none } }.wr TCK_APPLY_PENDING 0).setPeriod p b
    else s

/-- The period and bask that are in force at the boundary to come, as Gecko uses them (R109). -/
def State.nextTiming (s : State) : Nat × Nat :=
  match s.tick.change with
  | some (p, b, at') => if at' = tickAfter s.tick.count 1 then (p, b) else (s.period, s.baskUs)
  | none =>
    match s.tick.announced with
    | some (p, 1) => (p, s.rd TCK_BASK_BASK_US)
    | _ => (s.period, s.baskUs)

/-- TCK_APPLY.GO: a write of word v (R33). -/
def State.tckApplyGo (s : State) (v : Nat) : State :=
  let s0 := if bitOf v 2 then s.wr TCK_APPLY_ERR 0 else s
  if ¬ bitOf v 0 then s0
  else
    let p := s.rd TCK_PERIOD_PERIOD_US
    let b := s.rd TCK_BASK_BASK_US
    if isFollower s.sync ∨ p < 2000 ∨ 5000 < p ∨ b < 100 ∨ 800 < b then s0.wr TCK_APPLY_ERR 1
    else
      let at' := tickAfter s.tick.count 3
      ({ s0 with tick := { s0.tick with change := some (p, b, at') } }.wr TCK_APPLY_PENDING 1).wr TCK_APPLY_AT_LO at'

/-- TICK_CHANGE_IN_FORCE: at the boundary the change was scheduled for (R33). -/
def State.tickChangeInForce (s : State) : State := s.changeDue (tickAfter s.tick.count 1)

/-- A read of TCK_COUNT_LO (R50). -/
def State.tckCountLoRead (s : State) : State := s.wr TCK_COUNT_HI_COUNT (s.tick.count / 2 ^ 32)

/-- TCK_COUNT_LO_READ: the count's low 32 bits are answered, the rest latched (R50). -/
def State.countLoRead (s : State) : State := { s.tckCountLoRead with data := s.tick.count % 2 ^ 32 }

/-- HOLDOVER lasts LOSS_TICKS ticks: SYNC_LOST, and the master is chosen again without a phase step (R48). -/
def State.holdoverExpiry (s : State) : State :=
  if s.sync = .holdover ∧ s.lossTicks ≤ s.tick.lostTicks then
    let s1 := s.syncLost 1
    let s2 := s1.follow s1.chosen
    if s2.sync = .holdover then s2.setSync .acquire (s2.rd TCK_SYNC_STAT_MASTER_IDX) else s2
  else s

/-- A module becomes eligible (R45). -/
def State.eligibilityReached (s : State) : State := if s.eligibleNow then s.selectMaster else s

/-- TICK_OUT, c SCA cycles after the last boundary (R49): high for 1 µs in mode 0, and in mode 1 for the bask with its
correction; low in reset (R404). -/
def State.tickOutLevel (s : State) (c : Nat) : Bool :=
  s.life.released && s.isOn TCK_CTL_TOUT_EN && decide (c < if s.isOn TCK_CTL_TOUT_MODE then s.tick.bask else 320)

end Sys2Proof.Machine
end

