-- ==== Sys2Proof/Machine/Rings.lean ====
section
/-! DEFINITION. The ring engine: host reads and their tags (R240, R278), completions and the write-back area (R234,
R236, R242, R243, R248), events (R250), the doorbell page (R233, R235, R237) and the fetch of descriptors (R239). -/

namespace Sys2Proof.Machine

/-- A packet joins the uplink's queue. -/
def State.emit (s : State) (p : UpPacket) : State := { s with link := { s.link with upQueue := s.link.upQueue ++ [p] } }

/-- The link carries or will carry packets: L0, L1 or RECOVERY, and not DOWN (R237). -/
def State.linkUp (s : State) : Bool :=
  (s.rd LNK_STAT_STATE == 4 || s.rd LNK_STAT_STATE == 5) && !s.isOn LNK_STAT_DOWN

/-- A 64-bit host address from a register pair. -/
def State.hostAddr (s : State) (lo hi : Fld) : Nat := s.rd hi * 2 ^ 32 + s.rd lo * 2 ^ lo.lo

/-- Words cut into payloads of at most 64 (R274). -/
def payloads : Nat → List Nat → List (List Nat)
  | 0, _ => []
  | n + 1, ws => if ws.isEmpty then [] else ws.take 64 :: payloads n (ws.drop 64)

/-- Words written to host memory by posted writes. -/
def State.hostWrite (s : State) (addr : Nat) (words : List Nat) : State :=
  ((payloads words.length words).foldl (fun a w => (a.1.emit (.write a.2 w), a.2 + 4 * w.length)) (s, addr)).1

/-- The aligned word reads that cover bytes [addr, addr + bytes), none crossing a 4 KiB boundary (R274). -/
def readPlan (addr bytes : Nat) : List (Nat × Nat) :=
  if bytes = 0 then []
  else
    let p0 := addr / 4096
    (List.range ((addr + bytes - 1) / 4096 + 1 - p0)).map (fun i =>
      let lo := max (addr / 4 * 4) (4096 * (p0 + i))
      let hi := min (ceilDiv (addr + bytes) 4 * 4) (4096 * (p0 + i + 1))
      (lo, (hi - lo) / 4))

/-- The read tags neither in use nor in quarantine (R240, R278). -/
def State.freeTags (s : State) : List Nat :=
  (List.range 256).filter (fun t => !s.link.tags.any (fun u => u.tag == t) && !s.link.quarantine.contains t)

/-- The tag a read takes: the lowest free one, the last one being left for a poll (R240). -/
def State.tagFor (s : State) (poll : Bool) : Option Nat :=
  match s.freeTags with
  | [] => none
  | [t] => if poll ∨ s.link.tags.any (fun u => u.req == .poll) then some t else none
  | t :: _ :: _ => some t

/-- A request of the ring engine, the poll aside (R240). -/
def Req.ofRings : Req → Bool
  | .desc _ _ _ => true | .arg _ => true | .poll => false | .surf _ => false

/-- A request of the ring engine, the poll included. -/
def Req.byRings : Req → Bool
  | .surf _ => false | .poll => true | .desc _ _ _ => true | .arg _ => true

/-- The ring engine may take another tag: RNG_CFG.TAGS, held to 8–64 (R240). -/
def State.ringTagFree (s : State) : Bool :=
  decide ((s.link.tags.filter (fun u => u.req.ofRings)).length < heldN 8 64 (s.rd RNG_CFG_TAGS))

/-- Chameleon may take another tag: 191 are its own (R240). -/
def State.surfTagFree (s : State) : Bool :=
  decide ((s.link.tags.filter (fun u => !u.req.byRings)).length < 191)

/-- A host read goes out under a free tag; the state is unchanged where there is none for it. -/
def State.hostRead (s : State) (req : Req) (addr words : Nat) : State :=
  match s.tagFor (req == .poll) with
  | none => s
  | some t =>
    { s with link := { s.link with
        tags := s.link.tags ++ [{ tag := t, req := req, addr := addr, words := words }]
        upQueue := s.link.upQueue ++ [.read t addr words] } }

/-- A tag leaves use; where its completion never came it is quarantined (R278). -/
def State.freeTagUse (s : State) (t : Nat) (quarantine : Bool) : State :=
  { s with link := { s.link with
      tags := s.link.tags.filter (fun u => u.tag != t)
      quarantine := if quarantine then s.link.quarantine ++ [t] else s.link.quarantine } }

/-- The reads p names are given up, their tags quarantined (R278). -/
def State.giveUpReads (s : State) (p : Req → Bool) : State :=
  (s.link.tags.filter (fun u => p u.req)).foldl (fun a u => a.freeTagUse u.tag true) s

/-- Ring r of the ring engine. -/
def State.ringAt (s : State) (r : Nat) : Ring := s.ring.rings.getD r {}

def State.setRing (s : State) (r : Nat) (x : Ring) : State :=
  { s with ring := { s.ring with rings := s.ring.rings.set r x } }

/-- Ring sizes in entries (R232): SIZE_LOG2 held to 4–12. -/
def ringSize (log2 : Nat) : Nat := 2 ^ heldN 4 12 log2

def State.cmdSize (s : State) (r : Nat) : Nat := ringSize (s.rd (RNG_CMD_CFG_SIZE_LOG2 r))
def State.cplSize (s : State) (r : Nat) : Nat := ringSize (s.rd (RNG_CMD_CFG_CPL_SIZE_LOG2 r))
def State.evtSize (s : State) : Nat := ringSize (s.rd RNG_EVT_CFG_SIZE_LOG2)

/-- a − b modulo 2^32 (R233). -/
def diff32 (a b : Nat) : Nat := (a + 2 ^ 32 - b % 2 ^ 32) % 2 ^ 32

/-- The phase bit of entry i of a ring of n entries (R234). -/
def phaseOf (i n : Nat) : Nat := if i / n % 2 = 0 then 1 else 0

/-- Completion ring r is full (R243). -/
def State.cplFull (s : State) (r : Nat) : Bool :=
  decide (s.cplSize r ≤ diff32 (s.ringAt r).cplProd (s.ringAt r).cplCons)

/-- The 16 bytes of a completion entry (R248). -/
def cplWords (phase : Nat) (c : Cpl) : List Nat :=
  [phase + 2 * (c.status % 16) + 256 * (c.opcode % 256) + 65536 * (c.cookie % 65536),
    c.slot % 4096 + 4096 * (c.ring % 8) + 65536 * (c.detail % 65536), c.tick % 2 ^ 32, c.result % 2 ^ 32]

/-- A descriptor leaves flight. -/
def State.dropFlight (s : State) (id : Nat) : State :=
  { s with ring := { s.ring with flights := s.ring.flights.filter (fun f => f.id != id) } }

def State.flight (s : State) (id : Nat) : Option Flight := s.ring.flights.find? (fun f => f.id == id)

def State.setFlight (s : State) (f : Flight) : State :=
  { s with ring := { s.ring with flights := s.ring.flights.map (fun g => if g.id = f.id then f else g) } }

/-- DRAINING stays set until the ring has no descriptor in flight (R245). -/
def State.drained (s : State) (r : Nat) : State :=
  if s.ring.flights.any (fun f => f.ring == r) ∨ (s.ringAt r).fetching then s else s.wr (RNG_CMD_STAT_DRAINING r) 0

/-- A completion as it is written: one that belongs to no boundary carries the tick count of that moment (R248). -/
def Cpl.atTick (c : Cpl) (n : Nat) : Cpl := if c.bound then c else { c with tick := n % 2 ^ 32 }

/-- A completion entry is written into its ring (R234, R242). -/
def State.writeCpl (s : State) (c : Cpl) : State :=
  let x := s.ringAt c.ring
  let n := s.cplSize c.ring
  let s1 := s.hostWrite (s.hostAddr (RNG_CPL_BASE_LO_ADDR c.ring) (RNG_CPL_BASE_HI_ADDR c.ring) + 16 * (x.cplProd % n))
    (cplWords (phaseOf x.cplProd n) (c.atTick s.tick.count))
  let s2 := s1.setRing c.ring { x with cplProd := (x.cplProd + 1) % 2 ^ 32 }
  let s3 := { s2 with ring := { s2.ring with
    batch := if bitOf s2.ring.batch c.ring then s2.ring.batch else s2.ring.batch + 2 ^ c.ring
    hintDue := s2.ring.hintDue || c.hint } }
  let s4 := (s3.bump (RNG_CMD_CNT_DONE c.ring))
  let s5 := if c.status = 0 then s4 else s4.bump (RNG_CMD_CNT_NOT_OK c.ring)
  (s5.dropFlight c.id).drained c.ring

/-- A completion that falls due is written if its ring has room, queued if it is full (R243), discarded if the link is
down (R246). -/
def State.putCpl (s : State) (c : Cpl) : State :=
  if s.isOn LNK_STAT_DOWN then (s.dropFlight c.id).drained c.ring
  else if s.cplFull c.ring ∨ (s.ringAt c.ring).queue ≠ [] then
    let x := s.ringAt c.ring
    (s.setRing c.ring { x with queue := x.queue ++ [c] }).wr (RNG_CMD_STAT_CPL_FULL c.ring) 1
  else s.writeCpl c

/-- A completion in its place among those of one boundary: by ring, and within a ring in the order of fetch (R242). -/
def insertCpl (c : Cpl) : List Cpl → List Cpl
  | [] => [c]
  | d :: t => if c.ring < d.ring ∨ (c.ring = d.ring ∧ c.id < d.id) then c :: d :: t else d :: insertCpl c t

/-- The completion of descriptor id falls due. Those of one boundary are gathered first (R242); the TICK of a RECORDER_READ
is that of its read instant (R253). -/
def State.endFlight (s : State) (id status detail result : Nat) : State :=
  match s.flight id with
  | none => s
  | some f =>
    if f.ended then s
    else
      let bound := s.ring.gather || (f.opcode == 11 && status == 0)
      let c : Cpl := ⟨id, f.ring, f.slot, f.opcode, f.cookie, f.hint, status, detail, s.tick.count % 2 ^ 32, result, bound⟩
      let s1 := s.setFlight { f with ended := true, todo := [] }
      if s.ring.gather then { s1 with ring := { s1.ring with due := insertCpl c s1.ring.due } } else s1.putCpl c

/-- The completions of a boundary are written (R237, R242). -/
def State.writeDue (s : State) : State :=
  s.ring.due.foldl State.putCpl { s with ring := { s.ring with gather := false, due := [] } }

/-- The write-back area (R236), unless the link is lost. -/
def State.writeBack (s : State) : State :=
  let rows := (List.range 8).map (fun r => s.rd (RNG_CMD_CONS_INDEX r)) ++
    (List.range 8).map (fun r => (s.ringAt r).cplProd) ++ [s.rd RNG_EVT_PROD_INDEX, s.tick.count % 2 ^ 32] ++
    List.replicate 14 0
  if s.isOn LNK_STAT_DOWN then s else s.hostWrite (s.hostAddr RNG_WB_LO_ADDR RNG_WB_HI_ADDR) rows

/-- The end of a batch of completion and event writes: the write-back area, and EVENT_HINT where a descriptor of the
batch asked for it (R236, R242, R279, R280). -/
def State.endBatch (s : State) : State :=
  if s.ring.batch = 0 then s
  else
    let s1 := s.writeBack
    let s2 := if s1.ring.hintDue then s1.emit (.msg 0x04 [s1.ring.batch]) else s1
    { s2 with ring := { s2.ring with batch := 0, hintDue := false } }

/-- A completion outside a boundary: a batch of its own. -/
def State.complete (s : State) (id status detail result : Nat) : State := (s.endFlight id status detail result).endBatch

/-- Completions queued for ring r are written while there is room (R243). -/
def State.writeQueued (s : State) (r : Nat) : State :=
  let s1 := (s.ringAt r).queue.foldl (fun a c =>
    if a.cplFull r then a
    else (a.setRing r { a.ringAt r with queue := (a.ringAt r).queue.drop 1 }).writeCpl c) s
  if (s1.ringAt r).queue = [] ∧ ¬ s1.cplFull r then s1.wr (RNG_CMD_STAT_CPL_FULL r) 0 else s1

/-- Ring r halts (R245): why 1 index, 2 read failure, 3 link loss. -/
def State.haltRing (s : State) (r why : Nat) : State :=
  (s.wr (RNG_CMD_STAT_HALTED r) 1).wr (RNG_CMD_STAT_HALT_WHY r) why

/-- SEQ of the next event, LOST of the next one written, and that a run of drops is on (R250). -/
def State.setEvt (s : State) (seq lost : Nat) (run : Bool) : State :=
  { s with ring := { s.ring with evtSeq := seq, evtLost := lost, evtRun := run } }

/-- An event that cannot be written is dropped (R250). -/
def State.dropEvent (s : State) : State :=
  let e := s.ring
  let s1 := s.setEvt ((e.evtSeq + 1) % 65536) (min 255 (e.evtLost + 1)) true
  let s2 := s1.bump RNG_EVT_LOST_LOST
  if e.evtRun then s2 else s2.send 0x09E 0x04 0

/-- The event ring is full (R250). -/
def State.evtFull (s : State) : Bool := decide (s.evtSize ≤ diff32 (s.rd RNG_EVT_PROD_INDEX) s.ring.evtCons)

/-- An event entry of type ty, severity sev, with word 1 and the message words, is written or dropped (R250). Before
the ring is first enabled after reset an event leaves no trace. -/
def State.postEvent (s : State) (ty sev inj w1 lo hi : Nat) : State :=
  if ¬ s.ring.evtEver then s
  else if ¬ s.isOn RNG_EVT_CFG_EN ∨ s.ring.evtHalted ∨ s.evtFull ∨ s.isOn LNK_STAT_DOWN then s.dropEvent
  else
    let i := s.rd RNG_EVT_PROD_INDEX
    let w0 := phaseOf i s.evtSize + 2 * ty + 16 * sev + 128 * inj + 256 * s.ring.evtLost + 65536 * s.ring.evtSeq
    let s1 := s.hostWrite (s.hostAddr RNG_EVT_BASE_LO_ADDR RNG_EVT_BASE_HI_ADDR + 16 * (i % s.evtSize))
      [w0, w1 % 2 ^ 32, lo % 2 ^ 32, hi % 2 ^ 32]
    let s2 := s1.wr RNG_EVT_PROD_INDEX (i + 1)
    { s2 with ring := { s2.ring with
        evtSeq := (s2.ring.evtSeq + 1) % 65536
        evtLost := 0
        evtRun := false
        batch := if bitOf s2.ring.batch 8 then s2.ring.batch else s2.ring.batch + 256 } }

/-- A poll starts, where the link allows one (R237): one read of page bytes 0x00–0x43. -/
def State.startPoll (s : State) : State :=
  if ¬ s.isOn RNG_CTL_EN ∨ ¬ s.linkUp then s
  else if s.ring.polling then { s with ring := { s.ring with pollAgain := true } }
  else
    let s1 := s.hostRead .poll (s.hostAddr RNG_DB_LO_ADDR RNG_DB_HI_ADDR) 17
    { s1 with ring := { s1.ring with polling := (s.tagFor true).isSome } }

/-- Argument reads of descriptors go out while the ring engine has tags (R240). -/
def State.pumpArgs (s : State) : Nat → State
  | 0 => s
  | n + 1 =>
    match s.ring.flights.find? (fun f => !f.todo.isEmpty) with
    | none => s
    | some f =>
      match f.todo with
      | [] => s
      | (a, w) :: rest =>
        if s.ringTagFree ∧ (s.tagFor false).isSome then
          ((s.hostRead (.arg f.id) a w).setFlight { f with todo := rest, waiting := f.waiting + 1 }).pumpArgs n
        else s

def State.setCal (s : State) (x : CalBlock) : State := { s with cal := x }

/-- CAL_USER_STAT and USER_DIRTY show what runs. -/
def State.showCal (s : State) : State :=
  let s1 := (s.wr CAL_STAT_USER_DIRTY (flag (s.cal.dirtyTrim || s.cal.dirtyMap)))
  match s.cal.write with
  | none => ((s1.wr CAL_USER_STAT_BUSY 0).wr CAL_USER_STAT_PHASE 0).wr CAL_USER_STAT_TILEROW 0
  | some w => ((s1.wr CAL_USER_STAT_BUSY 1).wr CAL_USER_STAT_PHASE w.phase).wr CAL_USER_STAT_TILEROW w.row

def State.setWrite (s : State) (w : Option CalWrite) : State := (s.setCal { s.cal with write := w }).showCal

/-- Descriptor id starts to read bytes of host memory at addr; while the link is lost it ends ABORTED (R246), and a calibration
write with it (R228). -/
def State.startArgs (s : State) (id addr bytes : Nat) : State :=
  match s.flight id with
  | none => s
  | some f =>
    if s.isOn LNK_STAT_DOWN then
      (if f.opcode = 9 then s.setWrite none else s).endFlight id 8 0 0
    else (s.setFlight { f with todo := readPlan addr bytes, base := addr }).pumpArgs 64

/-- Descriptors in flight of the rings p names, counting those whose fetch is under way (R239). -/
def State.flightsOf (s : State) (p : Nat → Bool) : Nat :=
  s.ring.flights.countP (fun f => p f.ring) + (s.link.tags.map (fun u => match u.req with
    | .desc r _ c => if p r then c else 0
    | _ => 0)).sum

/-- All descriptors in flight (R239). -/
def State.inFlight (s : State) : Nat := s.flightsOf (fun _ => true)

/-- Ring r has a descriptor held back (R241). -/
def State.hasHeld (s : State) (r : Nat) : Bool := s.ring.flights.any (fun f => f.ring == r && f.stage == .held && !f.ended)

/-- Ring r may fetch (R239). -/
def State.mayFetch (s : State) (r : Nat) : Bool :=
  s.isOn RNG_CTL_EN && s.isOn (RNG_CMD_CFG_EN r) && !s.isOn (RNG_CMD_STAT_HALTED r) && !s.cplFull r && !s.hasHeld r &&
    !(s.ringAt r).fetching && s.linkUp && s.rd (RNG_CMD_CONS_INDEX r) != (s.ringAt r).prod

/-- One ring's share of a fetch round: up to 8 descriptors in one read (R239); where no tag is free for it the rounds go on
once there is one. -/
def State.fetchRing (s : State) (r : Nat) : State :=
  if ¬ s.mayFetch r then s
  else if ¬ s.ringTagFree ∨ s.tagFor false = none then { s with ring := { s.ring with tagWait := true } }
  else
    let cons := s.rd (RNG_CMD_CONS_INDEX r)
    let n := s.cmdSize r
    let addr := s.hostAddr (RNG_CMD_BASE_LO_ADDR r) (RNG_CMD_BASE_HI_ADDR r) + 32 * (cons % n)
    let k := min (min 8 (diff32 (s.ringAt r).prod cons)) (min (min (n - cons % n) ((4096 - addr % 4096) / 32))
      (256 - s.inFlight))
    if k = 0 then s
    else (s.hostRead (.desc r cons k) addr (8 * k)).setRing r { s.ringAt r with fetching := true }

/-- The rings in the order a round serves them: PRIO, then ring number (R239). -/
def State.ringOrder (s : State) : List Nat :=
  (List.range 8).flatMap (fun p => (List.range 8).filter (fun r => s.rd (RNG_CMD_CFG_PRIO r) == p))

/-- A fetch round (R239). -/
def State.fetchRound (s : State) : State :=
  s.ringOrder.foldl State.fetchRing { s with ring := { s.ring with tagWait := false } }

/-- A tag of the ring engine is free again: rounds that waited for one go on (R239). -/
def State.fetchMore (s : State) : State := if s.ring.tagWait then s.fetchRound else s

/-- Every slot a fetched batch names becomes a flight (R239). -/
def State.addFlight (s : State) (ring slot opcode rsvd : Nat) (fence hint : Bool) (cookie : Nat) (args : List Nat) : State :=
  { s with ring := { s.ring with
      nextId := s.ring.nextId + 1
      flights := s.ring.flights ++ [{ id := s.ring.nextId, ring := ring, slot := slot, opcode := opcode, rsvd := rsvd, fence := fence,
                                      hint := hint, cookie := cookie, args := args, stage := .fetched }] } }

/-- RING_INDEX (R255): ring, completion side, event ring. -/
def State.ringIndexFault (s : State) (r side evt : Nat) : State := s.send 0x09E 0x01 (r + 8 * side + 16 * evt)

/-- The completion consumer index of ring r as read (R233): one that counts entries never written halts the ring. A halted
ring's index is read too, since its completions are written as usual (R243, R245). -/
def State.takeCplCons (s : State) (r c : Nat) : State :=
  let x := s.ringAt r
  if s.cplSize r < diff32 x.cplProd c then
    (if s.rd (RNG_CMD_STAT_HALT_WHY r) = 1 then s else (s.haltRing r 1).ringIndexFault r 1 0)
  else s.setRing r { x with cplCons := c }

/-- The command producer index of ring r as read (R233). -/
def State.takeCmdProd (s : State) (r p : Nat) : State :=
  if ¬ s.isOn (RNG_CMD_CFG_EN r) ∨ s.isOn (RNG_CMD_STAT_HALTED r) then s
  else if s.cmdSize r < diff32 p (s.rd (RNG_CMD_CONS_INDEX r)) then (s.haltRing r 1).ringIndexFault r 0 0
  else s.setRing r { s.ringAt r with prod := p }

/-- The event consumer index as read (R233, R245). -/
def State.takeEvtCons (s : State) (c : Nat) : State :=
  if ¬ s.isOn RNG_EVT_CFG_EN ∨ s.ring.evtHalted then s
  else if s.evtSize < diff32 (s.rd RNG_EVT_PROD_INDEX) c then
    { s with ring := { s.ring with evtHalted := true } }.ringIndexFault 0 0 1
  else { s with ring := { s.ring with evtCons := c } }

/-- The doorbell page as read by a poll, 17 words (R233, R235), for the rings that are enabled or draining. -/
def State.takeDoorbell (s : State) (w : List Nat) : State :=
  (upTo 8 s (fun a r =>
    if a.isOn (RNG_CMD_CFG_EN r) ∨ a.isOn (RNG_CMD_STAT_DRAINING r) then
      (a.takeCmdProd r (w.getD r 0)).takeCplCons r (w.getD (8 + r) 0)
    else a)).takeEvtCons (w.getD 16 0)

/-- A poll read has ended; one more starts where a hint asked for it (R237). -/
def State.pollEnded (s : State) : State :=
  let again := s.ring.pollAgain
  let s1 := { s with ring := { s.ring with polling := false, pollAgain := false } }
  if again then s1.startPoll else s1

/-- DOORBELL_HINT (R237): counted, and ignored otherwise while HINT_EN is 0. -/
def State.doorbellHint (s : State) (mask : Nat) : State :=
  let s1 := s.bump RNG_CNT_HINTS
  if s1.isOn RNG_CTL_HINT_EN then (s1.wr RNG_CNT_HINT_MASK mask).startPoll else s1

/-- CPL_RING_RETRY: the device polls again while completion ring r is full (R243). -/
def State.cplRetry (s : State) (r : Nat) : State := if s.cplFull r then s.startPoll else (s.writeQueued r).endBatch

/-- CPL_STALL (R243): once per run. -/
def State.cplStall (s : State) (r : Nat) : State :=
  let x := s.ringAt r
  if max 1 (s.rd RNG_CFG_CPL_STALL_TICKS) ≤ x.fullTicks ∧ ¬ x.stallSent then
    (s.setRing r { x with stallSent := true }).send 0x09E 0x03 r
  else s

/-- The rings' part of a boundary beside completions: full rings are counted (R243). -/
def State.countFull (s : State) : State :=
  upTo 8 s (fun a r =>
    let x := a.ringAt r
    if a.cplFull r then a.setRing r { x with fullTicks := min 255 (x.fullTicks + 1) }
    else a.setRing r { x with fullTicks := 0, stallSent := false })

/-- R245: EN written to 0. Held-back and not yet accepted descriptors end ABORTED, an armed COMMIT excepted. -/
def State.ringDisable (s : State) (r : Nat) : State :=
  let s1 := s.wr (RNG_CMD_CFG_EN r) 0
  let s2 := s1.ring.flights.foldl (fun a f =>
    if f.ring = r ∧ ¬ f.ended ∧ (f.stage = .fetched ∨ f.stage = .held ∨ f.stage = .working) then a.endFlight f.id 8 0 0
    else a) s1
  let s3 := if s2.ring.flights.any (fun f => f.ring == r) ∨ (s2.ringAt r).fetching then s2.wr (RNG_CMD_STAT_DRAINING r) 1 else s2
  s3.endBatch

/-- R245: EN written to 1. A fetch under way is given up: its descriptors are those of the indices before. -/
def State.ringEnable (s : State) (r : Nat) : State :=
  if s.isOn (RNG_CMD_STAT_DRAINING r) then s.wr RNG_STAT_CFG_ERR 1
  else
    let s1 := (((s.wr (RNG_CMD_CFG_EN r) 1).wr (RNG_CMD_CONS_INDEX r) 0).wr (RNG_CMD_STAT_HALTED r) 0).wr
      (RNG_CMD_STAT_HALT_WHY r) 0
    let s2 := s1.giveUpReads (fun q => match q with
      | .desc k _ _ => k == r
      | _ => false)
    s2.setRing r { s.ringAt r with prod := 0, cplCons := 0, cplProd := 0, fetching := false }

/-- Event entries that a lost link leaves undelivered are dropped events (R246, R250): n of them. -/
def State.loseEvents (s : State) (n : Nat) : State :=
  if n = 0 then s
  else
    let e := s.ring
    let s1 := (upTo n s (fun a _ => a.bump RNG_EVT_LOST_LOST)).setEvt e.evtSeq (min 255 (e.evtLost + n)) true
    if e.evtRun then s1 else s1.send 0x09E 0x04 0

/-- R245 for the event ring. -/
def State.evtEnable (s : State) : State :=
  let s1 := (s.wr RNG_EVT_CFG_EN 1).wr RNG_EVT_PROD_INDEX 0
  { s1 with ring := { s1.ring with evtEver := true, evtCons := 0, evtHalted := false } }

def State.evtDisable (s : State) : State := s.wr RNG_EVT_CFG_EN 0

end Sys2Proof.Machine
end

