-- ==== Sys2Proof/Machine/Compose.lean ====
section
/-! DEFINITION. Chameleon: surface slots and layers (R51–R55, R86, R87), their descriptors (R55, R65, R71, R108,
R253), the fetch of host surfaces (R62, R78, R81), composition (R66–R70), the commit (R73–R80) and the freeze
detector (R81, R82). -/

namespace Sys2Proof.Machine

/-- Bytes of the local surface area (R63, R84). -/
def areaSize : Nat := 1507328

/-- The binding of slot i, active or shadow (R86). -/
def State.surf (s : State) (active : Bool) (i : Nat) : Surf :=
  if active then
    { addr := s.rd (CMP_SURF_ADDR_HI_ADDR i) * 2 ^ 32 + s.rd (CMP_SURF_ADDR_LO_ADDR i), w := s.rd (CMP_SURF_GEOM_W i),
      h := s.rd (CMP_SURF_GEOM_H i), format := s.rd (CMP_SURF_FMT_FORMAT i), comp := s.rd (CMP_SURF_FMT_COMP i),
      isLocal := s.isOn (CMP_SURF_FMT_LOCAL i), frames := s.rd (CMP_SURF_FMT_FRAMES i),
      bound := s.isOn (CMP_SURF_FMT_BOUND i), stride := s.rd (CMP_SURF_STRIDE_BYTES i),
      frameb := s.rd (CMP_SURF_FRAMEB_BYTES i) }
  else
    { addr := s.rd (CMP_SURFSH_ADDR_HI_ADDR i) * 2 ^ 32 + s.rd (CMP_SURFSH_ADDR_LO_ADDR i),
      w := s.rd (CMP_SURFSH_GEOM_W i), h := s.rd (CMP_SURFSH_GEOM_H i), format := s.rd (CMP_SURFSH_FMT_FORMAT i),
      comp := s.rd (CMP_SURFSH_FMT_COMP i), isLocal := s.isOn (CMP_SURFSH_FMT_LOCAL i),
      frames := s.rd (CMP_SURFSH_FMT_FRAMES i), bound := s.isOn (CMP_SURFSH_FMT_BOUND i),
      stride := s.rd (CMP_SURFSH_STRIDE_BYTES i), frameb := s.rd (CMP_SURFSH_FRAMEB_BYTES i) }

/-- The layer state a check or a composition reads (R87). -/
structure Layer where
  en : Bool
  op : Nat
  premul : Bool
  live : Bool
  tagOvr : Bool
  cls : Nat
  alpha : Nat
  stale : Nat
  surf : Nat
  dx : Nat
  dy : Nat
  dw : Nat
  dh : Nat
  sx : Nat
  sy : Nat
  sw : Nat
  sh : Nat
  deriving DecidableEq, Repr

/-- Layer n, active or shadow (R87); graphic layers take the source size from the destination (R65). -/
def State.layer (s : State) (active : Bool) (n : Nat) : Layer :=
  let dw := if active then s.rd (LYR_DSZ_W n) else s.rd (LYRSH_DSZ_W n)
  let dh := if active then s.rd (LYR_DSZ_H n) else s.rd (LYRSH_DSZ_H n)
  if active then
    { en := s.isOn (LYR_CTL_EN n), op := s.rd (LYR_CTL_OP n), premul := s.isOn (LYR_CTL_PREMUL n),
      live := s.isOn (LYR_CTL_LIVE n), tagOvr := s.isOn (LYR_CTL_TAG_OVR n), cls := s.rd (LYR_CTL_CLASS n),
      alpha := s.rd (LYR_CTL_ALPHA n), stale := s.rd (LYR_CTL_STALE n), surf := s.rd (LYR_CTL_SURF n),
      dx := s.rd (LYR_DST_X n), dy := s.rd (LYR_DST_Y n), dw := dw, dh := dh, sx := s.rd (LYR_SRC_X n),
      sy := s.rd (LYR_SRC_Y n), sw := if n < 3 then s.rd (LYR_SSZ_W n) else dw,
      sh := if n < 3 then s.rd (LYR_SSZ_H n) else dh }
  else
    { en := s.isOn (LYRSH_CTL_EN n), op := s.rd (LYRSH_CTL_OP n), premul := s.isOn (LYRSH_CTL_PREMUL n),
      live := s.isOn (LYRSH_CTL_LIVE n), tagOvr := s.isOn (LYRSH_CTL_TAG_OVR n), cls := s.rd (LYRSH_CTL_CLASS n),
      alpha := s.rd (LYRSH_CTL_ALPHA n), stale := s.rd (LYRSH_CTL_STALE n), surf := s.rd (LYRSH_CTL_SURF n),
      dx := s.rd (LYRSH_DST_X n), dy := s.rd (LYRSH_DST_Y n), dw := dw, dh := dh, sx := s.rd (LYRSH_SRC_X n),
      sy := s.rd (LYRSH_SRC_Y n), sw := if n < 3 then s.rd (LYRSH_SSZ_W n) else dw,
      sh := if n < 3 then s.rd (LYRSH_SSZ_H n) else dh }

/-- The shadow of layer n with every CTL field but ALPHA from word w (R253). -/
def State.putCtl (s : State) (n w : Nat) : State :=
  (((((((s.wr (LYRSH_CTL_EN n) (bitsOf w 0 1)).wr (LYRSH_CTL_OP n) (bitsOf w 1 2)).wr (LYRSH_CTL_PREMUL n)
    (bitsOf w 3 1)).wr (LYRSH_CTL_LIVE n) (bitsOf w 4 1)).wr (LYRSH_CTL_TAG_OVR n) (bitsOf w 5 1)).wr
    (LYRSH_CTL_CLASS n) (bitsOf w 6 2)).wr (LYRSH_CTL_STALE n) (bitsOf w 16 8)).wr (LYRSH_CTL_SURF n) (bitsOf w 24 5)

/-- R52 is broken: the rectangle leaves the raster. -/
def Layer.outside (l : Layer) : Bool := decide (2048 < l.dx + l.dw) || decide (640 < l.dy + l.dh)

/-- A destination side is below the 1 of R87 (log 43). -/
def Layer.flat (l : Layer) : Bool := l.dw == 0 || l.dh == 0

/-- R65 is broken on an axis: more than 4:1 down or 16 times up. -/
def badScale (src dst : Nat) : Bool := decide (4 * dst < src) || decide (16 * src < dst)

/-- A layer breaks R52 or R65, or has a side that R87 has not. -/
def Layer.broken (l : Layer) : Bool := l.outside || l.flat || badScale l.sw l.dw || badScale l.sh l.dh

/-- The word LAYER_SET names for a broken rule (R253), the lowest of those written and concerned: DST and DSZ for R52, DSZ and SSZ
for R65, DSZ for a side of 0. -/
def layerDetail (flags : Nat) (l : Layer) : Nat :=
  let scale := badScale l.sw l.dw || badScale l.sh l.dh
  if l.outside ∧ bitOf flags 10 then 3 else if bitOf flags 11 then 4 else if scale ∧ bitOf flags 12 then 6 else 2

/-- SURFACE_BIND's checks (R55), GTC-L tiles in groups of `pad` pixels, which are 64 on A1 (R446): the word of the first rule
broken, lowest word first. A rule over several words names the lowest of them, and a surface past its area the word of its
length (R457, log 41). A FRAMEB is used as written (log 206). -/
def bindFault (pad : Nat) (sf : Surf) : Option Nat :=
  let geom := decide (1 ≤ sf.w) && decide (sf.w ≤ 8192) && decide (1 ≤ sf.h) && decide (sf.h ≤ 2560)
  if (sf.comp = 2 ∧ sf.format = 2) ∨ (¬ sf.isLocal ∧ sf.frames ≠ 1) ∨ (sf.comp = 0 ∧ sf.stride < sf.w * bytesPer sf.format) then
    some 1
  else if sf.addr % 64 ≠ 0 then some 2
  else if ¬ geom ∨ (sf.comp = 2 ∧ sf.w % pad ≠ 0) then some 4
  else if sf.isLocal ∧ areaSize < sf.addr + surfExtent sf 0 then some 4
  else if sf.comp = 0 ∧ sf.stride % 64 ≠ 0 then some 5
  else none

/-- Word k (1–7) of a descriptor. -/
def Flight.arg (f : Flight) (k : Nat) : Nat := f.args.getD (k - 1) 0 % 2 ^ 32

/-- The 64-bit number in words k and k+1, low word first (R252). -/
def Flight.arg64 (f : Flight) (k : Nat) : Nat := f.arg k + 2 ^ 32 * f.arg (k + 1)

/-- The binding a SURFACE_BIND descriptor carries (R252). -/
def bindOf (f : Flight) : Surf :=
  { addr := f.arg64 2, w := bitsOf (f.arg 4) 0 14, h := bitsOf (f.arg 4) 16 12, format := bitsOf (f.arg 1) 5 2,
    comp := bitsOf (f.arg 1) 7 2, isLocal := bitOf (f.arg 1) 9, frames := bitsOf (f.arg 1) 10 8, bound := true,
    stride := bitsOf (f.arg 5) 0 20, frameb := f.arg 6 }

/-- The shadow of slot i takes binding sf, which no commit has validated yet (R55, R63, R86). -/
def State.putSurf (s0 : State) (i : Nat) (sf : Surf) : State :=
  let s := { s0 with comp := { s0.comp with
    dirEndSh := s0.comp.dirEndSh.filter (fun c => decide (c.1 / 256 ≠ i)) } }
  (((((((((s.wr (CMP_SURFSH_ADDR_LO_ADDR i) sf.addr).wr (CMP_SURFSH_ADDR_HI_ADDR i) (sf.addr / 2 ^ 32)).wr
    (CMP_SURFSH_GEOM_W i) sf.w).wr (CMP_SURFSH_GEOM_H i) sf.h).wr (CMP_SURFSH_FMT_FORMAT i) sf.format).wr
    (CMP_SURFSH_FMT_COMP i) sf.comp).wr (CMP_SURFSH_FMT_LOCAL i) (flag sf.isLocal)).wr (CMP_SURFSH_FMT_FRAMES i)
    sf.frames).wr (CMP_SURFSH_FMT_BOUND i) 1).wr (CMP_SURFSH_STRIDE_BYTES i) sf.stride |>.wr
    (CMP_SURFSH_FRAMEB_BYTES i) sf.frameb

/-- SURFACE_BIND at issue (R55, R252). -/
def State.doSurfaceBind (s : State) (f : Flight) : State :=
  let sf := bindOf f
  if sf.format = 3 ∨ sf.comp = 3 ∨ sf.frames = 0 then s.endFlight f.id 5 1 0
  else if sf.isLocal ∧ f.arg 3 ≠ 0 then s.endFlight f.id 5 3 0
  else
    match bindFault (if s.isA1 then 64 else 32) sf with
    | some w => s.endFlight f.id 6 w 0
    | none => (s.putSurf (bitsOf (f.arg 1) 0 5) sf).endFlight f.id 0 0 0

/-- GKO_CFG values LAYER_SET refuses (R253). -/
def badGkoCfg (w : Nat) : Bool :=
  bitsOf w 0 8 == 0 || bitsOf w 12 4 == 0 || decide (8 < bitsOf w 8 4) ||
    decide (signed 16 (w / 65536) < -1000) || decide (1000 < signed 16 (w / 65536))

/-- Two enabled entries A–D of word 3 name one class (R253). -/
def clsClash (w : Nat) : Bool :=
  (List.range 4).any (fun i => (List.range 4).any (fun j =>
    decide (i < j) && bitOf w (16 + i) && bitOf w (16 + j) && bitsOf w (4 * i) 4 == bitsOf w (4 * j) 4))

/-- LAYER_SET of the Gecko parameters (R108, R253). -/
def State.setGecko (s : State) (f : Flight) : State :=
  let w1 := f.arg 1
  if bitsOf w1 9 4 ≠ 0 then s.endFlight f.id 5 1 0
  else if bitOf w1 8 ∧ badGkoCfg (f.arg 2) then s.endFlight f.id 5 2 0
  else if clsClash (f.arg 3) then s.endFlight f.id 5 3 0
  else
    let w := f.arg 2
    let s1 := if bitOf w1 8 then
        (((s.wr GKO_CFGSH_HORIZON_MS (bitsOf w 0 8)).wr GKO_CFGSH_SEAM_ROWS (bitsOf w 8 4)).wr GKO_CFGSH_STALE_TICKS
          (bitsOf w 12 4)).wr GKO_CFGSH_LAT_US (bitsOf w 16 16)
      else s
    let s2 := upTo 4 s1 (fun a i =>
      if bitOf (f.arg 3) (16 + i) then
        let c := bitsOf (f.arg 3) (4 * i) 4
        let e := f.arg (4 + i)
        ((((a.wr (GKO_CLSSH_DEPTH c) (bitsOf e 0 8)).wr (GKO_CLSSH_MARGIN_H c) (bitsOf e 8 6)).wr
          (GKO_CLSSH_MARGIN_V c) (bitsOf e 14 6)).wr (GKO_CLSSH_GROW c) (bitsOf e 20 8)).wr
          (GKO_CLSSH_FEATHER c) (bitsOf e 28 4)
      else a)
    s2.endFlight f.id 0 0 0

/-- The shadow of layer n after LAYER_SET's merge (R253). -/
def State.mergeLayer (s : State) (n : Nat) (f : Flight) : State :=
  let w1 := f.arg 1
  let a := if bitOf w1 8 then s.putCtl n (f.arg 2) else s
  let b := if bitOf w1 9 then a.wr (LYRSH_CTL_ALPHA n) (bitsOf (f.arg 2) 8 8) else a
  let c := if bitOf w1 10 then (b.wr (LYRSH_DST_X n) (bitsOf (f.arg 3) 0 11)).wr (LYRSH_DST_Y n) (bitsOf (f.arg 3) 16 10)
    else b
  let d := if bitOf w1 11 then (c.wr (LYRSH_DSZ_W n) (bitsOf (f.arg 4) 0 12)).wr (LYRSH_DSZ_H n) (bitsOf (f.arg 4) 16 10)
    else c
  let e := if bitOf w1 12 then (d.wr (LYRSH_SRC_X n) (bitsOf (f.arg 5) 0 13)).wr (LYRSH_SRC_Y n) (bitsOf (f.arg 5) 16 12)
    else d
  if bitOf w1 12 ∧ n < 3 then (e.wr (LYRSH_SSZ_W n) (bitsOf (f.arg 6) 0 14)).wr (LYRSH_SSZ_H n) (bitsOf (f.arg 6) 16 12)
  else if 3 ≤ n ∧ bitOf w1 11 then
    (e.wr (LYRSH_SSZ_W n) (bitsOf (f.arg 4) 0 12)).wr (LYRSH_SSZ_H n) (bitsOf (f.arg 4) 16 10)
  else e

/-- LAYER_SET at issue (R65, R108, R253). -/
def State.doLayerSet (s : State) (f : Flight) : State :=
  let n := bitsOf (f.arg 1) 0 4
  if 9 ≤ n then s.endFlight f.id 5 1 0
  else if n = 8 then s.setGecko f
  else
    let m := s.mergeLayer n f
    let l := m.layer false n
    if l.en ∧ l.broken then s.endFlight f.id 5 (layerDetail (f.arg 1) l) 0
    else
      let m1 := if bitOf (f.arg 1) 9 ∧ ¬ m.comp.alphaNew.contains n then
          { m with comp := { m.comp with alphaNew := m.comp.alphaNew ++ [n] } }
        else m
      m1.endFlight f.id 0 0 0

/-- FADE_LOAD at issue: its table is read from host memory (R71, R252). -/
def State.doFadeLoad (s : State) (f : Flight) : State :=
  let count := bitsOf (f.arg 1) 8 7
  if count = 0 ∨ 64 < count then s.endFlight f.id 5 1 0
  else if f.arg64 2 % 4 ≠ 0 then s.endFlight f.id 5 2 0
  else s.startArgs f.id (f.arg64 2) count

/-- FADE_LOAD once its table has arrived (R71); the shadow entries past COUNT become 0 (log 217). -/
def State.endFadeLoad (s : State) (f : Flight) : State :=
  let n := bitsOf (f.arg 1) 0 3
  let count := bitsOf (f.arg 1) 8 7
  let steps := (List.range 64).map (fun i => if i < count then Cells.get f.buf 0 i else 0)
  let s1 := upTo 16 (s.wr (LYRSH_FADE_COUNT n) count) (fun a i =>
    a.wr (LYR_FTBSH_STEPS n i) (leNat ((steps.drop (4 * i)).take 4)))
  let s2 := if s1.comp.fadeNew.contains n then s1 else
    { s1 with comp := { s1.comp with fadeNew := s1.comp.fadeNew ++ [n] } }
  s2.endFlight f.id 0 0 0

/-- Step i of layer n's fade table, active (R87). -/
def State.fadeStep (s : State) (n i : Nat) : Nat := bitsOf (s.rd (LYR_FTB_STEPS n (i / 4))) (8 * (i % 4)) 8

/-- The furthest record end a GTC directory in the local area names (R63). -/
def State.dirEndOf (s : State) (sf : Surf) (base : Nat) : Nat :=
  upTo (ceilDiv sf.w 32 * ceilDiv sf.h 32) 0 (fun m i =>
    let e := leNat (Cells.take s.comp.area 0 (base + 4 * i) 4)
    max m (64 * (bitsOf e 0 24 + bitsOf e 24 8)))

/-- A frame of a local slot, at its full extent, lies outside the local area (R63, R74). -/
def State.localOutside (s : State) (sf : Surf) : Bool :=
  (List.range (max 1 sf.frames)).any (fun k =>
    let base := sf.addr + k * sf.frameb
    decide (areaSize < base + surfExtent sf (if sf.comp = 1 then s.dirEndOf sf base else 0)))

/-- What R74 finds wrong with layer n in the shadow set: BAD_SURFACE 6 or BAD_ARG 5. -/
def State.layerFault (s : State) (n : Nat) : Option Nat :=
  let l := s.layer false n
  let sf := s.surf false l.surf
  if ¬ l.en then none
  else if ¬ sf.bound ∨ sf.w < l.sx + l.sw ∨ sf.h < l.sy + l.sh then some 6
  else if 3 ≤ n ∧ sf.comp = 2 then some 6
  else if l.live ∧ sf.isLocal then some 5
  else if l.broken then some 5
  else if sf.isLocal ∧ s.localOutside sf then some 5
  else none

/-- The lowest-numbered layer that R74 refuses, with its status. -/
def State.shadowFault (s : State) : Option (Nat × Nat) :=
  (List.range 8).findSome? (fun n => (s.layerFault n).map (fun st => (n, st)))

/-- A commit waits for the sync master's release (R79). -/
def State.epochSync (s : State) : Bool := s.smp CMP_CTL_EPOCH_SYNC != 0 && s.sync != .solo

/-- CMP_COMMIT and the boundary it shows for the armed commit: 0xFFFFFF while it waits for its release (R79, R85). -/
def State.showArmed (s : State) : State :=
  match s.comp.armed with
  | none => s
  | some a =>
    let waits := s.epochSync && a.released.isNone
    (s.wr CMP_COMMIT_EPOCH_WAIT (flag waits)).wr CMP_COMMIT_AT_LO
      (if waits then 0xFFFFFF else if s.epochSync then a.released.getD a.due else a.due)

/-- Validation takes the record ends of every shadow local GTC slot as its directories name them (R63, R74). -/
def State.validateDirs (s : State) : State :=
  upTo 32 s (fun a i =>
    let sf := a.surf false i
    if sf.bound ∧ sf.isLocal ∧ sf.comp = 1 then
      upTo (max 1 sf.frames) a (fun b k =>
        { b with comp := { b.comp with
            dirEndSh := Cells.put b.comp.dirEndSh 0 (256 * i + k) (b.dirEndOf sf (sf.addr + k * sf.frameb)) } })
    else a)

/-- COMMIT at issue: validated, then refused or taken and armed (R74, R75, R79). A shadow set and an epoch that are both
refused give the shadow set's refusal (log 121). -/
def State.doCommit (s : State) (f : Flight) : State :=
  match s.shadowFault with
  | some (n, st) => s.endFlight f.id st 0 (n + 256 * s.rd (LYRSH_CTL_SURF n))
  | none =>
    if f.arg 1 ≤ s.rd CMP_EPOCH_ACTIVE_EPOCH then s.endFlight f.id 5 1 0
    else
      let late := s.comp.cutoff
      let due := tickAfter s.tick.count (if late then 2 else 1)
      let s1 := { s with comp := { s.comp with
        armed := some ⟨f.ring, f.id, f.arg 1, due, late, none⟩
        taken := true } }
      let s2 := ((s1.wr CMP_COMMIT_ARMED 1).wr CMP_COMMIT_LATE (flag late)).wr CMP_EPOCH_ARMED_EPOCH (f.arg 1)
      let s3 := s2.validateDirs.showArmed
      let s4 := if late then s3.bump CMP_LATE_COUNT_COUNT else s3
      s4.setFlight { f with stage := .accepted }

/-- The shadow copied into the active state of layer n, ALPHA aside (R73). -/
def State.moveLayer (s : State) (n : Nat) : State :=
  let l := s.layer false n
  let old := s.layer true n
  let moved := l.surf ≠ old.surf
  let a := (((((((s.wr (LYR_CTL_EN n) (flag l.en)).wr (LYR_CTL_OP n) l.op).wr (LYR_CTL_PREMUL n) (flag l.premul)).wr
    (LYR_CTL_LIVE n) (flag l.live)).wr (LYR_CTL_TAG_OVR n) (flag l.tagOvr)).wr (LYR_CTL_CLASS n) l.cls).wr
    (LYR_CTL_STALE n) l.stale).wr (LYR_CTL_SURF n) l.surf
  let b := (((((((a.wr (LYR_DST_X n) l.dx).wr (LYR_DST_Y n) l.dy).wr (LYR_DSZ_W n) l.dw).wr (LYR_DSZ_H n) l.dh).wr
    (LYR_SRC_X n) l.sx).wr (LYR_SRC_Y n) l.sy).wr (LYR_SSZ_W n) l.sw).wr (LYR_SSZ_H n) l.sh
  let c := if moved then b.wr (LYR_STAT_FRAME n) 0 else b
  let same := ¬ moved ∧ (s.surf true old.surf).addr = (s.surf false l.surf).addr
  if same then c else
    { c.wr (LYR_STAT_SAME n) 0 with comp := { c.comp with frozenSent := c.comp.frozenSent.filter (fun k => k != n) } }

/-- ALPHA and fades of layer n at a commit (R72). -/
def State.moveFade (s : State) (n : Nat) : State :=
  let a := if s.comp.alphaNew.contains n then s.wr (LYR_CTL_ALPHA n) (s.rd (LYRSH_CTL_ALPHA n)) else s
  if s.comp.fadeNew.contains n then
    let b := (((a.wr (LYR_FADE_COUNT n) (a.rd (LYRSH_FADE_COUNT n))).wr (LYR_FADE_STEP n) 0).wr (LYR_FADE_RUN n) 1)
    upTo 16 b (fun c i => c.wr (LYR_FTB_STEPS n i) (c.rd (LYR_FTBSH_STEPS n i)))
  else if s.comp.alphaNew.contains n then a.wr (LYR_FADE_RUN n) 0
  else a

/-- The shadow of slot i copied into its active registers, with the extents validated (R63, R73). -/
def State.moveSurf (s : State) (i : Nat) : State :=
  let sf := s.surf false i
  let a := ((((((((((s.wr (CMP_SURF_ADDR_LO_ADDR i) sf.addr).wr (CMP_SURF_ADDR_HI_ADDR i) (sf.addr / 2 ^ 32)).wr
    (CMP_SURF_GEOM_W i) sf.w).wr (CMP_SURF_GEOM_H i) sf.h).wr (CMP_SURF_FMT_FORMAT i) sf.format).wr
    (CMP_SURF_FMT_COMP i) sf.comp).wr (CMP_SURF_FMT_LOCAL i) (flag sf.isLocal)).wr (CMP_SURF_FMT_FRAMES i)
    sf.frames).wr (CMP_SURF_FMT_BOUND i) (flag sf.bound)).wr (CMP_SURF_STRIDE_BYTES i) sf.stride).wr
    (CMP_SURF_FRAMEB_BYTES i) sf.frameb
  if sf.isLocal ∧ sf.comp = 1 then
    upTo (max 1 sf.frames) a (fun b k =>
      { b with comp := { b.comp with
          dirEnd := Cells.put b.comp.dirEnd 0 (256 * i + k) (Cells.get s.comp.dirEndSh 0 (256 * i + k)) } })
  else a

/-- The Gecko parameters move into force (R73, R108). -/
def State.moveGecko (s : State) : State :=
  let a := (((s.wr GKO_CFG_HORIZON_MS (s.rd GKO_CFGSH_HORIZON_MS)).wr GKO_CFG_SEAM_ROWS (s.rd GKO_CFGSH_SEAM_ROWS)).wr
    GKO_CFG_STALE_TICKS (s.rd GKO_CFGSH_STALE_TICKS)).wr GKO_CFG_LAT_US (s.rd GKO_CFGSH_LAT_US)
  upTo 16 a (fun b c =>
    ((((b.wr (GKO_CLS_DEPTH c) (b.rd (GKO_CLSSH_DEPTH c))).wr (GKO_CLS_MARGIN_H c) (b.rd (GKO_CLSSH_MARGIN_H c))).wr
      (GKO_CLS_MARGIN_V c) (b.rd (GKO_CLSSH_MARGIN_V c))).wr (GKO_CLS_GROW c) (b.rd (GKO_CLSSH_GROW c))).wr
      (GKO_CLS_FEATHER c) (b.rd (GKO_CLSSH_FEATHER c)))

/-- The budget rules move into force (R73, R192). -/
def State.moveBudget (s : State) : State :=
  let a := (((s.wr SAL_RULE_LIM_TILE_PCT (s.rd SALSH_RULE_LIM_TILE_PCT)).wr SAL_RULE_LIM_RGN_PCT
    (s.rd SALSH_RULE_LIM_RGN_PCT)).wr SAL_RULE_LIM_DIE_PCT (s.rd SALSH_RULE_LIM_DIE_PCT)).wr SAL_RULE_LIM_PKG_PCT
    (s.rd SALSH_RULE_LIM_PKG_PCT)
  let b := (((a.wr SAL_RULE_CFG_ALLOW (a.rd SALSH_RULE_CFG_ALLOW)).wr SAL_RULE_CFG_T_START
    (a.rd SALSH_RULE_CFG_T_START)).wr SAL_RULE_CFG_T_END (a.rd SALSH_RULE_CFG_T_END)).wr SAL_RULE_CFG_F_END
    (a.rd SALSH_RULE_CFG_F_END)
  ((b.wr SAL_RULE_TEMP_T_CUT (b.rd SALSH_RULE_TEMP_T_CUT)).wr SAL_RULE_TEMP_SINK_START
    (b.rd SALSH_RULE_TEMP_SINK_START)).wr SAL_RULE_TEMP_SINK_END (b.rd SALSH_RULE_TEMP_SINK_END)

/-- No commit is armed any more (R85). -/
def State.disarm (s : State) : State :=
  (((({ s with comp := { s.comp with armed := none } }.wr CMP_COMMIT_ARMED 0).wr CMP_COMMIT_LATE 0).wr
    CMP_COMMIT_EPOCH_WAIT 0).wr CMP_COMMIT_AT_LO 0)

/-- Every shadow moves into force (R72, R73). -/
def State.moveShadows (s : State) : State :=
  let a := upTo 8 s State.moveLayer
  let b := upTo 8 a State.moveFade
  let c := upTo 32 b State.moveSurf
  let d := c.moveGecko.moveBudget
  { d with comp := { d.comp with alphaNew := [], fadeNew := [] } }

/-- COMMIT_IN_FORCE (R75, R79, R80): the armed commit whose boundary k this is. -/
def State.commitInForce (s : State) (k : Nat) : State :=
  match s.comp.armed with
  | none => s
  | some a =>
    let now := if s.epochSync then a.released == some k else decide (a.due ≤ k)
    if now then
      let s1 := (s.moveShadows.wr CMP_EPOCH_ACTIVE_EPOCH a.epoch).disarm
      { s1 with comp := { s1.comp with committed := true } }.endFlight a.seq (if a.late then 1 else 0) 0 0
    else s.showArmed

/-- EPOCH_TIMEOUT (R80): the commit that still waits for its release ends TIMEOUT, nothing moves. -/
def State.epochTimeout (s : State) : State :=
  match s.comp.armed with
  | none => s
  | some a =>
    if s.epochSync ∧ a.released = none ∧ a.due + max 1 (s.smp CMP_EPOCH_CFG_TIMEOUT_TICKS) ≤ s.tick.count then
      ((s.disarm).send 0x06A 0x01 a.epoch).complete a.seq 7 0 0
    else s

/-- LAYER_FROZEN (R82): once in each run. -/
def State.layerFrozen (s : State) (n : Nat) : State :=
  if max 2 (s.rd (LYR_CTL_STALE n)) ≤ s.rd (LYR_STAT_SAME n) ∧ s.isOn (LYR_CTL_LIVE n) ∧
      ¬ s.comp.frozenSent.contains n then
    { (s.wr (LYR_STAT_FROZEN n) 1).send (0x060 + n) 0x01 0 with
      comp := { s.comp with frozenSent := s.comp.frozenSent ++ [n] } }
  else s

/-- A layer suppressed by the features switched off (R53, R302). -/
def featOff (featOff n : Nat) : Bool :=
  (bitOf featOff 0 && (n == 4 || n == 5 || n == 6)) || (bitOf featOff 1 && n == 7) || (bitOf featOff 2 && decide (n < 3))

/-- Layer n takes part in the composition. -/
def State.shows (s : State) (n : Nat) : Bool := s.isOn (LYR_CTL_EN n) && !s.isOn (LYR_STAT_SUPPRESSED n)

/-- Tiles of a surface that a source window meets, by tile index. -/
def windowTiles (perRow sx sy sw sh : Nat) : List Nat :=
  if sw = 0 ∨ sh = 0 then [] else
    (List.range ((sy + sh - 1) / 32 + 1 - sy / 32)).flatMap (fun j =>
      (List.range ((sx + sw - 1) / 32 + 1 - sx / 32)).map (fun i => (sy / 32 + j) * perRow + sx / 32 + i))

/-- The host reads of a layer's window, in the order Chameleon requests them (R78, R81): lines from the top for an
uncompressed surface, tiles in row-major order for GTC-L, fetched in pairs of an even column and the next (R449), the
directory first for GTC. -/
def fetchPlan (sf : Surf) (l : Layer) : List (Nat × Nat) :=
  if sf.comp = 1 then readPlan sf.addr (gtcDirBytes sf.w sf.h)
  else if sf.comp = 2 then
    (windowTiles (sf.w / 32) (l.sx / 64 * 64) l.sy (min sf.w (64 * ceilDiv (l.sx + l.sw) 64) - l.sx / 64 * 64) l.sh).flatMap (fun t =>
      readPlan (sf.addr + t * gtclTile sf.format) (gtclTile sf.format))
  else
    (List.range l.sh).flatMap (fun j =>
      readPlan (sf.addr + (l.sy + j) * sf.stride + l.sx * bytesPer sf.format) (l.sw * bytesPer sf.format))

/-- Layer n's fetch. -/
def State.fetch (s : State) (n : Nat) : Fetch := s.comp.fetch.getD n {}

def State.setFetch (s : State) (n : Nat) (x : Fetch) : State :=
  { s with comp := { s.comp with fetch := s.comp.fetch.set n x } }

/-- A byte fetched from host memory for a layer; none if it was not. -/
def Fetch.byte (x : Fetch) (a : Nat) : Option Nat :=
  let v := Cells.get x.bytes 0 a
  if v = 0 then none else some (v - 1)

/-- The shown layers that read layer n's host surface slot (R54, R78). -/
def State.sharers (s : State) (n : Nat) : List Nat :=
  let k := s.rd (LYR_CTL_SURF n)
  if (s.surf true k).isLocal then [] else
    (List.range 8).filter (fun m => s.shows m && s.rd (LYR_CTL_SURF m) == k)

/-- A byte of layer n's host surface that has been fetched for it or for a layer that shares the slot. -/
def State.hostByte (s : State) (n : Nat) : Nat → Option Nat :=
  let xs := (s.sharers n).map s.fetch
  fun a => xs.findSome? (fun x => x.byte a)

/-- Two reads meet. -/
def meets (r q : Nat × Nat) : Bool := decide (r.1 < q.1 + 4 * q.2) && decide (q.1 < r.1 + 4 * r.2)

/-- Read r without the words read q brings. -/
def cutRead (q r : Nat × Nat) : List (Nat × Nat) :=
  if ¬ meets r q then [r]
  else
    (if r.1 < q.1 then [(r.1, (q.1 - r.1) / 4)] else []) ++
      (if q.1 + 4 * q.2 < r.1 + 4 * r.2 then [(q.1 + 4 * q.2, (r.1 + 4 * r.2 - (q.1 + 4 * q.2)) / 4)] else [])

/-- The reads of a plan that no read of `had`, and no earlier one of the plan, brings: a surface is read once in a
composition (R78), records that several entries point to included (R59). -/
def newReads : (plan had : List (Nat × Nat)) → List (Nat × Nat)
  | [], _ => []
  | r :: plan, had => had.foldl (fun rs q => rs.flatMap (cutRead q)) [r] ++ newReads plan (had ++ [r])

/-- The records of a GTC window, once its directory has arrived (R59). -/
def recordPlan (rd : Nat → Option Nat) (sf : Surf) (l : Layer) : List (Nat × Nat) :=
  (windowTiles (ceilDiv sf.w 32) l.sx l.sy l.sw l.sh).flatMap (fun t =>
    match readLe rd (sf.addr + 4 * t) 4 with
    | none => []
    | some e =>
      if 64 * bitsOf e 0 24 < gtcDirBytes sf.w sf.h then []
      else readPlan (sf.addr + 64 * bitsOf e 0 24) (64 * bitsOf e 24 8))

/-- Surface reads go out while Chameleon has tags (R240). -/
def State.pumpSurf (s : State) : Nat → State
  | 0 => s
  | k + 1 =>
    match (List.range 8).find? (fun n => !(s.fetch n).todo.isEmpty) with
    | none => s
    | some n =>
      let x := s.fetch n
      match x.todo with
      | [] => s
      | (a, w) :: rest =>
        if s.surfTagFree ∧ (s.tagFor false).isSome ∧ s.linkUp then
          ((s.hostRead (.surf n) a w).setFetch n
            { x with todo := rest, waiting := x.waiting ++ [(a, w)] }).pumpSurf k
        else s

/-- A layer's fetch starts with a composition (R78). -/
def State.startFetch (s : State) (n : Nat) : State :=
  let l := s.layer true n
  let sf := s.surf true l.surf
  if s.shows n ∧ ¬ sf.isLocal then
    let plan := newReads (fetchPlan sf l) []
    let had := ((s.sharers n).filter (fun m => decide (m < n))).flatMap (fun m => (s.fetch m).plan)
    s.setFetch n { plan := plan, todo := newReads plan had }
  else s.setFetch n {}

/-- The first tile of a GTC window that failed read r belongs to: by its entry where r meets the directory, else by its
record (R83). -/
def failedTile (rd : Nat → Option Nat) (sf : Surf) (l : Layer) (r : Nat × Nat) : Nat :=
  ((windowTiles (ceilDiv sf.w 32) l.sx l.sy l.sw l.sh).find? (fun t =>
    if r.1 < sf.addr + gtcDirBytes sf.w sf.h then meets r (sf.addr + 4 * t, 1)
    else match readLe rd (sf.addr + 4 * t) 4 with
      | none => false
      | some e => meets r (sf.addr + 64 * bitsOf e 0 24, 16 * bitsOf e 24 8))).getD 0

/-- The first source line or tile that failed read r affects (R83). -/
def failedPlace (rd : Nat → Option Nat) (sf : Surf) (l : Layer) (r : Nat × Nat) : Nat :=
  if sf.comp = 2 then (r.1 - sf.addr) / gtclTile sf.format
  else if sf.comp = 1 then failedTile rd sf l r
  else if sf.stride = 0 then 0 else (r.1 - sf.addr) / sf.stride

/-- FETCH_ERROR of layer k, whose window failed read r meets (R62, R83). -/
def State.fetchError (s : State) (r : Nat × Nat) (k : Nat) : State :=
  if ¬ (s.fetch k).plan.any (meets r) then s
  else
    let l := s.layer true k
    ((s.wr (LYR_STAT_FETCH_ERR k) 1).bump CMP_ERR_COUNT_FETCH).send (0x060 + k) 0x02
      (failedPlace (s.hostByte k) (s.surf true l.surf) l r)

/-- Layer k of a GTC slot asks for its records, once no read of the slot's directory is open (R59). -/
def State.askRecords (s : State) (k : Nat) : State :=
  let l := s.layer true k
  let sf := s.surf true l.surf
  let x := s.fetch k
  let dir := (sf.addr, gtcDirBytes sf.w sf.h / 4)
  let group := (s.sharers k).map s.fetch
  if sf.comp ≠ 1 ∨ x.dirDone ∨ group.any (fun y => (y.todo ++ y.waiting).any (meets dir)) then s
  else
    let recs := newReads (recordPlan (s.hostByte k) sf l) x.plan
    s.setFetch k { x with
      dirDone := true, plan := x.plan ++ recs, todo := x.todo ++ newReads recs (group.flatMap (fun y => y.plan)) }

/-- A surface read of layer n has ended: its bytes, or none where it failed (R62); what it brings or loses counts for every
layer that shares the slot (R78). -/
def State.surfRead (s : State) (n addr words : Nat) (data : Option (List Nat)) : State :=
  let x := s.fetch n
  let left := x.waiting.filter (fun r => r != (addr, words))
  let group := s.sharers n
  let s1 := match data with
    | some bs =>
      s.setFetch n { x with waiting := left, bytes := Cells.putMany x.bytes 0 addr (bs.map (fun b => b % 256 + 1)) }
    | none => group.foldl (fun a k => a.fetchError (addr, words) k)
        (s.setFetch n { x with waiting := left, lost := x.lost ++ [(addr, words)] })
  (group.foldl State.askRecords s1).pumpSurf 256

/-- Every fetch of the composition has ended. -/
def State.fetched (s : State) : Bool :=
  s.comp.fetch.all (fun x => x.todo.isEmpty && x.waiting.isEmpty)

/-- The signature of a complete fetch: CRC-32C over its bytes in request order (R81). -/
def State.fetchSig (s : State) (n : Nat) : Nat :=
  let rd := s.hostByte n
  crc32c ((s.fetch n).plan.flatMap (fun r => (List.range (4 * r.2)).map (fun i => (rd (r.1 + i)).getD 0)))

/-- Layer n's fetch for the composition is complete: every read it needs, its own or one that another layer of the slot makes
for it, has ended well (R81). -/
def State.fetchComplete (s : State) (n : Nat) : Bool :=
  let x := s.fetch n
  let open' := ((s.sharers n).map s.fetch).flatMap (fun y => y.todo ++ y.waiting ++ y.lost)
  !x.plan.isEmpty && !open'.any (fun r => x.plan.any (meets r))

/-- The freeze detector at a boundary (R81): a complete fetch is compared with the one before; the first since reset has
none before it (log 123). -/
def State.freezeCheck (s : State) (n : Nat) : State :=
  if s.isOn (LYR_CTL_LIVE n) ∧ s.shows n ∧ s.fetchComplete n then
    let sig := s.fetchSig n
    let s1 :=
      if s.comp.sigSeen.contains n ∧ sig = s.rd (LYR_SIG_CRC n) then
        s.bump (LYR_STAT_SAME n)
      else
        { s.wr (LYR_STAT_SAME n) 0 with comp := { s.comp with
            frozenSent := s.comp.frozenSent.filter (fun k => k != n)
            sigSeen := if s.comp.sigSeen.contains n then s.comp.sigSeen else s.comp.sigSeen ++ [n] } }
    s1.wr (LYR_SIG_CRC n) sig
  else s

/-- What a layer gives at a pixel of its rectangle. -/
inductive Look where
  | clear
  | bad (tiles : List Nat)
  | some' (c : Contrib)
  deriving DecidableEq, Repr

/-- A layer as one composition sees it. -/
structure View where
  n : Nat
  l : Layer
  alpha : Nat
  look : Nat → Nat → Look

/-- A graphic layer's pixel (R51, R58). -/
def lookGraphic (rd : Nat → Option Nat) (sf : Surf) (base : Nat) (l : Layer) (i j : Nat) : Look :=
  match surfAt rd sf base (l.sx + i) (l.sy + j) with
  | .lost => .clear
  | .bad t => .bad [t]
  | .px p => .some' ⟨p.inten, p.alpha, pixClass sf.format p.tag l.cls l.tagOvr, l.premul⟩

/-- A video layer's pixel (R65, R66). -/
def lookVideo (rd : Nat → Option Nat) (sf : Surf) (base : Nat) (l : Layer) (i j : Nat) : Look :=
  let at' (x y : Nat) : Src := surfAt rd sf base (l.sx + x) (l.sy + y)
  let srcs := (axisTaps l.sh l.dh j).flatMap (fun y => (axisTaps l.sw l.dw i).map (fun x => at' x y))
  let bad := srcs.filterMap (fun q => match q with
    | .bad t => some t
    | _ => none)
  if bad ≠ [] then .bad bad
  else if srcs.any (fun q => q == .lost) then .clear
  else
    let inten (x y : Nat) : Nat := match at' x y with
      | .px p => premultiply l.premul p
      | _ => 0
    let alpha (x y : Nat) : Nat := match at' x y with
      | .px p => p.alpha
      | _ => 0
    let tag := match at' (if l.sw = l.dw then i else nearest l.sw l.dw i) (if l.sh = l.dh then j else nearest l.sh l.dh j)
      with
      | .px p => p.tag
      | _ => 0
    .some' ⟨scaleAxis l.sh l.dh j (fun y => scaleAxis l.sw l.dw i (fun x => inten x y)),
      min 255 (scaleAxis l.sh l.dh j (fun y => scaleAxis l.sw l.dw i (fun x => alpha x y))),
      pixClass sf.format tag l.cls l.tagOvr, true⟩

/-- The stacking order, bottom first (R51). -/
def stackOrder : List Nat := [3, 0, 1, 2, 4, 5, 6, 7]

/-- The layers of a composition, bottom first. -/
def State.views (s : State) : List View :=
  (stackOrder.filter (fun n => s.shows n)).map (fun n =>
    let l := s.layer true n
    let sf := s.surf true l.surf
    let rd : Nat → Option Nat := if sf.isLocal then (fun a => some (Cells.get s.comp.area 0 a)) else s.hostByte n
    let base := sf.addr + (if sf.isLocal ∧ 1 < sf.frames then s.rd (LYR_STAT_FRAME n) * sf.frameb else 0)
    { n := n, l := l, alpha := if s.isOn (LYR_FADE_RUN n) then s.fadeStep n (s.rd (LYR_FADE_STEP n)) else l.alpha,
      look := if n < 3 then lookVideo rd sf base l else lookGraphic rd sf base l })

/-- One layer over the value and side built so far at pixel (x, y) with mask value m (R67–R70). -/
def blendView (classes m x y : Nat) (acc : Nat × Side) (v : View) : Nat × Side :=
  if x < v.l.dx ∨ v.l.dx + v.l.dw ≤ x ∨ y < v.l.dy ∨ v.l.dy + v.l.dh ≤ y then acc
  else
    match v.look (x - v.l.dx) (y - v.l.dy) with
    | .clear => acc
    | .bad _ => acc
    | .some' c =>
      let m' := if bitOf classes c.cls then m else 255
      let w := coverage c.alpha v.alpha m'
      let side := acc.2
      (blend v.l.op acc.1 w (contribution c.inten c.alpha v.alpha m' c.premul),
        { cls := if 0 < w then c.cls else side.cls
          base := side.base || (decide (0 < w) && c.cls == 0)
          masked := side.masked || decide (m' < 255) })

/-- One pixel of the composed frame. -/
def composePixel (views : List View) (classes : Nat) (mask : Cells) (x y : Nat) : Nat × Side :=
  views.foldl (blendView classes (Cells.get mask 255 (pixAddr x y)) x y) (0, ⟨0, false, false⟩)

/-- The rows and columns some layer covers. -/
def coverRows (views : List View) : Nat × Nat :=
  views.foldl (fun r v => (min r.1 v.l.dy, max r.2 (v.l.dy + v.l.dh))) (640, 0)

def coverCols (views : List View) : Nat × Nat :=
  views.foldl (fun r v => (min r.1 v.l.dx, max r.2 (v.l.dx + v.l.dw))) (2048, 0)

/-- The composed frame: every pixel some layer can change (R52, R68–R70). -/
def composeFrame (views : List View) (classes : Nat) (mask : Cells) : Frame :=
  let r := coverRows views
  let c := coverCols views
  let px := (List.range (min 640 r.2 - r.1)).flatMap (fun j => (List.range (min 2048 c.2 - c.1)).map (fun i =>
    (pixAddr (c.1 + i) (r.1 + j), composePixel views classes mask (c.1 + i) (r.1 + j))))
  { light := px.filterMap (fun q => if q.2.1 = 0 then none else some (q.1, q.2.1))
    side := px.filterMap (fun q => if q.2.2.toNat = 0 then none else some (q.1, q.2.2.toNat)) }

/-- The tiles or blocks of a layer that failed to decode in the first bands of the raster (R62), each tile once. -/
def badTiles (bands : Nat) (v : View) : List Nat :=
  (((List.range v.l.dh).filter (fun j => decide ((v.l.dy + j) % 320 / 40 < bands))).flatMap (fun j =>
    (List.range v.l.dw).flatMap (fun i =>
    match v.look i j with
    | .bad ts => ts
    | _ => []))).eraseDups

/-- The back buffer and the front buffer (R84). -/
def State.back (s : State) : Frame := if s.isOn CMP_STAT_FRONT then s.comp.buf0 else s.comp.buf1
def State.front (s : State) : Frame := if s.isOn CMP_STAT_FRONT then s.comp.buf1 else s.comp.buf0

def State.setBack (s : State) (x : Frame) : State :=
  if s.isOn CMP_STAT_FRONT then { s with comp := { s.comp with buf0 := x } }
  else { s with comp := { s.comp with buf1 := x } }

/-- GTC_ERROR for each tile of a layer that failed to decode in the first bands (R62, R83). -/
def State.reportTiles (bands : Nat) (s : State) (v : View) : State :=
  (badTiles bands v).foldl (fun a t =>
    ((a.wr (LYR_STAT_GTC_ERR v.n) 1).bump CMP_ERR_COUNT_GTC).send (0x060 + v.n) 0x03 t) s

/-- A composition that the boundary abandons (R40): the tiles it found undecodable, in the bands whose mask was ready. -/
def State.abandon (s : State) : State :=
  if s.comp.composed then s else s.views.foldl (State.reportTiles s.comp.bands) s

/-- Chameleon writes the back buffer (R38 stage 2), us the time from the boundary. -/
def State.compose (s : State) (us : Nat) : State :=
  let vs := s.views
  let s1 := s.setBack (composeFrame vs (s.smp CMP_MASK_CLASSES) s.comp.mask)
  let s2 := vs.foldl (State.reportTiles 8) s1
  let s3 := (s2.wr CMP_TIME_LAST_US us).keepMax CMP_TIME_MAX_US us
  { s3 with comp := { s3.comp with composed := true } }

/-- FADE_STEP_ADVANCE and ANIMATION_ADVANCE when a frame that carries the layer is swapped in (R64, R71); a FRAME
past the last of a slot bound anew goes to 0 (log 205); STEP stands after a fade has ended (log 218). -/
def State.advanceLayer (s : State) (n : Nat) : State :=
  let s1 :=
    if s.isOn (LYR_FADE_RUN n) ∧ s.shows n then
      let st := s.rd (LYR_FADE_STEP n)
      if st + 1 < s.rd (LYR_FADE_COUNT n) then s.wr (LYR_FADE_STEP n) (st + 1)
      else
        let a := (s.wr (LYR_CTL_ALPHA n) (s.fadeStep n st)).wr (LYR_FADE_RUN n) 0
        if s.comp.alphaNew.contains n then a else a.wr (LYRSH_CTL_ALPHA n) (s.fadeStep n st)
    else s
  let sf := s.surf true (s.rd (LYR_CTL_SURF n))
  if s.comp.symGranted ∧ s.shows n ∧ sf.isLocal ∧ 1 < sf.frames then
    s1.wr (LYR_STAT_FRAME n) (if s.rd (LYR_STAT_FRAME n) + 1 < sf.frames then s.rd (LYR_STAT_FRAME n) + 1 else 0)
  else s1

/-- The earliest unfinished stage of R38: 0 Gecko, 1 composition, 2 resolve, 3 pass. -/
def State.unfinished (s : State) : Nat :=
  if s.comp.bands < 8 then 0 else if ¬ s.comp.composed then 1 else if ¬ s.comp.resolved then 2 else 3

/-- FRAME_SWAP (R39, R40) of a ready frame, slack the µs from ready to the boundary. -/
def State.swap (s : State) (slack : Nat) : State :=
  let s1 := upTo 8 s State.advanceLayer
  let s2 := ((s1.wr CMP_STAT_FRONT (if s1.isOn CMP_STAT_FRONT then 0 else 1)).wr TCK_SLACK_LAST_US slack).keepMin
    TCK_SLACK_MIN_US slack
  let s3 := s2.wr TCK_OVR_CONSEC 0
  { s3 with comp := { s3.comp with everSwapped := true, repeatSent := false } }

/-- A boundary k at which the frame is not ready (R39–R41). -/
def State.overrun (s : State) (k : Nat) : State :=
  let s1 := ((s.wr TCK_SLACK_LAST_US 0).keepMin TCK_SLACK_MIN_US 0)
  let counted : Bool := match s.comp.countFrom with
    | none => false
    | some n => decide (n ≤ k)
  if ¬ counted then s
  else
    let s2 := if s.comp.everSwapped then s1.bump TCK_OVR_COUNT_COUNT else s1
    let s3 := s2.bump TCK_OVR_CONSEC
    { s3.send 0x068 0x01 s.unfinished with comp := { s3.comp with lastStage := s.unfinished } }

/-- FRAME_REPEAT_LIMIT (R41): once in each run. -/
def State.frameRepeatLimit (s : State) : State :=
  if max 1 (s.rd TCK_OVR_LIMIT) ≤ s.rd TCK_OVR_CONSEC ∧ ¬ s.comp.repeatSent then
    { s.send 0x069 0x01 s.comp.lastStage with comp := { s.comp with repeatSent := true } }
  else s

/-- The surface reads of a composition that has ended are given up (R39, R40, R278). -/
def State.leaveReads (s : State) : State :=
  s.giveUpReads (fun q => match q with
    | .surf _ => true
    | _ => false)

/-- Composition of the next frame starts from the state active at the boundary (R38, R53, R78). -/
def State.startComposition (s0 : State) : State :=
  let s := s0.leaveReads
  let off := s.rd SFT_FEAT_FEAT_OFF
  let s1 := upTo 8 s (fun a n => a.wr (LYR_STAT_SUPPRESSED n) (flag (featOff off n)))
  let s2 := { s1 with comp := { s1.comp with
    bands := 0, composed := false, resolved := false, ready := false, passFailed := false, mask := [], cutoff := false } }
  (upTo 8 s2 State.startFetch).pumpSurf 256

/-- CMP_CUTOFF.ROWS as it acts: 1 to 64 (R75, R85). -/
def State.cutoffRows (s : State) : Nat := heldN 1 64 (s.smp CMP_CUTOFF_ROWS)

end Sys2Proof.Machine
end

