-- ==== Sys2Proof/Machine/Gecko.lean ====
section
/-! DEFINITION. Gecko: object lists (R100–R102), the time base (R104–R106), the boxes of a frame (R107–R112), stale
lists (R113), and the extension tables (R98, R99). -/

namespace Sys2Proof.Machine

/-- Round to the nearest 1/1,024, ties to even (R212). -/
def round1024 (r : Rat) : Rat :=
  let x := r * 1024
  let f := Rat.floor x
  let d := x - (f : Rat)
  let n := if d < 1 / 2 then f else if 1 / 2 < d then f + 1 else if f % 2 = 0 then f else f + 1
  (n : Rat) / 1024

/-- Displacement of node (i, j) in pixels: dX for c = 0, dY for c = 1 (R211). -/
def State.node (s : State) (c i j : Nat) : Rat := (signed 16 (s.cal.geom.get (2 * (65 * j + i) + c)) : Rat) / 256

/-- The exact interpolation of R212. -/
def State.nodeMix (s : State) (c i j : Nat) (fx fy : Rat) : Rat :=
  (1 - fy) * ((1 - fx) * s.node c i j + fx * s.node c (i + 1) j) +
    fy * ((1 - fx) * s.node c i (j + 1) + fx * s.node c (i + 1) (j + 1))

/-- A rational held between 0 and hi. -/
def heldRat (hi : Nat) (r : Rat) : Rat := if r < 0 then 0 else if (hi : Rat) < r then (hi : Rat) else r

/-- GEOM and AIM applied to a nominal raster position (R212). -/
def State.mapPt (s : State) (x y : Rat) : Rat × Rat :=
  let xc := heldRat 2048 x
  let yc := heldRat 640 y
  let i := min 63 (Rat.floor (xc / 32)).toNat
  let j := min 19 (Rat.floor (yc / 32)).toNat
  let fx := (xc - 32 * (i : Rat)) / 32
  let fy := (yc - 32 * (j : Rat)) / 32
  (x + round1024 (s.nodeMix 0 i j fx fy) + (s.rdI CAL_AIM_AIM_H : Rat) / 8,
    y + round1024 (s.nodeMix 1 i j fx fy) - (s.rdI CAL_AIM_AIM_V : Rat) / 8)

/-- The time base is in a state with a model (R106). -/
def State.hasModel (s : State) : Bool := s.rd GKO_TB_STAT_STATE != 0

/-- Host time h in device nanoseconds (R106). -/
def State.hostTime (s : State) (h : Rat) : Rat := modelTime s.gko.tb.href s.gko.tb.tref s.gko.tb.rate h

/-- Observation time of a host record: through the model, or the default age before the boundary the list became
active at (R106). -/
def State.obsTime (s : State) (l : ObjList) (o : ObjRec) : Rat :=
  if s.hasModel then s.hostTime ((l.htime : Rat) + (o.tofs : Rat))
  else nsOf l.since - 1000 * (s.rd GKO_TB_CFG_DEFAULT_AGE_US : Rat)

/-- OBJECT_LIST at issue: the list is read (R100, R252). A BYTES no COUNT gives is refused at once. -/
def State.doObjectList (s : State) (f : Flight) : State :=
  let bytes := f.arg 3
  if f.arg64 1 % 32 ≠ 0 then s.endFlight f.id 5 1 0
  else if bytes < 32 ∨ bytes % 32 ≠ 0 then s.endFlight f.id 5 3 0
  else s.startArgs f.id (f.arg64 1) (min bytes 4128)

/-- The record's observation time is more than 1 s from the present (R101). The state knows the present to within the
tick that runs: where only that decides, the answer is a free value. -/
def State.farFrom (s : State) (t : Rat) : State × Bool :=
  let d := t - nsOf s.tick.time
  let e := nsOf s.tickLength
  let sec : Rat := 1000000000
  if sec + e < d ∨ d < -sec then (s, true)
  else if e - sec ≤ d ∧ d ≤ sec then (s, false)
  else
    let v := s.free
    (v.2, v.1 % 2 == 1)

/-- OBJECT_LIST once its list has arrived: refused under R101, or taken into the input buffer (R102). -/
def State.endObjectList (s : State) (f : Flight) : State :=
  let bs := Cells.take f.buf 0 0 (min (f.arg 3) 4128)
  let id := numAt bs 0 4
  let count := numAt bs 4 2
  let htime := numAt bs 8 8
  let recs := objRecs (min count 128) (bs.drop 32)
  if 128 < count then s.endFlight f.id 5 1 id
  else if f.arg 3 ≠ 32 + 32 * count then s.endFlight f.id 5 3 id
  else if numAt bs 16 4 ≠ crc32c ((bs.drop 32).take (32 * count)) then s.endFlight f.id 5 1 id
  else if recs.any objBad then s.endFlight f.id 5 1 id
  else
    let far := if s.rd GKO_TB_STAT_STATE = 2 then
        (recs.filter (fun o => o.valid)).foldl (fun a o =>
          let r := a.1.farFrom (s.hostTime ((htime : Rat) + (o.tofs : Rat)))
          (r.1, a.2 || r.2)) (s, false)
      else (s, false)
    if far.2 then far.1.endFlight f.id 5 1 id
    else
      let s1 := far.1
      let s2 := match s1.gko.input with
        | none => s1
        | some (old, _, l) => (s1.endFlight old 8 0 l.id).bump GKO_LIST_CNT_SUPERSEDED
      let s3 := { s2 with gko := { s2.gko with
        input := some (f.id, f.ring, { id := id, htime := htime, recs := recs }), listTaken := true } }
      (s3.bump GKO_LIST_CNT_TAKEN).setFlight { f with stage := .accepted }

/-- OBJECT_LIST_ACTIVE (R102): the list in the input buffer becomes the active object table. -/
def State.listActive (s : State) : State :=
  match s.gko.input with
  | none => s
  | some (fid, _, l) =>
    let l' := { l with since := s.tick.time }
    let s1 := { s with gko := { s.gko with input := none, host := l' } }
    ((s1.wr GKO_LIST_LIST_ID l.id).wr GKO_LIST_STAT_HOST ((l.recs.filter (fun o => o.valid)).length)).endFlight fid 0 0 l.id

/-- The engines whose extension tables Gecko draws, in engine order (R107). -/
def State.extTables (s : State) : List (Nat × List ObjRec) :=
  s.eng.engines.map (fun e => (e.tableAt, e.table.take 16))

/-- The boxes of the frame that starts composing, in the order of R107, and how many exceed 288. -/
def State.frameBoxes (s : State) : List Box :=
  let host := ((s.gko.host.recs.filter (fun o => o.valid)).take 128).map (fun o => ⟨o, s.obsTime s.gko.host o⟩)
  let fw := ((s.gko.firmware.filter (fun o => o.valid)).take 32).map (fun o => ⟨o, nsOf s.gko.firmwareAt⟩)
  let ext := s.extTables.flatMap (fun t => (t.2.filter (fun o => o.valid)).map (fun o => ⟨o, nsOf t.1⟩))
  let twin := (s.gko.twin.take 32).map (fun o => ⟨{ o with cls := 15, noMotion := true }, nsOf s.gko.twinAt⟩)
  host ++ fw ++ ext ++ twin

/-- Gecko starts the next frame (R107, R109): the boxes and the time the frame is composed from. -/
def State.startGecko (s : State) : State :=
  let all := s.frameBoxes
  let s1 := { s with gko := { s.gko with boxes := all.take 288, origin := s.tick.time } }
  let s2 := ((s1.wr GKO_LIST_STAT_FW (min 255 s.gko.firmware.length)).wr GKO_LIST_STAT_EXT
    (min 255 (s.extTables.map (fun t => t.2.length)).sum)).wr GKO_LIST_STAT_TWIN (min 255 s.gko.twin.length)
  if 288 < all.length then s2.send 0x06C 0x03 (all.length - 288) else s2

/-- Parameters of object class c in force (R122). -/
def State.classPar (s : State) (c : Nat) : ClassPar :=
  ⟨s.rd (GKO_CLS_DEPTH c), s.rd (GKO_CLS_MARGIN_H c), s.rd (GKO_CLS_MARGIN_V c), s.rd (GKO_CLS_GROW c),
    s.rd (GKO_CLS_FEATHER c)⟩

/-- Device time of the next boundary in nanoseconds, bask corrections ignored (R109), and the one-step alignment of an
unlit follower too (log 209). -/
def State.nextBoundaryNs (s : State) : Rat := nsOf (s.gko.origin + 320 * s.tick.run)

/-- t_b of band b (R109). -/
def State.bandAt (s : State) (b : Nat) : Rat :=
  bandTime s.nextBoundaryNs s.nextTiming.1 s.nextTiming.2 (s.rdI GKO_CFG_LAT_US) b

/-- The boxes as predicted for band b (R110, R111). -/
def State.drawnFor (s : State) (b : Nat) : List Drawn :=
  s.gko.boxes.map (fun x =>
    let dt := horizon (s.rd GKO_CFG_HORIZON_MS) (s.bandAt b) x.tobs
    let c := s.classPar x.obj.cls
    ⟨c, boxRect s.mapPt c (predict x.obj dt) dt⟩)

/-- The mask cells of band b (R112). -/
def State.bandMask (s : State) (b : Nat) : Cells :=
  let own := s.drawnFor b
  let prev := s.drawnFor (b - 1)
  let next := s.drawnFor (b + 1)
  let seam := s.rd GKO_CFG_SEAM_ROWS
  if s.gko.boxes.isEmpty then [] else
    (bandRows b).flatMap (fun y => rowMask (rowDrawn seam own prev next b y) y)

/-- Gecko has rendered its next band, us the time from the boundary (R38, R112). -/
def State.renderBand (s : State) (us : Nat) : State :=
  if 8 ≤ s.comp.bands then s
  else
    let b := s.comp.bands
    let late := (s.gko.boxes.filter (fun x => decide (rawHorizon (s.bandAt b) x.tobs < 0))).length
    let cells := s.bandMask b
    let s1 := { s with comp := { s.comp with
      bands := b + 1
      bandBuf := s.comp.bandBuf.set (b % 2) (some (b, cells.foldl (fun m c => Cells.put m 255 c.1 c.2) []))
      mask := cells.foldl (fun m c => Cells.put m 255 c.1 c.2) s.comp.mask } }
    let s2 := if late = 0 then s1 else s1.bumpBy GKO_OBJ_STAT_CLAMPED late
    if b = 7 then (s2.wr GKO_TIME_LAST_US us).keepMax GKO_TIME_MAX_US us else s2

/-- The active host list is stale in the tick that starts (R113). -/
def State.listStale (s : State) : Bool :=
  let l := s.gko.host
  let valid := l.recs.filter (fun o => o.valid)
  let own : Rat := if s.hasModel then s.hostTime (l.htime : Rat)
    else nsOf l.since - 1000 * (s.rd GKO_TB_CFG_DEFAULT_AGE_US : Rat)
  let tobs := match valid with
    | [] => own
    | o :: os => os.foldl (fun m x => max m (s.obsTime l x)) (s.obsTime l o)
  decide ((s.rd GKO_CFG_HORIZON_MS : Rat) < rawHorizon (s.bandAt 0) tobs)

/-- Stale ticks are counted at each boundary once a list has been taken (R113). -/
def State.countStale (s : State) : State :=
  if ¬ s.gko.listTaken then s
  else if s.listStale then s.bump GKO_OBJ_STAT_STALE_NOW
  else { s.wr GKO_OBJ_STAT_STALE_NOW 0 with gko := { s.gko with staleSent := false } }

/-- OBJECTS_STALE (R113): once in each run of stale ticks. -/
def State.objectsStale (s : State) : State :=
  if max 1 (s.rd GKO_CFG_STALE_TICKS) ≤ s.rd GKO_OBJ_STAT_STALE_NOW ∧ ¬ s.gko.staleSent then
    { (s.wr GKO_OBJ_STAT_STALE 1).send 0x06C 0x02 (s.rd GKO_OBJ_STAT_STALE_NOW) with
      gko := { s.gko with staleSent := true } }
  else s

/-- Device time of boundary k (low 32 bits lo of its tick count) among the last 16 (R104). -/
def State.boundaryTime (s : State) (lo : Nat) : Option Nat :=
  (s.tick.past.find? (fun p => p.1 % 2 ^ 32 == lo % 2 ^ 32)).map (fun p => p.2)

/-- The time base's state number and the run counts that go with it. -/
def State.tbTo (s : State) (st : Nat) : State := s.wr GKO_TB_STAT_STATE st

/-- A signed number of nanoseconds stopped at ±32,767 (R122). -/
def sat16 (r : Rat) : Int := held (-32767) 32767 (Rat.floor r)

/-- An accepted answer for device time tk and host time hk (R105); the one that seeds the model has no error, and LAST_NS shows 0
(log 208). -/
def State.tbAccept (s : State) (tk hk pred err : Rat) : State :=
  let tb := s.gko.tb
  let st := s.rd GKO_TB_STAT_STATE
  let s1 :=
    if st = 0 then
      { s with gko := { s.gko with tb := { href := hk, tref := tk, rate := 0, tprev := tk, inAcquire := 1 } } }
    else
      { s with gko := { s.gko with tb := { tb with
          href := pred + err / 8
          tref := tk
          rate := tb.rate + err / (256 * (tk - tb.tprev))
          tprev := tk
          rejRun := 0
          quiet := 0
          inAcquire := min 255 (tb.inAcquire + 1) } } }
  let s2 := ((s1.wrI GKO_TB_ERR_LAST_NS (sat16 err)).bump GKO_TB_STAT_ACCEPTED).wrI GKO_TB_RATE_RATE_PPB
    (Rat.floor (s1.gko.tb.rate * 1000000000))
  if st = 0 then s2.tbTo 1
  else if st = 3 then s2.tbTo 2
  else if st = 1 ∧ 16 ≤ s2.gko.tb.inAcquire then s2.tbTo 2
  else s2

/-- A rejected answer; the eighth in a row clears the model (R105). -/
def State.tbReject (s : State) (err : Rat) : State :=
  let st := s.rd GKO_TB_STAT_STATE
  let tb : TimeBase := { s.gko.tb with rejRun := s.gko.tb.rejRun + 1 }
  let s1 := ({ s with gko := { s.gko with tb := tb } }.bump GKO_TB_ERR_REJECTS).wrI GKO_TB_ERR_LAST_NS (sat16 err)
  if (st = 1 ∨ st = 2) ∧ 8 ≤ tb.rejRun then
    (({ s1 with gko := { s1.gko with tb := {} } }.tbTo 0).wr GKO_TB_STAT_ACCEPTED 0).wr GKO_TB_RATE_RATE_PPB 0
  else s1

/-- TICK_MARK from the host: boundary lo, host arrival time h in ns (R104, R105). An answer for a boundary more than 16
ticks past is ignored. -/
def State.tickMark (s : State) (lo h : Nat) : State :=
  match s.boundaryTime lo with
  | none => s
  | some cyc =>
    let tk := nsOf cyc
    let hk := (h : Rat) - (s.rd GKO_TB_DLY_UP_NS : Rat)
    let tb := s.gko.tb
    let pred := tb.href + (tk - tb.tref) * (1 + tb.rate)
    let err := if s.hasModel then hk - pred else 0
    let lim := 1000 * (max 1 (s.rd GKO_TB_CFG_REJECT_US) : Nat)
    if s.hasModel ∧ ((lim : Rat) < err ∨ err < -(lim : Rat)) then s.tbReject err else s.tbAccept tk hk pred err

/-- TIMEBASE_LOST (R105): LOSS_TICKS ticks LOCKED without an accepted answer. -/
def State.timebaseLost (s : State) : State :=
  if s.rd GKO_TB_STAT_STATE = 2 ∧ max 16 (s.rd GKO_TB_CFG_LOSS_TICKS) ≤ s.gko.tb.quiet then
    (s.tbTo 3).send 0x06C 0x01 0
  else s

/-- A boundary passes without an answer so far (R105). -/
def State.tbTick (s : State) : State :=
  { s with gko := { s.gko with tb := { s.gko.tb with quiet := min 255 (s.gko.tb.quiet + 1) } } }

end Sys2Proof.Machine
end

