-- ==== Sys2Proof/Machine/Engines.lean ====
section
/-! DEFINITION. The Newt engines: run slots and work items (R90–R92), what an engine may touch (R93), extension
programs (R94–R99) and the engines' faults (R88, R121). -/

namespace Sys2Proof.Machine

/-- Engine e. -/
def State.engine (s : State) (e : Nat) : Engine := s.eng.engines.getD e {}

def State.setEngine (s : State) (e : Nat) (x : Engine) : State :=
  { s with eng := { s.eng with engines := s.eng.engines.set e x } }

/-- Roles of R89. -/
def State.isVendor (s : State) (e : Nat) : Bool := s.rd (NWT_CTL_ROLE e) == 1
def State.isExt (s : State) (e : Nat) : Bool := s.rd (NWT_CTL_ROLE e) == 2

/-- The engine runs (R123). -/
def State.running (s : State) (e : Nat) : Bool := s.rd (NWT_STAT_STATE e) == 2

/-- A fault of engine e is sent and shown (R121, R123). -/
def State.engFault (s : State) (e kind addr : Nat) : State := (s.wr (NWT_STAT_LAST_KIND e) kind).send (0x040 + e) kind addr

/-- HOLD_TICKS of engine e; 0 acts as 1 (R123). -/
def State.holdTicks (s : State) (e : Nat) : Nat := max 1 (s.rd (NWT_CTL_HOLD_TICKS e))

/-- An EXT engine stops: its last table is rendered in HOLD_TICKS more ticks (R99), of which `now` begin at the boundary that
stops it. A table that is held already, since the program that stops wrote none, is held no longer for it. -/
def State.holdTable (s : State) (e now : Nat) : State :=
  if s.isExt e ∧ (s.engine e).hold.isNone then s.setEngine e { s.engine e with hold := some (s.holdTicks e - now) } else s

/-- Nothing is queued on engine e any more. -/
def State.dropItems (s : State) (e : Nat) : State := s.setEngine e { s.engine e with queue := [], preempted := [] }

/-- Engine e halts with a fault (R121). -/
def State.haltEngine (s : State) (e kind addr : Nat) : State :=
  (((s.wr (NWT_STAT_STATE e) 3).holdTable e 0).dropItems e).engFault e kind addr

/-- ENGINE_WATCHDOG (R92). -/
def State.engWatchdog (s : State) (e pc : Nat) : State := if s.running e then s.haltEngine e 0x01 pc else s

/-- ENGINE_ILLEGAL_OP (R121). -/
def State.engIllegal (s : State) (e pc : Nat) : State := if s.running e then s.haltEngine e 0x07 pc else s

/-- ENGINE_ACCESS_VIOLATION (R93): ACCESS_VIOLATION of a VENDOR engine, EXT_VIOLATION of an EXT engine. -/
def State.engViolation (s : State) (e addr : Nat) : State :=
  if s.running e then s.haltEngine e (if s.isExt e then 0x05 else 0x04) addr else s

/-- ENGINE_ECC_ERROR (R88): corrected and counted, or a halt whatever the engine did; bit 23 of the address marks the data
SRAM. -/
def State.engEcc (s : State) (e : Nat) (double data : Bool) (addr : Nat) : State :=
  if ¬ double then s.bump (NWT_ECC_CORRECTED e)
  else
    let at' := addr % 2 ^ 23 + (if data then 2 ^ 23 else 0)
    let s1 := s.wr (NWT_ECC_UNCORR e) 1
    if s.running e then s1.haltEngine e 0x02 at' else (s1.wr (NWT_STAT_STATE e) 3).engFault e 0x02 at'

/-- The work items of engine e in the running tick: the image's list, or an extension's one DEFERRABLE item (R91,
R98). -/
def State.itemsOf (s : State) (e : Nat) : List WorkItem :=
  if s.isExt e then (if s.running e then [⟨0, s.rd (NWT_BUDGET_CYCLES e), false⟩] else []) else (s.engine e).items

/-- Item i of engine e is ESSENTIAL (R91). -/
def State.essential (s : State) (e i : Nat) : Bool := ((s.itemsOf e)[i]?).any (fun it => it.essential)

/-- Engine e queues its items of slot n behind those that still run: the ESSENTIAL ones and those granted in this tick, a
preempted one at the point where it stopped (R91, R92). -/
def State.queueItems (s : State) (n e : Nat) : State :=
  if ¬ s.running e then s
  else
    let x := s.engine e
    let new := ((List.zip (List.range 32) (s.itemsOf e)).filter (fun p =>
      p.2.slot == n && (p.2.essential || bitOf (s.rd (NWT_GRANT_ITEMS e)) p.1))).map (fun p => p.1)
    s.setEngine e { x with
      queue := x.queue ++ new.map (fun i => (i, x.preempted.contains i))
      preempted := x.preempted.filter (fun i => !new.contains i) }

/-- Run slot n starts on every engine (R90). -/
def State.startSlot (s : State) (n : Nat) : State :=
  upTo 32 { s with eng := { s.eng with slot := n } } (fun a e => a.queueItems n e)

/-- The commit cut-off passes: later commits are LATE, and the CLOSE slot starts (R75, R90). -/
def State.commitCutoff (s : State) : State :=
  if s.comp.cutoff then s else { s with comp := { s.comp with cutoff := true } }.startSlot 3

/-- ENGINE_ITEM_PREEMPT (R92): a queued DEFERRABLE item past its allowance. -/
def State.engPreempt (s : State) (e i : Nat) : State :=
  let x := s.engine e
  if s.essential e i ∨ ¬ s.running e ∨ ¬ x.queue.any (fun q => q.1 == i) then s
  else
    (s.setEngine e { x with
      queue := x.queue.filter (fun q => q.1 != i)
      preempted := x.preempted.filter (fun k => k != i) ++ [i] }).bump (NWT_DEFER_PREEMPT e)

/-- ENGINE_EVENT_POST (R93, R250): word1 above its engine field, and the two message words. An EXT engine posts at most
4 in a tick; the next post is blocked, at an address the spec does not give. -/
def State.engPost (s : State) (e w1 lo hi : Nat) : State :=
  if ¬ s.running e then s
  else if s.isVendor e then (s.postEvent 1 0 0 (e + w1 / 32 * 32) lo hi).endBatch
  else if s.isExt e then
    let x := s.engine e
    if x.posted < 4 then
      ((s.setEngine e { x with posted := x.posted + 1 }).postEvent 2 0 0 (e + w1 / 32 * 32) lo hi).endBatch
    else
      let v := s.free
      v.2.haltEngine e 0x05 v.1
  else s

/-- EXT_TABLE_HOLD_EXPIRY (R99). -/
def State.holdExpiry (s : State) (e : Nat) : State :=
  let x := s.engine e
  match x.hold with
  | some 0 => s.setEngine e { x with hold := none, table := [] }
  | _ => s

/-- Holds count down at each boundary; a table held for its last tick is empty after it, whether or not the expiry was
delivered (R99). -/
def State.holdTick (s : State) : State :=
  { s with eng := { s.eng with engines := s.eng.engines.map (fun x =>
      if x.hold = some 0 then { x with hold := none, table := [], posted := 0 }
      else { x with hold := x.hold.map (fun n => n - 1), posted := 0 }) } }

/-- What engine r.engine did in the tick that ends (R92, R123): the item that still runs and those behind it stay queued;
TICK_MISS names the first ESSENTIAL one among them, once in each run. -/
def State.engReport (s : State) (r : EngReport) : State :=
  let e := r.engine
  let x := s.engine e
  if ¬ s.running e ∧ ¬ x.ran then s
  else
    let used := min (2 ^ 24 - 1) r.cycles
    let rest := match r.unfinished with
      | none => []
      | some i => x.queue.dropWhile (fun q => q.1 != i)
    let s1 := ((s.wr (NWT_CYC_LAST e) used).keepMax (NWT_CYCMAX_MAX e) used).setEngine e { x with queue := rest }
    match rest.find? (fun q => s.essential e q.1) with
    | none => s1.setEngine e { x with queue := rest, missRun := false }
    | some q =>
      let s2 := s1.bump (NWT_MISS_TICK_MISS e)
      if x.missRun then s2 else (s2.setEngine e { x with queue := rest, missRun := true }).engFault e 0x03 q.1

/-- What the engines did in the tick that ends; one that is not reported used no cycles and has finished nothing (R92,
R123). -/
def State.engReports (s : State) (l : List EngReport) : State :=
  upTo 32 s (fun a e =>
    (a.wr (NWT_CYC_LAST e) 0).engReport ((l.find? (fun r => r.engine == e)).getD
      ⟨e, 0, (a.engine e).queue.head?.map (fun q => q.1)⟩))

/-- The engines that run as a tick begins (R99, R123), and its OPEN slot (R90). -/
def State.openTick (s : State) : State :=
  (upTo 32 s (fun a e => a.setEngine e { a.engine e with ran := a.running e })).startSlot 0

/-- Object tables the engines wrote in the tick that ends take effect (R93, R98): observed at the boundary that began
it. An engine that has stopped in the tick wrote its last one before that, and it is held from then on (R99). -/
def State.takeTables (s : State) (at' : Nat) (fw : Option (List ObjRec)) (ext : List (Nat × List ObjRec)) : State :=
  let s1 := match fw with
    | none => s
    | some l => { s with gko := { s.gko with firmware := l.take 32, firmwareAt := at' } }
  ext.foldl (fun a p =>
    let x := a.engine p.1
    if a.isExt p.1 ∧ (a.running p.1 ∨ x.ran) then
      a.setEngine p.1 { x with table := p.2.take 16, tableAt := at', hold := if a.running p.1 then none else some (a.holdTicks p.1) }
    else a) s1

/-- Items withheld in the tick that starts are counted (R91): grant bit i clear on a DEFERRABLE item. -/
def State.countDeferred (s : State) (e : Nat) : State :=
  let n := ((List.zip (List.range 32) (s.itemsOf e)).filter (fun p =>
    !p.2.essential && !bitOf (s.rd (NWT_GRANT_ITEMS e)) p.1)).length
  if n = 0 ∨ ¬ s.running e then s else s.bumpBy (NWT_DEFER_DEFERRED e) n

/-- ENGINE_LOAD at issue (R94, R252). -/
def State.doEngineLoad (s : State) (f : Flight) : State :=
  let e := bitsOf (f.arg 1) 0 5
  if s.life.state = 0 ∨ ¬ s.isExt e then s.endFlight f.id 4 0 0
  else if f.arg64 2 % 64 ≠ 0 then s.endFlight f.id 5 2 0
  else if f.arg 4 < 192 ∨ 196736 < f.arg 4 then s.endFlight f.id 5 4 0
  else (s.setFlight { f with stage := .accepted }).startArgs f.id (f.arg64 2) (f.arg 4)

/-- A header field of an extension image breaks R95. -/
def badExtHeader (bs : List Nat) : Bool :=
  numAt bs 0 4 != 0x5845574E || numAt bs 4 2 != 1 || decide (1 < byteAt bs 6) || byteAt bs 7 != 0 ||
    numAt bs 12 4 % 64 != 0 || decide (numAt bs 12 4 < 64) || decide (65536 < numAt bs 12 4) ||
    numAt bs 16 4 % 64 != 0 || decide (131072 < numAt bs 16 4) ||
    numAt bs 20 4 % 4 != 0 || decide (numAt bs 12 4 ≤ numAt bs 20 4) ||
    decide (numAt bs 24 4 < 1000) || decide (1600000 < numAt bs 24 4) || numAt bs 28 36 != 0

/-- ENGINE_LOAD once the image has arrived: the checks before the signature (R94). -/
def State.endEngineLoad (s : State) (f : Flight) : State :=
  let bs := Cells.take f.buf 0 0 (f.arg 4)
  if badExtHeader bs then s.endFlight f.id 5 2 0
  else if f.arg 4 ≠ 128 + numAt bs 12 4 + numAt bs 16 4 then s.endFlight f.id 5 4 0
  else if (byteAt bs 6 = 1 ∧ s.eng.key1 = none) ∨ (byteAt bs 6 = 0 ∧ s.eng.key0 = none) then s.endFlight f.id 3 0 0
  else { s with eng := { s.eng with loads := s.eng.loads ++ [⟨f.id, bitsOf (f.arg 1) 0 5, bs, 0⟩] } }

/-- The signature of a staged image verifies (R96). -/
def State.extSigOk (s : State) (bs : List Nat) : Bool :=
  let key := if byteAt bs 6 = 1 then s.eng.key1.getD 0 else s.eng.key0.getD 0
  ecdsaOk key (sha256 (bs.take 64 ++ bs.drop 128)) (beNat ((bs.drop 64).take 32)) (beNat ((bs.drop 96).take 32))

/-- ENGINE_IMAGE_VERIFIED of engine e (R94, R97). -/
def State.imageVerified (s : State) (e : Nat) : State :=
  match s.eng.loads.find? (fun l => l.engine == e && l.step == 0) with
  | none => s
  | some l =>
    if s.extSigOk l.image then
      { s with eng := { s.eng with loads := s.eng.loads.map (fun x => if x.id = l.id then { x with step := 1 } else x) } }
    else
      let s1 := { s with eng := { s.eng with loads := s.eng.loads.filter (fun x => x.id != l.id) } }
      (s1.engFault e 0x06 (numAt l.image 8 4)).complete l.id 3 0 0

/-- ENGINE_PROGRAM_START at a boundary (R97): verified images are copied, copied programs start and complete. -/
def State.loadStep (s : State) (l : ExtLoad) : State :=
  let e := l.engine
  if l.step = 1 then
    let isize := numAt l.image 12 4
    let dsize := numAt l.image 16 4
    let x := s.engine e
    let s1 := if s.running e then s.holdTable e 1 else s
    let y := { s1.engine e with
      code := Cells.putMany x.code 0 0 ((l.image.drop 128).take isize)
      data := Cells.putMany [] 0 0 ((l.image.drop (128 + isize)).take dsize)
      entry := numAt l.image 20 4
      queue := []
      preempted := [] }
    let s2 := ((s1.setEngine e y).wr (NWT_STAT_STATE e) 1)
    { s2 with eng := { s2.eng with loads := s2.eng.loads.map (fun z => if z.id = l.id then { z with step := 2 } else z) } }
  else if l.step = 2 then
    let s1 := { s with eng := { s.eng with loads := s.eng.loads.filter (fun z => z.id != l.id) } }
    (((s1.wr (NWT_STAT_STATE e) 2).wr (NWT_IMG_IMG_ID e) (numAt l.image 8 4)).wr (NWT_BUDGET_CYCLES e)
      (numAt l.image 24 4)).endFlight l.id 0 0 0
  else s

def State.loadSteps (s : State) : State := s.eng.loads.foldl State.loadStep s

end Sys2Proof.Machine
end

