-- ==== Sys2Proof/Machine/Scanout.lean ====
section
/-! DEFINITION. Scan-out: the three sources (R125, R126), concealment and drive level (R154, R173), rows (R127–R141),
the pixel bus and the Croak (R139–R143), readback (R144–R146) and the sub-periods (R135–R138). -/

namespace Sys2Proof.Machine

def State.setSft (s : State) (x : SftBlock) : State := { s with sft := x }

/-- The newest message sent. -/
def State.lastMsg (s : State) : CauseRef := .msg (s.flt.sent - 1)

/-- Region rows of die d switched off under R141. -/
def State.rowsOff (s : State) (d : Nat) : Nat := (s.scn.off.filter (fun k => k / 320 / 32 == d)).length

/-- The failing conditions of R305, in its row order. -/
def State.skinkFails (s : State) : List Bool :=
  [!s.isOn SFT_SK_STAT_VALID, s.sft.busBad, s.sft.frozenBad, s.scn.missRun.any (fun n => decide (2 ≤ n)),
    (List.range 2).any (fun d => decide (s.rd SFT_SK_CFG_BLANK_MAX < s.rowsOff d)), s.sft.pllBad || s.sft.clkBad,
    s.sal.underSent.any id]

/-- The Skink path is healthy (R305). -/
def State.healthy (s : State) : Bool := !s.skinkFails.any id

/-- t is what s became with its newest message: where that turned the Skink path unhealthy, the message is the cause (R313). -/
def State.failsFrom (t s : State) : State :=
  if s.healthy ∧ ¬ t.healthy then t.setSft { t.sft with failRef := t.lastMsg } else t

/-- The source rows load from: 0 FRAME, 1 SKINK, 2 DARK (R125). -/
def State.source (s : State) : Nat := s.rd SCN_CTL_SOURCE

/-- The health word of a pixel (R157). -/
def State.healthWord (s : State) (p : Nat) : Nat := s.pix.health.get p

/-- A pixel is dead (R157). -/
def State.dead (s : State) (p : Nat) : Bool := decide (3 ≤ bitsOf (s.healthWord p) 0 3)

/-- The 4-neighbours of pixel p on its own die: right, left, lower, upper. -/
def neighbours (p : Nat) : List Nat :=
  let x := p % 2048
  let y := p / 2048
  (if x % 1024 < 1023 then [p + 1] else []) ++ (if 0 < x % 1024 then [p - 1] else []) ++
    (if y < 639 then [p + 2048] else []) ++ (if 0 < y then [p - 2048] else [])

/-- live(p): 4-neighbours on the die that are not dead (R173, R179). -/
def State.live (s : State) (p : Nat) : Nat := ((neighbours p).filter (fun q => !s.dead q)).length

/-- GAIN of a region in 16ths (R177). -/
def State.concealGain (s : State) (n : Nat) : Nat := min 16 (s.smp (PXD_CONCEAL_GAIN n))

/-- I'(p): the intensity with the shares of dead neighbours, capped at the envelope maximum (R173). -/
def State.conceal (s : State) (light : Cells) (p : Nat) : Nat :=
  let own := Cells.get light 0 p
  if s.smp (PXD_CONCEAL_EN (regionOf p)) = 0 then own
  else
    let add : Rat := ((neighbours p).map (fun q =>
      if s.dead q ∧ 0 < s.live q then
        ((Cells.get light 0 q * s.concealGain (regionOf q) : Nat) : Rat) / ((16 * s.live q : Nat) : Rat)
      else 0)).sum
    min (roundRat ((own : Rat) + add)).toNat (envMax (s.gko.env.get p))

/-- VG of a tile as scan-out uses it (R211, R217). -/
def State.vg (s : State) (t : Nat) : Nat := s.cal.vignet.get t

/-- LEVEL of pixel p in FRAME before the limit (R154): the exact product over its denominator. -/
def State.levelRaw (s : State) (p : Nat) : Nat :=
  let n := regionOf p
  let t := tileOf p
  let u := (256 + signed 6 (s.pix.uTrim.get p)).toNat
  let tg := min 16384 (s.pix.tgainUsed.get t)
  roundEven (s.smp (PXD_NOM_LEVEL n) * s.pix.fGain.get p * u * s.vg t * (128 + bitsOf (s.healthWord p) 3 5) * (65536 + tg))
    (128 * 256 * 32768 * 128 * 65536)

/-- LEVEL_MAX of a region: above 0xC000 it acts as 0xC000 (R177). -/
def State.levelMax (s : State) (n : Nat) : Nat := min 0xC000 (s.smp (PXD_LIMIT_LEVEL_MAX n))

/-- The intensity the safety island supplies for pixel p (R311). -/
def State.skinkLight (s : State) (p : Nat) : Nat :=
  envMax (Cells.get s.skink.pattern 0 (p / 2048 / 2 * 1024 + p % 2048 / 2)) * s.rd SFT_SK_STAT_SCALE / 1024

/-- The set-up the mapper samples at each boundary (R133, R149). -/
def State.rmin (s : State) : Nat := s.smp SCN_CTL_RMIN
def State.lowcut (s : State) : Bool := s.smp SCN_CTL_LOWCUT != 0

/-- The intensity of pixel p as it enters the drive mapper. -/
def State.driveLight (s : State) (p : Nat) : Nat :=
  if s.source = 0 then (if s.dead p then 0 else s.conceal s.front.light p)
  else if s.source = 1 then s.skinkLight p else 0

/-- The pixel word sent for pixel p (R134, R154, R156). -/
def State.wordOf (s : State) (p : Nat) : Nat :=
  if s.source = 0 then
    if s.dead p then 0
    else
      let m := driveMap s.rmin s.lowcut (s.driveLight p)
      pixelWord m.2 m.1 (min (s.levelMax (regionOf p)) (s.levelRaw p))
  else if s.source = 1 then
    let m := driveMap s.rmin s.lowcut (s.driveLight p)
    pixelWord m.2 m.1 (s.rd (PXD_SKNOM_LEVEL (regionOf p)))
  else 0

/-- The current of a pixel word while its slot is on, in units of 1/8192 µA (R151). -/
def wordCurrent (w : Nat) : Nat := min 0xC000 (bitsOf w 16 16) * 2 ^ bitsOf w 12 2

/-- The words row r of region n holds (R150). -/
def State.rowWords (s : State) (n r : Nat) : List Nat := Keyed.get s.scn.rows (List.replicate 64 0) (320 * n + r)

/-- The row of its region that pixel p is in. -/
def rowIn (p : Nat) : Nat := p / 2048 - regionRow (regionOf p)

/-- The word pixel p holds (R150). -/
def State.heldWord (s : State) (p : Nat) : Nat :=
  (s.rowWords (regionOf p) (rowIn p)).getD (p % 2048 - regionCol (regionOf p)) 0

/-- Pixel p is held off: its tile, its row or the pixel itself is switched off (R126, R141, R143, R156). -/
def State.heldOff (s : State) (p : Nat) : Bool :=
  s.scn.blank || s.scn.dark.getD (dieOf p) true || s.scn.off.contains (320 * regionOf p + rowIn p) ||
    Cells.get s.pix.kill 0 p == 1

/-- A pixel's light is on in sub-period j for this many slots (R136). -/
def State.slotsLit (s : State) (p j : Nat) : Nat :=
  if s.heldOff p then 0 else slotsOn (tileOf p) j s.scn.seed (bitsOf (s.heldWord p) 0 12)

/-- Pixel p is on in slot n of the sub-period now running: its slots follow each other from OFFSET and wrap (R136). -/
def State.pixelOn (s : State) (p n : Nat) : Bool :=
  decide ((n + 256 - pulseOffset (tileOf p) s.scn.sub s.scn.seed) % 256 < s.slotsLit p s.scn.sub)

/-- Sub-period j of the running tick in SCA cycles, and its start after the boundary (R135); the last one takes up the
bask's correction, so that it ends on the boundary (R138). -/
def State.subLength (s : State) (j : Nat) : Nat :=
  ((20 * s.tick.run : Nat) + (if j = 15 then s.tick.applied else 0) : Int).toNat
def State.subStart (s : State) (j : Nat) : Nat := 20 * s.tick.run * j

/-- Where slot n of sub-period j starts, in SCA cycles after the sub-period does (R135, R138). -/
def State.slotStart (s : State) (j n : Nat) : Nat := n * s.subLength j / 256

/-- The drive level pixel p has c cycles after the last row start: that of the word it held before until its row's write
phase ends (R128, R129). -/
def State.levelAt (s : State) (p c : Nat) : Nat :=
  let n := regionOf p
  let old := (Keyed.get s.scn.was (s.rowWords n (rowIn p)) n).getD (p % 2048 - regionCol n) 0
  let writing := ¬ s.isOn TCK_ROWPOS_BASK ∧ s.rd TCK_ROWPOS_ROW = rowIn p ∧ c < s.rd TCK_ROWTIME_ROW_CYC - 80
  bitsOf (if writing then old else s.heldWord p) 16 16

/-- The step of the bask that measures pixel p's row c cycles after the boundary (R164). -/
def State.sensedAt (s : State) (p c : Nat) : Option Sensed :=
  if s.isOn TCK_ROWPOS_BASK then
    s.pix.sensed.find? (fun x => x.row == 320 * regionOf p + rowIn p && decide (x.start ≤ c) && decide (c < x.stop))
  else none

/-- The current of pixel p in µA, c cycles after the last row start, or in the bask after the boundary: while its slot is on
that of its word (R129, R151); in a row that is measured the sense current, whatever its slots (R164), and none of it where
the pixel is killed (R156). No current is answered in the phases of a neighbour test, whose instants the spec does not give (log 215). -/
def State.currentAt (s : State) (p c : Nat) : Option Rat :=
  match s.sensedAt p c with
  | some x => if Cells.get s.pix.kill 0 p ≠ 0 then some 0 else if x.phased then none else some ((s.smp AXL_CFG_ISENSE : Rat) / 40)
  | none => some ((wordCurrent (bitsOf (s.heldWord p) 0 16 + 65536 * s.levelAt p c) : Rat) / 8192)

/-- Readback bit fields by die. -/
def rbMism (d : Nat) : Fld := if d = 0 then SCN_RB_STAT_MISM_A else SCN_RB_STAT_MISM_B
def rbFroz (d : Nat) : Fld := if d = 0 then SCN_RB_STAT_FROZ_A else SCN_RB_STAT_FROZ_B
def rbMiss (d : Nat) : Fld := if d = 0 then SCN_RB_STAT_MISS_A else SCN_RB_STAT_MISS_B
def rbRgn (d : Nat) : Fld := if d = 0 then SCN_RB_STAT_RGN_A else SCN_RB_STAT_RGN_B
def rbExp (d : Nat) : Fld := if d = 0 then SCN_RB_EXP_A_CRC else SCN_RB_EXP_B_CRC
def rbGot (d : Nat) : Fld := if d = 0 then SCN_RB_GOT_A_CRC else SCN_RB_GOT_B_CRC
def croakLost (d : Nat) : Fld := if d = 0 then SCN_CROAK_CNT_LOST_A else SCN_CROAK_CNT_LOST_B

/-- The region of die d checked in the tick whose boundary has count k (R144). -/
def rbRegion (d k : Nat) : Nat := 32 * d + k % 32

/-- The region checked in the tick now running takes the words of one of its rows (R144). -/
def State.rbRow (s : State) (d n r : Nat) : State :=
  if n = rbRegion d s.tick.count then
    let ws := if s.scn.off.contains (320 * n + r) then List.replicate 64 0 else s.rowWords n r
    { s with scn := { s.scn with
        rb := s.scn.rb.set d (Algo.feedAll .crc32c (s.scn.rb.getD d 0) (ws.flatMap (fun w => leBytes 4 w))) } }
  else s

/-- The pixel word of pixel p as it goes out on the bus (R134, R149, R154). -/
def State.busWord (s : State) (p : Nat) : BusWord :=
  { word := s.wordOf p
    clip := decide (s.source = 0) && !s.dead p && decide (s.levelMax (regionOf p) < s.levelRaw p)
    low := s.lowcut && s.source != 2 && lowcutHit s.rmin (s.driveLight p) }

/-- 64 words of zeros, which a region row that is not listed gets (R139). -/
def darkWords : List BusWord := List.replicate 64 {}

/-- The packet of a region row: 64 pixel words, little-endian, and their CRC-16 (R139, R388). -/
def rowPacket (ws : List BusWord) : List Nat :=
  let bs := ws.flatMap (fun w => leBytes 4 w.word)
  bs ++ leBytes 2 (Algo.of .crc16 bs)

/-- The emitter die's check of a packet (R140). -/
def packetIntact (bs : List Nat) : Bool := bs.length == 258 && Algo.of .crc16 (bs.take 256) == numAt bs 256 2

/-- The words of row r of all regions go out in the row time before it (R139); none in DARK (R125). -/
def State.sendRow (s : State) (r : Nat) : State :=
  let words (n : Nat) : List BusWord := (List.range 64).map (fun c => s.busWord (regionPix n c r))
  { s with scn := { s.scn with
    next := r
    ahead := if s.source = 2 ∨ 320 ≤ r then [] else
      ((List.range 64).map (fun n => (n, words n))).filter (fun q => q.2 != darkWords) } }

/-- Counts of R149, R154 and R180 over one word loaded into pixel p. -/
def State.countWord (s : State) (p : Nat) (b : BusWord) : State :=
  let w := b.word
  let code := bitsOf w 0 12
  let rng := bitsOf w 12 2
  let t := tileOf p
  let wt := 2 ^ (rng + 1) * code
  { s with scn := { s.scn with
      rangeAcc := if code = 0 then s.scn.rangeAcc else s.scn.rangeAcc.set rng (s.scn.rangeAcc.getD rng 0 + 1)
      lowAcc := if b.low then s.scn.lowAcc + 1 else s.scn.lowAcc
      clipAcc := if b.clip then Keyed.put s.scn.clipAcc (regionOf p) (Keyed.get s.scn.clipAcc 0 (regionOf p) + 1)
        else s.scn.clipAcc
      kNum := if code = 0 then s.scn.kNum else Keyed.put s.scn.kNum t (Keyed.get s.scn.kNum 0 t + bitsOf w 16 16 * wt)
      kDen := if code = 0 then s.scn.kDen else Keyed.put s.scn.kDen t (Keyed.get s.scn.kDen 0 t + wt) } }

/-- Row r of region n is selected and takes the words the bus has brought; its codes are in force, its drive levels once
they are written (R129, R139, R141). -/
def State.loadRow (s : State) (n r : Nat) : State :=
  let ps := (List.range 64).map (fun c => regionPix n c r)
  let sent := Keyed.get s.scn.ahead darkWords n
  let ws := sent.map (fun b => b.word)
  let key := 320 * n + r
  let s1 := { s with scn := { s.scn with
    was := Keyed.put s.scn.was n (s.rowWords n r)
    rows := if ws.all (fun w => w == 0) then Keyed.erase s.scn.rows key else Keyed.put s.scn.rows key ws
    missed := s.scn.missed.filter (fun k => k != key)
    off := s.scn.off.filter (fun k => k != key) } }
  (List.zip ps sent).foldl (fun a q => a.countWord q.1 q.2) s1

/-- Row r of region n is missed: repeated, or switched off at the second miss in a row (R141). -/
def State.missRow (s : State) (n r : Nat) : State :=
  let d := n / 32
  let key := 320 * n + r
  let y := regionRow n + r
  if s.scn.off.contains key then s
  else if s.scn.missed.contains key then
    (({ s with scn := { s.scn with off := s.scn.off ++ [key], missed := s.scn.missed.filter (fun k => k != key) } }.bump
      (SCN_ROWCNT_BLANKED d)).send (dieSource d) 0x03 (y + 1024 * n)).failsFrom s
  else
    ({ s with scn := { s.scn with missed := s.scn.missed ++ [key] } }.bump (SCN_ROWCNT_REPEATED d)).send
      (dieSource d) 0x02 (y + 1024 * n)

/-- A packet of region n's row r failed its CRC; lane carried its first byte (R140). -/
def State.pixbusCrc (s : State) (n r lane : Nat) : State :=
  (s.bump (SCN_BUSCNT_CRC_ERR (n / 32))).send (dieSource (n / 32)) 0x01 (regionRow n + r + 1024 * (lane % 4))

/-- Row r starts in region n of a die that gets rows (R127, R129, R141); in DARK no rows load and none is missed (R125,
R146), and none is counted for a die declared down (R142; log 219). -/
def State.startRegionRow (s : State) (missed : List Nat) (r n : Nat) : State :=
  if s.scn.down.getD (n / 32) false then s.rbRow (n / 32) n r
  else if ¬ s.isOn (SCN_BUS_UP (n / 32)) then s
  else
    let s1 := if s.source = 2 then s else if missed.contains n then s.missRow n r else s.loadRow n r
    s1.rbRow (n / 32) n r

/-- Row r of every region starts (R129, R139–R141, R144): missed lists the regions whose packet did not arrive intact,
crc the packets that failed their CRC (region, lane) whether or not a repeat arrived, counted here (log 220). The next row's
words go out. -/
def State.startRow (s : State) (r : Nat) (missed : List Nat) (crc : List (Nat × Nat)) : State :=
  let s1 := { s.wr TCK_ROWPOS_ROW r with scn := { s.scn with was := [] } }
  let s2 := if s.source = 2 then s1 else crc.foldl (fun a c => a.pixbusCrc c.1 r c.2) s1
  let s3 := ((List.range 64).foldl (fun a n => a.startRegionRow missed r n) s2).sendRow (r + 1)
  if r = 320 - s.cutoffRows then s3.commitCutoff else s3

/-- BASK_END: the active part begins, with the ACTIVE run slot and the row sequencer; row 0's words went out in the last row
time of the bask (R31, R90, R127, R139). -/
def State.baskEnd (s : State) : State :=
  if ¬ s.isOn TCK_ROWPOS_BASK then s
  else
    ((s.sendRow 0).wr TCK_ROWPOS_BASK 0).startSlot 1

/-- ROW_START: the next row in the fixed order 0 to 319 (R127), the first one at the bask's end; with none left in this tick
nothing starts. -/
def State.rowStart (s0 : State) (missed : List Nat) (crc : List (Nat × Nat)) : State :=
  let s := s0.baskEnd
  if s.scn.next < 320 then s.startRow s.scn.next missed crc else s

/-- The scan-out source of the tick that starts (R125, R126, R407, R416): mode of the safety island, a swap at this
boundary, first light permitted, and a lock-out that has just ended. -/
def nextSource (source mode : Nat) (swapped permitted ended : Bool) : Nat :=
  if mode = 3 then 2
  else if mode = 2 then 1
  else if source = 2 then (if ended then 1 else if swapped ∧ permitted then 0 else 2)
  else if source = 1 then (if swapped ∧ permitted then 0 else 1)
  else 0

/-- A written SEED comes into force at a boundary that ends a tick in DARK (R136). -/
def State.takeSeed (s : State) : State :=
  if s.source = 2 then { s with scn := { s.scn with seed := s.rd SCN_CTL_SEED } }.wr SCN_CTL_SEED_PEND 0 else s

/-- SEED_WRITE (R136, R149); SEED_PEND reads 1 whatever the source, log 211. -/
def State.seedWrite (s : State) (v : Nat) : State := (s.wr SCN_CTL_SEED v).wr SCN_CTL_SEED_PEND 1

/-- BLANK on both pixel buses (R126, R403). -/
def State.sendBlank (s : State) : State := { s with scn := { s.scn with blank := true } }

/-- PIXBUS_LOCK_LOST: lane l of die d, which is in block lock, on a bus declared down too (R142). -/
def State.pixbusLockLost (s : State) (d l : Nat) : State :=
  let k := 4 * d + l
  let lanes := s.rd (SCN_BUS_LANES d)
  if ¬ bitOf lanes l ∨ s.scn.lost.keys.contains k then s
  else
    { s with scn := { s.scn with lost := Keyed.put s.scn.lost k 0 } }.wr (SCN_BUS_LANES d)
      (lanes - 2 ^ l)

/-- Lane l of a die is declared down, and the die's bus with it (R142). The Skink path is unhealthy from the acceptance of
the fault (R305). -/
def State.busDown (s : State) (d l : Nat) : State :=
  ({ s with scn := { s.scn with down := s.scn.down.set d true } }.wr (SCN_BUS_UP d) 0).send (dieSource d) 0x04 l

/-- One lost lane is retrained in the bask that starts (R142); relocked lists the lanes that came back. -/
def State.retrainLane (s : State) (relocked : List Nat) (k fails : Nat) : State :=
  let d := k / 4
  let s1 := s.bump (SCN_BUSCNT_RETRAIN d)
  if relocked.contains k then
    { s1 with scn := { s1.scn with lost := Keyed.erase s1.scn.lost k } }.wr (SCN_BUS_LANES d)
      (Nat.lor (s1.rd (SCN_BUS_LANES d)) (2 ^ (k % 4)))
  else if 1 ≤ fails then
    { s1 with scn := { s1.scn with lost := Keyed.erase s1.scn.lost k } }.busDown d (k % 4)
  else { s1 with scn := { s1.scn with lost := Keyed.put s1.scn.lost k (fails + 1) } }

/-- The retrains of a bask (R142). -/
def State.retrain (s : State) (relocked : List Nat) : State :=
  s.scn.lost.foldl (fun a k => a.retrainLane relocked k.1 k.2) s

/-- An emitter die reports the Croak of the boundary that starts this bask: the cycle it arrived, or none (R43, R143). The
die has measured the period to it. -/
def State.croakReport (s : State) (d : Nat) (arr : Option Int) : State :=
  if s.scn.down.getD d false ∨ ¬ s.isOn (SCN_BUS_UP d) then s
  else
    match arr with
    | some _ =>
      let at' := s.tick.time
      { s with scn := { s.scn with
        dark := s.scn.dark.set d false
        croakPer := s.scn.croakPer.set d ((s.scn.croakAt.getD d none).map (fun t => at' - t))
        croakAt := s.scn.croakAt.set d (some at') } }
    | none => (s.bump (croakLost d)).send (dieSource d) 0x05 (s.tick.count % 256)

/-- The launch offsets follow the latencies that calibration or a new measurement shows (R42, R43). -/
def State.setLaunch (s : State) : State :=
  { s with scn := { s.scn with launch := [s.rd TCK_CROAK_LAT_A, s.rd TCK_CROAK_LAT_B] } }

/-- The steps that follow a CROAK_SKEW (R43): the launch offset is corrected at the boundary after the bask that measured;
lat is what this bask measures. -/
def State.skewSteps (s : State) (lat : Nat × Nat) : State :=
  let s1 := if s.scn.skewCorrect then s.setLaunch else s
  let s2 := if s.scn.skewMeasure then (s1.wr TCK_CROAK_LAT_A lat.1).wr TCK_CROAK_LAT_B lat.2 else s1
  { s2 with scn := { s2.scn with skewCorrect := s.scn.skewMeasure, skewMeasure := false } }

/-- The Croaks reported in this bask, each by its cycle from the boundary, are out of the limits of R43. -/
def skewBad (a b : Option Int) : Bool :=
  let far (x : Option Int) : Bool := match x with
    | none => false
    | some v => decide (2 < v.natAbs)
  far a || far b || (match a, b with
    | some x, some y => decide (1 < (y - x).natAbs)
    | _, _ => false)

/-- CROAK_SKEW of the Croaks reported in this bask, and its correction (R43). -/
def State.croakSkew (s : State) (a b : Option Int) (lat : Nat × Nat) : State :=
  let s1 := s.skewSteps lat
  let s2 := match a, b with
    | some x, some y => s1.wrI TCK_CROAK_SKEW (held (-128) 127 (y - x))
    | _, _ => s1
  if skewBad a b then
    { (s2.wr TCK_CROAK_SKEW_ERR 1).send 0x0DF 0x03 (s2.rd TCK_CROAK_SKEW) with
      scn := { s2.scn with skewMeasure := true } }
  else s2

/-- Before the tick now running ends, die d will have had no Croak for two of the periods it last measured (R143). -/
def State.croakOverdue (s : State) (d : Nat) : Bool :=
  match s.scn.croakAt.getD d none, s.scn.croakPer.getD d none with
  | some t, some p => decide (t + 2 * p < s.tick.time + s.tickLength)
  | _, _ => false

/-- EMITTER_CROAK_TIMEOUT: die d switches its tiles off by itself (R143). -/
def State.croakTimeout (s : State) (d : Nat) : State :=
  if s.croakOverdue d then { s with scn := { s.scn with dark := s.scn.dark.set d true } } else s

/-- Readback of die d compared in the bask that starts (R145, R146; log 194), on a bus declared down too; k is the count of the tick
that ended. -/
def State.readbackCompare (s : State) (d k : Nat) (r : Readback) : State :=
  if ¬ s.scn.down.getD d false ∧ ¬ s.isOn (SCN_BUS_UP d) then s
  else
    let n := rbRegion d k
    let exp := Algo.final .crc32c (s.scn.rb.getD d 0)
    let s1 := (s.wr (rbRgn d) (n % 32)).wr (rbExp d) exp
    match r with
    | .missing =>
      (({ s1 with scn := { s1.scn with missRun := s1.scn.missRun.set d (min 255 (s1.scn.missRun.getD d 0 + 1)) } }.wr
        (rbMiss d) 1).send (dieSource d) 0x06 n).failsFrom s
    | _ =>
      let got := match r with
        | .value v => v % 2 ^ 32
        | _ => exp
      let last : Option Nat := (s1.scn.lastGot.find? (fun p => p.1 == n)).map (fun p => p.2)
      let s2 := { s1.wr (rbGot d) got with scn := { s1.scn with
        lastGot := Keyed.put s1.scn.lastGot n got, missRun := s1.scn.missRun.set d 0 } }
      if got = exp then
        { s2 with scn := { s2.scn with mism := s2.scn.mism.set d 0, mismSent := s2.scn.mismSent.set d false } }
      else
        let s3 := (s2.wr (rbMism d) 1).bump SCN_RB_CNT_MISMATCH
        if last = some got then ((s3.wr (rbFroz d) 1).bump SCN_RB_CNT_FROZEN).send n 0x21 0
        else { s3 with scn := { s3.scn with mism := s3.scn.mism.set d (s3.scn.mism.getD d 0 + 1) } }

/-- READBACK_MISMATCH of die d, once in each run (R145). -/
def State.readbackMismatch (s : State) (d : Nat) : State :=
  if max 1 (s.smp SCN_RB_CFG_LIMIT) ≤ s.scn.mism.getD d 0 ∧ ¬ s.scn.mismSent.getD d false then
    { s.send (32 * d + s.rd (rbRgn d)) 0x20 0 with scn := { s.scn with mismSent := s.scn.mismSent.set d true } }
  else s

/-- The readback of the tick that starts begins with the low 8 bits of its count (R144). -/
def State.readbackStart (s : State) : State :=
  let v := Algo.feed .crc32c 0xFFFFFFFF (s.tick.count % 256)
  { s with scn := { s.scn with rb := [v, v] } }

/-- SUB_PERIOD_START: the next of the 16 sub-periods in their order; without a boundary the count goes round (R135,
R143). -/
def State.subPeriod (s : State) : State :=
  { s with scn := { s.scn with sub := s.scn.subNext, subNext := (s.scn.subNext + 1) % 16 } }

/-- The phase and the rows of a tick, at the boundary that begins it (R135, R127). -/
def State.phaseStart (s : State) : State :=
  { s with scn := { s.scn with sub := 0, subNext := 0, next := 320, ahead := [], was := [] } }

/-- The counts of the active part that has ended are shown (R149, R154; log 195). -/
def State.showCounts (s : State) (util : Nat × Nat) : State :=
  let a := upTo 4 s (fun b i => b.wr (SCN_RANGE_PIXELS i) (s.scn.rangeAcc.getD i 0))
  let b := (a.wr SCN_LOWCUT_CNT_PIXELS s.scn.lowAcc).wrI SCN_SP15_CORR (held (-32768) 32767 s.tick.applied)
  let c := (b.wr (SCN_BUS_UTIL_PCT 0) (min 255 util.1)).wr (SCN_BUS_UTIL_PCT 1) (min 255 util.2)
  let e := upTo 64 c (fun x n =>
    let k := Keyed.get s.scn.clipAcc 0 n
    let y := x.wr (PXD_CLIP_PIXELS n) k
    if k = 0 then y else y.wr (PXD_FLAGS_CLIP n) 1)
  { e with scn := { e.scn with rangeAcc := [0, 0, 0, 0], lowAcc := 0, clipAcc := [] } }

/-- Set-up registers are sampled, and the write phase follows them (R73, R128, R130, R149, R177, R192). -/
def State.sampleSetup (s : State) : State :=
  let s1 := s.wr SCN_ROWTIMING_WRITE_CYC (s.period - s.baskUs - heldN 160 640 (s.rd SCN_PRECHG_CYC) - 80)
  { s1 with sampled := s1.regs }

/-- The level of the column lines of a die in the precharge, in mV: 0 V, or LEVEL × 50 mV (R130). -/
def State.prechargeMv (s : State) : Nat := if s.smp SCN_PRECHG_MODE = 0 then 0 else 50 * s.smp SCN_PRECHG_LEVEL

end Sys2Proof.Machine
end

