-- ==== Sys2Proof/Machine/Axolotl.lean ====
section
/-! DEFINITION. Axolotl: health words and tile counts (R157–R160, R175), the health port (R158, R171), the health save
(R161), the reference check (R152), the sweep and its recheck (R162–R168, R456) and the tests for shorts (R169,
R170). -/

namespace Sys2Proof.Machine

/-- A list of numbers in rising order. -/
def insertNat (x : Nat) : List Nat → List Nat
  | [] => [x]
  | y :: t => if x ≤ y then x :: y :: t else y :: insertNat x t

def sortNat (l : List Nat) : List Nat := l.foldr insertNat []

/-- The exact median of readings; 0 of none (R166, R456). -/
def medianOf (l : List Nat) : Rat :=
  let v := sortNat l
  let n := v.length
  if n = 0 then 0
  else if n % 2 = 1 then (v.getD (n / 2) 0 : Rat)
  else ((v.getD (n / 2 - 1) 0 + v.getD (n / 2) 0 : Nat) : Rat) / 2

/-- The p-th percentile by nearest rank (R456). -/
def percentile (p : Nat) (l : List Nat) : Nat := (sortNat l).getD (ceilDiv (p * l.length) 100 - 1) 0

/-- Dead pixels of tile t and its DEGRADED bit (R160). -/
def State.tileDead (s : State) (t : Nat) : Nat := bitsOf (s.pix.tiles.get t) 0 11
def State.tileDegraded (s : State) (t : Nat) : Bool := bitOf (s.pix.tiles.get t) 11

/-- The region-local address of a tile: its first pixel (R19). -/
def tileLocal (t : Nat) : Nat := localAddr (pixAddr (t % 64 * 32) (t / 64 * 32))

/-- Tile t has c dead pixels (R175); at start-up a count above 5 is no crossing. -/
def State.setTileDead (s : State) (boot : Bool) (t c : Nat) : State :=
  let was := s.tileDead t
  let put (d : Bool) : State := { s with pix := { s.pix with tiles := s.pix.tiles.put t (c + 2048 * flag d) } }
  if 5 < c then
    let s1 := put true
    if boot ∨ 5 < was then s1
    else (s1.wr (PXD_FLAGS_DEGRADED (regionOfTile t)) 1).send (regionOfTile t) 0x05 (tileLocal t)
  else put false

/-- Pixel p's health word becomes w: the tile's count and the kill bit follow (R159, R175). -/
def State.setHealth (s : State) (p w : Nat) : State :=
  let was := s.dead p
  let now := decide (3 ≤ bitsOf w 0 3)
  let t := tileOf p
  let s1 := { s with pix := { s.pix with
    health := s.pix.health.put p (w % 65536)
    kill := Cells.put s.pix.kill 0 p (flag now) } }
  if was = now then s1
  else if now then s1.setTileDead false t (s.tileDead t + 1)
  else s1.setTileDead false t (s.tileDead t - 1)

/-- The health word with STATE st, the rest as it stands. -/
def withState (w st : Nat) : Nat := w / 8 * 8 + st

/-- A correctable or uncorrectable ECC error of a health word (R158). -/
def State.healthEcc (s : State) (p : Nat) (double : Bool) : State :=
  if ¬ double then s.bump AXL_ECC_CORRECTED
  else ((s.setHealth p (bitsOf (s.healthWord p) 8 8 * 256 + 7)).bump AXL_ECC_UNCORR).send (dieSource (dieOf p)) 0x08 p

/-- The pixels of the raster. -/
def pixels : Nat := 1310720

/-- A port write to pixel p of word w is discarded (R158). -/
def State.portBad (s : State) (byEngine : Bool) (p w : Nat) : Bool :=
  let st := bitsOf w 0 3
  decide (256 ≤ s.pix.queue.length) || decide (pixels ≤ p) || !(st == 0 || st == 1 || st == 7) ||
    (decide (st < 6) && s.pix.fGain.get p == 0) || (!byEngine && s.life.state == 4)

/-- AUTOINC after an access to the port (R158, R178). -/
def State.portStep (s : State) : State :=
  if ¬ s.isOn AXL_HADDR_AUTOINC then s
  else
    let p := s.rd AXL_HADDR_PIXEL
    s.wr AXL_HADDR_PIXEL (if p + 1 < pixels then p + 1 else 0)

/-- AXL_HDATA_WRITE (R158). -/
def State.hdataWrite (s : State) (byEngine : Bool) (w : Nat) : State :=
  let p := s.rd AXL_HADDR_PIXEL
  let s1 := if s.portBad byEngine p w then s.wr AXL_HPORT_ERR 1
    else { s with pix := { s.pix with queue := s.pix.queue ++ [⟨p, w % 65536⟩] } }
  s1.portStep

/-- What AXL_HDATA reads: the word in force (R158). -/
def State.hdataValue (s : State) : Nat :=
  if s.rd AXL_HADDR_PIXEL < pixels then s.healthWord (s.rd AXL_HADDR_PIXEL) else 0

/-- AXL_HDATA_READ (R158). -/
def State.hdataRead (s : State) : State := s.portStep

/-- AXL_HDATA_READ: the word in force is answered (R158). -/
def State.hdataAnswer (s : State) : State := { s.hdataRead with data := s.hdataValue }

/-- A port write changes STATE of pixel p to WORN from another value (R171). -/
def State.worn (s : State) (p : Nat) : State :=
  (s.wr (PXD_FLAGS_WORN (regionOf p)) 1).send (regionOf p) 0x06 (localAddr p)

/-- A queued port write is applied: DV0 stays, WORN is reported (R158, R171), and AGE is as written (log 222). -/
def State.applyPort (s : State) (q : PortWrite) : State :=
  let old := s.healthWord q.pix
  let s1 := s.setHealth q.pix (old / 256 * 256 + q.word % 256)
  if bitsOf q.word 0 3 = 1 ∧ bitsOf old 0 3 ≠ 1 then s1.worn q.pix else s1

/-- A port write of this bask stands over an Axolotl result on the same word (R158): b is the state before the port's
writes, w after them, v what the results of the bask have made of it. Where the first write of the pixel leaves WORN over a
result that took it away, it changes STATE to WORN (R171). -/
def State.keepPort (b w v : State) (q : PortWrite) : State :=
  if v.healthWord q.pix = w.healthWord q.pix then v
  else
    let v1 := v.setHealth q.pix (w.healthWord q.pix)
    if bitsOf q.word 0 3 = 1 ∧ bitsOf (b.healthWord q.pix) 0 3 = 1 ∧ bitsOf (v.healthWord q.pix) 0 3 ≠ 1 then v1.worn q.pix else v1

/-- AXL_SAVE_GO (R161). -/
def State.saveGo (s : State) : State :=
  if s.isOn AXL_SAVE_BUSY then s.wr AXL_SAVE_ERR 1
  else { s.wr AXL_SAVE_BUSY 1 with pix := { s.pix with saveAsked := true } }

/-- A save starts in the bask with the words as they stand (R161). -/
def State.saveStart (s : State) : State :=
  if s.pix.saveAsked then
    { s with pix := { s.pix with
        saveAsked := false
        saving := some (s.pix.health.cells.filterMap (fun c => if c.2 % 256 = 0 then none else some (c.1, c.2 % 256))) } }
  else s

/-- Region n converts its bandgap to more than 8 mV from the factory value (R152); a region not listed reads that value. -/
def State.bandgapOff (s : State) (bg : List (Nat × Int)) (n : Nat) : Bool :=
  match bg.find? (fun p => p.1 == n) with
  | none => false
  | some p => decide (8 < (p.2 - (Config.bandgapMv (Cells.take s.pix.refVals 0 0 128) n : Int)).natAbs)

/-- The reference and ADC check of a bask (R152): deviations in 0.01 %, bandgap readings in mV. The flag is set
in each bask out of the limit, the message sent once in a run (log 212). -/
def State.refCheck (s : State) (dev : List (Nat × Int)) (bg : List (Nat × Int)) (n : Nat) : State :=
  let e := match dev.find? (fun p => p.1 == n) with
    | some p => p.2
    | none => 0
  let s1 := s.wrI (PXD_IREF_MEAS_DEV n) (held (-32768) 32767 e)
  let lim := 10 * heldN 5 100 (s.smp (PXD_IREF_CFG_LIMIT n))
  let out := decide (lim < e.natAbs)
  let s2 := if ¬ out then { s1 with pix := { s1.pix with irefRun := s1.pix.irefRun.filter (fun k => k != n) } }
    else
      let s3 := s1.wr (PXD_FLAGS_IREF n) 1
      if s3.pix.irefRun.contains n then s3
      else { s3.send n 0x07 0 with pix := { s3.pix with irefRun := s3.pix.irefRun ++ [n] } }
  if s.bandgapOff bg n then
    { s2.send n 0x08 0 with pix := { s2.pix with
        adcBad := if s2.pix.adcBad.contains n then s2.pix.adcBad else s2.pix.adcBad ++ [n] } }
  else { s2 with pix := { s2.pix with adcBad := s2.pix.adcBad.filter (fun k => k != n) } }

/-- Thresholds in mV (R166) and the confirmation count (R167). -/
def State.vOpen (s : State) : Nat := 20 * s.smp AXL_CFG_VOPEN
def State.vShort (s : State) : Nat := 20 * s.smp AXL_CFG_VSHORT
def State.confirmAt (s : State) : Nat := heldN 2 8 (s.smp AXL_CFG_CONFIRM)

/-- The flag of a reading: OPEN 1, SHORT 2, neither 0; SHORT stands where both hold (R166). -/
def State.vfFlag (s : State) (v : Nat) : Nat := if v ≤ s.vShort then 2 else if s.vOpen ≤ v then 1 else 0

/-- Pixels and pairs on region n's pending list. -/
def State.pendCount (s : State) (n : Nat) : Nat :=
  (s.pix.pend.filter (fun q => q.region == n)).length + (s.pix.pairs.filter (fun q => regionOf (q.1 / 4) == n)).length

/-- A pixel is declared OPEN (short false) or SHORT (R167). -/
def State.declare (s : State) (n p : Nat) (short : Bool) : State :=
  let s1 := (s.setHealth p (withState (s.healthWord p) (if short then 4 else 3))).bump (PXD_CNT_CONFIRMED n)
  let s2 := s1.wr (if short then PXD_FLAGS_SHORT n else PXD_FLAGS_OPEN n) 1
  s2.send n (if short then 0x02 else 0x01) (localAddr p)

/-- One reading of a listed pixel (R167). -/
def State.countPend (s : State) (q : Pend) (fl : Nat) : State :=
  let drop (a : State) : State := { a with pix := { a.pix with pend := a.pix.pend.filter (fun x => x.pix != q.pix) } }
  if fl = (if q.short then 2 else 1) then
    if s.confirmAt ≤ q.count + 1 then (drop s).declare q.region q.pix q.short
    else { s with pix := { s.pix with
      pend := s.pix.pend.map (fun x => if x.pix = q.pix then { x with count := x.count + 1 } else x) } }
  else (drop s).bump (PXD_CNT_CLEARED q.region)

/-- A sweep reading of pixel p in region n (R167). A region whose ADC check failed changes no health state (R152) and
no list (log 213). A
listed pixel is counted even where it is dead by now; only a pixel that is not dead enters the list. -/
def State.sweepReading (s : State) (n p fl : Nat) : State :=
  if s.pix.adcBad.contains n then s
  else
    match s.pix.pend.find? (fun q => q.pix == p) with
    | some q => s.countPend q fl
    | none =>
      if fl = 0 ∨ s.dead p then s
      else if 16 ≤ s.pendCount n then s.wr (PXD_FLAGS_PEND_FULL n) 1
      else { s with pix := { s.pix with pend := s.pix.pend ++ [⟨n, p, fl == 2, 1⟩] } }

/-- A result entry (R165). -/
def resultEntry (v fl : Nat) (dev re : Bool) (row : Nat) : Nat :=
  v % 4096 + 4096 + 8192 * flag (fl == 1) + 16384 * flag (fl == 2) + 32768 * flag (dev && fl == 0) + 65536 * row +
    2 ^ 25 * flag re

/-- The result half BUF names. -/
def State.half (s : State) (h : Nat) : Cells := if h = 0 then s.pix.half0 else s.pix.half1

def State.setHalf (s : State) (h : Nat) (c : Cells) : State :=
  if h = 0 then { s with pix := { s.pix with half0 := c } } else { s with pix := { s.pix with half1 := c } }

/-- A reading differs from the row's median beyond VDEV (R166). -/
def State.deviates (s : State) (med : Rat) (v : Nat) : Bool :=
  let lim : Rat := ((2 * s.smp AXL_CFG2_VDEV : Nat) : Rat)
  decide (med + lim < (v : Rat)) || decide ((v : Rat) < med - lim)

/-- A region's measurement ADC converts v mV: 12 bits of 1 mV, and its end above 4.095 V (R150). -/
def adc (v : Nat) : Nat := min 4095 v

/-- The converter's reading of column c of region row `row` of region n in slot i, of the true voltages vf: on A1 column 63 of
a region of die B reads 6 mV ±1 mV high (R451, log 104). -/
def State.vfRead (s : State) (vf : Readings) (n i row c : Nat) : Nat :=
  let v := vf.at' (n * 320 + i * 64 + c)
  adc (if s.isA1 ∧ 32 ≤ n ∧ c = 63 then v + 5 + Config.vfOffset (regionPix n c row) % 3 else v)

/-- Readings of pixels of row `row` of region n that are not dead, slot i. -/
def State.liveReadings (s : State) (vf : Readings) (n i row : Nat) : List Nat :=
  (List.range 64).filterMap (fun c => if s.dead (regionPix n c row) then none else some (s.vfRead vf n i row c))

/-- Row `row` of region n carries the sense current for the 19 µs of a measurement that starts at `start` (R164). -/
def State.senseRow (s : State) (n row start : Nat) : State :=
  { s with pix := { s.pix with sensed := s.pix.sensed ++ [⟨320 * n + row, start, start + 6080, false⟩] } }

/-- Slot i of region n takes the readings of region row `row` into half h (R165, R166). -/
def State.storeSlot (s : State) (vf : Readings) (h n i row : Nat) (re : Bool) : State :=
  let l := s.liveReadings vf n i row
  let med := medianOf l
  s.setHalf h (Cells.putMany (s.half h) 0 (n * 320 + i * 64) ((List.range 64).map (fun c =>
    let v := s.vfRead vf n i row c
    resultEntry v (s.vfFlag v) (!l.isEmpty && s.deviates med v) re row)))

/-- One sweep row of region n (R162–R167, R456), measured from 1,280 cycles after the boundary on, 19 µs a row (R163). -/
def State.sweepRow (s : State) (vf : Readings) (h g n i : Nat) : State :=
  let row := 4 * g + i
  let l := s.liveReadings vf n i row
  let s1 := s.storeSlot vf h n i row false
  let s2 := (s1.wr (PXD_VF_MEDIAN_MV n) (roundRat (medianOf l)).toNat).wr (PXD_VF_SPREAD_MV n)
    (l.foldl max 0 - l.foldl min (l.foldl max 0))
  let s3 := { s2 with pix := { s2.pix with
    sweepA := if n < 32 then s2.pix.sweepA ++ l else s2.pix.sweepA
    sweepB := if n < 32 then s2.pix.sweepB else s2.pix.sweepB ++ l } }
  (List.range 64).foldl (fun a c => a.sweepReading n (regionPix n c row) (s.vfFlag (s.vfRead vf n i row c)))
    (s3.senseRow n row (1280 + 6080 * i))

/-- The row of region n that is rechecked when group g is swept: that of the oldest listed pixel outside the sweep rows
(R167). -/
def State.recheckRow (s : State) (g n : Nat) : Option Nat :=
  (s.pix.pend.filter (fun q => q.region == n)).findSome? (fun q =>
    let r := q.pix / 2048 - regionRow n
    if 4 * g ≤ r ∧ r < 4 * g + 4 then none else some r)

/-- Slot 4 of region n holds no reading of this bask (R165). -/
def State.noRecheck (s : State) (h n : Nat) : State :=
  s.setHalf h (Cells.putMany (s.half h) 0 (n * 320 + 256) (List.replicate 64 0))

/-- The recheck of region n (R167), which follows the four sweep rows (R163). -/
def State.recheck (s : State) (vf : Readings) (h g n : Nat) : State :=
  match s.recheckRow g n with
  | none => s.noRecheck h n
  | some row =>
    let s1 := (s.storeSlot vf h n 4 row true).senseRow n row 25600
    (List.range 64).foldl (fun a c =>
      let p := regionPix n c row
      match a.pix.pend.find? (fun q => q.pix == p) with
      | some q => if a.pix.adcBad.contains n then a else a.countPend q (s.vfFlag (s.vfRead vf n 4 row c))
      | none => a) s1

/-- The die summaries at the end of a full sweep (R456). -/
def State.dieSummary (s : State) : State :=
  let put (a : State) (d : Nat) (l : List Nat) : State :=
    (a.wr (AXL_DIE_MEDIAN_MV d) (roundRat (medianOf l)).toNat).wr (AXL_DIE_SPREAD_MV d) (percentile 99 l - percentile 1 l)
  let s1 := put (put s 0 s.pix.sweepA) 1 s.pix.sweepB
  { s1 with pix := { s1.pix with sweepA := [], sweepB := [] } }

/-- The sweep step (R162): rows 4G to 4G + 3 of every region not left out; then the recheck, where it fits (R163). -/
def State.sweepStep (s : State) (vf : Readings) (skip : List Nat) (fits : Bool) : State :=
  let g := s.rd AXL_SWEEP_GROUP
  let h := 1 - s.rd AXL_SWEEP_BUF
  let rs := (List.range 64).filter (fun n => !skip.contains n)
  let s0 := skip.foldl (fun a n => a.setHalf h (Cells.putMany (a.half h) 0 (n * 320) (List.replicate 320 0))) s
  let s1 := rs.foldl (fun a n => (List.range 4).foldl (fun b i => b.sweepRow vf h g n i) a) s0
  let s2 := rs.foldl (fun a n => if fits then a.recheck vf h g n else a.noRecheck h n) s1
  let s3 := s2.wr AXL_SWEEP_BUF h
  if g < 79 then s3.wr AXL_SWEEP_GROUP (g + 1) else ((s3.wr AXL_SWEEP_GROUP 0).bump AXL_SWEEP_SWEEPS).dieSummary

/-- All pixels of column c of region n become NSHORT (R169). -/
def State.killColumn (s : State) (n c : Nat) : State :=
  (List.range 320).foldl (fun a r => a.setHealth (regionPix n c r) (withState (a.healthWord (regionPix n c r)) 5)) s

/-- A test of one pair: key, whether it may enter the list, whether it reads short, and what a confirmed short does (R167,
R169, R170). The pair is on region n's list, the left or upper one (log 214); region m senses it, and changes no health state while its ADC
fails (R152, log 213). A
listed pair is counted or cleared even where its pixels are dead by now. -/
def State.pairTest (s : State) (n m key : Nat) (able short : Bool) (confirmed : State → State) : State :=
  if s.pix.adcBad.contains m ∨ (¬ able ∧ Keyed.get s.pix.pairs 0 key = 0) then s
  else
    let c := Keyed.get s.pix.pairs 0 key
    let drop (a : State) : State := { a with pix := { a.pix with pairs := Keyed.erase a.pix.pairs key } }
    if ¬ short then (if c = 0 then s else (drop s).bump (PXD_CNT_CLEARED n))
    else if s.confirmAt ≤ c + 1 then confirmed ((drop s).bump (PXD_CNT_CONFIRMED n))
    else if c = 0 ∧ 16 ≤ s.pendCount n then s.wr (PXD_FLAGS_PEND_FULL n) 1
    else { s with pix := { s.pix with pairs := Keyed.put s.pix.pairs key (c + 1) } }

/-- The column right of column c of region n: its region and column, on the same die. -/
def rightColumn (n c : Nat) : Option (Nat × Nat) :=
  if c < 63 then some (n, c + 1) else if n % 16 = 15 then none else some (n + 1, 0)

/-- VNS in mV (R169). -/
def State.vns (s : State) : Nat := 20 * s.smp AXL_CFG2_VNS

/-- The column-line test of pair (c, c + 1) of region n (R169). -/
def State.columnPair (s : State) (v : Readings) (skip : List Nat) (n c : Nat) : State :=
  match rightColumn n c with
  | none => s
  | some (m, d) =>
    if skip.contains n ∨ skip.contains m then s
    else
      let able := (List.range 320).any (fun r => !s.dead (regionPix n c r) || !s.dead (regionPix m d r))
      s.pairTest n m (4 * regionPix n c 0) able (decide (s.vns < adc (v.at' (64 * n + c)))) (fun a =>
        (((a.killColumn n c).killColumn m d).wr (PXD_FLAGS_COLSHORT n) 1).send n 0x04 (localAddr (regionPix n c 0)))

/-- Two pixels become NSHORT (R170). -/
def State.killPair (n p q : Nat) (a : State) : State :=
  (((a.setHealth p (withState (a.healthWord p) 5)).setHealth q (withState (a.healthWord q) 5)).wr
    (PXD_FLAGS_NSHORT n) 1).send n 0x03 (localAddr p)

/-- The neighbour row step for pixel (c, y) of region n against its right and its lower neighbour (R170). -/
def State.neighbourPixel (s : State) (vh vv : Readings) (skip : List Nat) (y n c : Nat) : State :=
  let p := regionPix n c y
  let s1 := match rightColumn n c with
    | none => s
    | some (m, d) =>
      let q := regionPix m d y
      if skip.contains n ∨ skip.contains m then s
      else s.pairTest n m (4 * p + 1) (!s.dead p || !s.dead q) (decide (s.vns < adc (vh.at' (64 * n + c)))) (State.killPair n p q)
  if p / 2048 = 639 ∨ skip.contains n ∨ skip.contains (regionOf (p + 2048)) then s1
  else s1.pairTest n (regionOf (p + 2048)) (4 * p + 2) (!s1.dead p || !s1.dead (p + 2048)) (decide (s1.vns < adc (vv.at' (64 * n + c))))
    (State.killPair n p (p + 2048))

/-- The column-line test over every region (R169). -/
def State.columnTest (s : State) (v : Readings) (skip : List Nat) : State :=
  (List.range 64).foldl (fun a n => (List.range 64).foldl (fun b c => b.columnPair v skip n c) a) s

/-- The neighbour row step, from cycle `start` of the bask on: row y and the row below it do not carry their own current for
its 41.4 µs (R164, R170). -/
def State.neighbourStep (s : State) (vh vv : Readings) (skip : List Nat) (start : Nat) : State :=
  let y := s.rd AXL_NEIGH_ROW
  let rows := ((List.range 64).filter (fun n => !skip.contains n)).flatMap (fun n =>
    ([regionPix n 0 y, regionPix n 0 y + 2048].filter (fun p => decide (p < 1310720))).map (fun p =>
      (⟨320 * regionOf p + rowIn p, start, start + 13248, true⟩ : Sensed)))
  let s0 : State := { s with pix := { s.pix with sensed := s.pix.sensed ++ rows } }
  let s1 := (List.range 64).foldl (fun a n => (List.range 64).foldl (fun b c => b.neighbourPixel vh vv skip y n c) a) s0
  if y < 319 then s1.wr AXL_NEIGH_ROW (y + 1) else (s1.wr AXL_NEIGH_ROW 0).bump AXL_NEIGH_SWEEPS

/-- SWEEP_STALL: once in each run of withheld steps (R162). -/
def State.sweepStall (s : State) : State :=
  if max 8 (s.smp AXL_CFG2_STALL_TICKS) ≤ s.pix.stall ∧ ¬ s.pix.stallSent then
    { (s.send 0x06D 0x07 (min (2 ^ 24 - 1) s.pix.stall)).send 0x06E 0x07 (min (2 ^ 24 - 1) s.pix.stall) with
      pix := { s.pix with stallSent := true } }
  else s

/-- The end of the bask window of R163 in SCA cycles from the boundary. -/
def State.baskWindowEnd (s : State) : Nat := s.tick.bask - (s.period - s.baskUs)

/-- Steps 2–5 of a bask (R163): what is granted, the readings, the regions left out (R164). Answers the cycle the steps
end at; AXL_TIME counts whole µs (log 221). -/
def State.baskSteps (s0 : State) (sweep neigh : Bool) (vf lines vh vv : Readings) (skip : List Nat) : State × Nat :=
  let s : State := { s0 with pix := { s0.pix with sensed := [] } }
  let lit := s.source != 2
  let w := s.baskWindowEnd
  let run2 := sweep && lit && s.smp AXL_CTL_SWEEP_EN != 0
  let t2 := 1280 + (if run2 then 24320 else 0)
  let re := run2 && (List.range 64).any (fun n => (s.recheckRow (s.rd AXL_SWEEP_GROUP) n).isSome) && decide (t2 + 6080 ≤ w)
  let s2 := if run2 then s.sweepStep vf skip (decide (t2 + 6080 ≤ w)) else s.bump AXL_SKIP_SWEEP
  let t3 := t2 + (if re then 6080 else 0)
  let run4 := neigh && lit && s.smp AXL_CTL_COLTEST_EN != 0 && decide (t3 + 5568 ≤ w)
  let s4 := if run4 then s2.columnTest lines skip else s2
  let t4 := t3 + (if run4 then 5568 else 0)
  let run5 := neigh && lit && s.smp AXL_CTL_NEIGH_EN != 0 && decide (t4 + 13248 ≤ w)
  let s5 := if run5 then s4.neighbourStep vh vv skip t4 else s4.bump AXL_SKIP_NEIGH
  let t5 := t4 + (if run5 then 13248 else 0)
  ((s5.wr AXL_TIME_LAST_US ((t5 - 640) / 320)).wr AXL_TIME_WINDOW_US ((w - 640) / 320), t5)

/-- Dead pixels of a region, its degraded tiles, and the module's (R177, R178). -/
def State.regionTiles (n : Nat) : List Nat := (List.range 1280).filter (fun t => regionOfTile t == n)
def State.regionDead (s : State) (n : Nat) : Nat := ((State.regionTiles n).map s.tileDead).sum
def State.regionDegraded (s : State) (n : Nat) : Nat := ((State.regionTiles n).filter s.tileDegraded).length
def State.allDead (s : State) : Nat := ((List.range 1280).map s.tileDead).sum
def State.allDegraded (s : State) : Nat := ((List.range 1280).filter s.tileDegraded).length

end Sys2Proof.Machine
end

