-- ==== Sys2Proof/Machine/Recorder.lean ====
section
/-! DEFINITION. The event recorder (R357–R369, R450): records, the buffer and its two modes, the flash areas, power-fail
and freeze. -/

namespace Sys2Proof.Machine

/-- The 30 bytes of a record the check of its mark covers, and the mark (R357). In the second part of a CHANGE entry
bytes 22–27 are zero (R358, log 60). -/
def Rec.bytes (r : Rec) : List Nat :=
  let head := leBytes 4 r.number ++ leBytes 2 (r.source + 1024 * r.kind) ++ leBytes 3 r.addr ++
    [r.sev + 8 * flag r.injected + 16 * r.type]
  let rest := match r.part with
    | none => leBytes 6 r.tick ++ leBytes 4 r.minutes ++ leBytes 3 r.cycles ++ [r.extra] ++ leBytes 4 r.fp
    | some (b, a, e) => leBytes 4 b ++ leBytes 4 a ++ leBytes 4 e ++ List.replicate 6 0
  head ++ rest ++ leBytes 2 (Algo.of .crc16 (head ++ rest)) ++ leBytes 2 0x5AA5

/-- A record of TYPE ESCALATED, DEMAND, SELF or CHANGE (R362, R363). -/
def Rec.urgent (r : Rec) : Bool := [1, 2, 3, 4].contains r.type

/-- The record given up when a queue is full: the highest-numbered that is injected or below S3, and, where strict is
false and there is none, the highest-numbered (R363, R365). A POWER_FAIL record and the one being programmed stay. -/
def victim (busy : Option Nat) (strict : Bool) (l : List Rec) : Option Nat :=
  let c := l.filter (fun r => r.type != 6 && busy != some r.number)
  let weak := c.filter (fun r => r.injected || decide (r.sev < 3))
  ((if strict || !weak.isEmpty then weak else c).map (fun r => r.number)).max?

def without (n : Nat) (l : List Rec) : List Rec := l.filter (fun r => r.number != n)

def State.setRcd (s : State) (x : RecBlock) : State := { s with rcd := x }

/-- A drop at the buffer (R363). -/
def State.dropRec (s : State) : State :=
  ((s.setRcd { s.rcd with dropRun := min 0xFFFFFF (s.rcd.dropRun + 1) }).fieldCount s.rcd.dropRun).bump REC_CNT_DROPPED

/-- A record enters the buffer, or is dropped (R363). -/
def State.enterBuffer (s : State) (r : Rec) : State :=
  if s.rcd.buffer.length < 32 then
    let n := s.rcd.dropRun
    let s1 := s.setRcd { s.rcd with buffer := s.rcd.buffer ++ [r], dropRun := 0 }
    if n = 0 then s1 else s1.send 0x0E0 0x01 n
  else if 3 ≤ r.sev ∨ r.urgent then
    match victim s.rcd.prog true s.rcd.buffer with
    | some n => (s.setRcd { s.rcd with buffer := without n s.rcd.buffer ++ [r] }).dropRec
    | none => s.dropRec
  else s.dropRec

/-- A record enters the holding queue of a freeze, or is dropped (R368). -/
def State.enterHold (s : State) (r : Rec) : State :=
  let dropped (a : State) : State :=
    ((a.setRcd { a.rcd with holdDrops := min 0xFFFFFF (a.rcd.holdDrops + 1) }).fieldCount a.rcd.holdDrops).bump REC_CNT_HOLD_OVF
  if s.rcd.hold.length < 64 then s.setRcd { s.rcd with hold := s.rcd.hold ++ [r] }
  else if 3 ≤ r.sev ∨ r.urgent then
    match victim none true s.rcd.hold with
    | some n => dropped (s.setRcd { s.rcd with hold := without n s.rcd.hold ++ [r] })
    | none => dropped s
  else dropped s

/-- The place of a record in the order of a flush (R362, R365): the records the flush began with, POWER_FAIL, severity S3
and higher, the rest, each by number. -/
def flushKey (flushTo : Nat) (r : Rec) : Nat :=
  (4 * flag (decide (flushTo ≤ r.number)) + 2 * flag (r.type != 6) + flag (decide (r.sev < 3))) * 2 ^ 32 + r.number

/-- The record with the least key. -/
def leastRec (key : Rec → Nat) : List Rec → Option Rec
  | [] => none
  | r :: t => match leastRec key t with
    | none => some r
    | some q => if key q < key r then some q else some r

/-- The record to be programmed next (R362). -/
def State.nextRec (s : State) : Option Rec :=
  if s.rcd.flushing then leastRec (flushKey s.rcd.flushTo) s.rcd.buffer
  else if s.isOn REC_CTL_MODE then none
  else leastRec (fun r => r.number) s.rcd.buffer

/-- A record has to wait for the erase of the next block (R360). -/
def State.waitsForErase (s : State) (r : Rec) : Bool :=
  s.rcd.erasing.isSome && !s.rcd.suspended && decide (128 ≤ r.number) && decide (2048 - s.flash.recAt % 2048 < 64)

/-- Programming of the next record starts, where one is due (R362). -/
def State.startProgram (s : State) : State :=
  match s.rcd.prog with
  | some _ => s
  | none =>
    match s.nextRec with
    | none => s
    | some r => if s.waitsForErase r then s else s.setRcd { s.rcd with prog := some r.number, tries := 0 }

/-- A flush starts (R362). -/
def State.startFlush (s : State) : State :=
  if s.rcd.flushing ∨ s.rcd.buffer = [] then s
  else s.setRcd { s.rcd with flushing := true, flushTo := s.rcd.next }

/-- A record triggers a flush in BUFFERED mode (R362); after a power-fail every record does (R365). -/
def State.triggers (s : State) (r : Rec) : Bool :=
  s.isOn REC_CTL_MODE &&
    (r.urgent || r.type == 6 || (r.type == 0 && decide (3 ≤ r.sev)) || decide (32 ≤ s.rcd.buffer.length) || s.rcd.pf.isSome)

/-- A record that has its number goes to the buffer, or to the holding queue of a freeze (R362, R368). -/
def State.addRecord (s : State) (r : Rec) : State :=
  match s.rcd.frozenAt with
  | some _ => s.enterHold r
  | none =>
    let s1 := s.enterBuffer r
    (if s1.triggers r then s1.startFlush else s1).startProgram

/-- The record's number, the next one, and the limit of R365. The record number saturates (R355). -/
def State.takeNumber (s : State) : State :=
  let n := min (2 ^ 32 - 1) (s.rcd.next + 1)
  let s1 := s.setRcd { s.rcd with next := n, pf := s.rcd.pf.map (fun k => k - 1) }
  if n = 2 ^ 32 - 1 ∧ s.rcd.next < n then s1.satFlag 0 else s1

/-- A record of this type would be made now with these contents. -/
def State.recOf (s : State) (type source kind addr sev : Nat) (injected : Bool) (extra : Nat) : Rec :=
  { number := s.rcd.next, source := source, kind := kind, addr := addr, sev := sev, injected := injected, type := type,
    tick := s.tick.count, minutes := s.rd REC_MINUTES_MINUTES, cycles := s.rd REC_CYCLES_CYCLES, extra := extra,
    fp := s.rd SFT_FP_FP }

/-- A record is made (R357, R358, R359); none after the last number a power-fail allows (R365). -/
def State.makeRecord (s : State) (type source kind addr sev : Nat) (injected : Bool) (extra : Nat) : State × Option Nat :=
  if s.rcd.pf = some 0 then (s, none)
  else
    let r := s.recOf type source kind addr sev injected extra
    (s.takeNumber.addRecord r, some r.number)

/-- The number of the session that is open, 0 none. -/
def State.sessNow (s : State) : Nat := if s.isOn SFT_SESS_STAT_ACTIVE then s.sft.sessNo else 0

/-- The epoch the last close has left, in force or due at the next boundary, and the one a close makes of epoch e (R327). -/
def State.epochNow (s : State) : Nat := s.sft.epochNext.getD (s.rd SFT_COMM_EPOCH_EPOCH)
def State.epochAfter (s : State) (e : Nat) : Nat :=
  if e < s.rd SFT_SESS_EPOCH_EPOCH then s.rd SFT_SESS_EPOCH_EPOCH else e + 1

/-- The epoch a persistent change of session n will carry (R327, R335), after those of sessions closed before it; of no
session, the epoch stays. -/
def State.carriedEpoch (s : State) (n : Nat) : Nat :=
  if n = 0 then s.epochNow
  else s.epochAfter ((s.sft.closing.filter (fun a => a.changed && decide (a.no < n))).foldl (fun e _ => s.epochAfter e) s.epochNow)

/-- Session n has persisted a change (R327). -/
def State.noteChange (s : State) (n : Nat) : State :=
  { s with sft := { s.sft with
    changed := s.sft.changed || (n != 0 && n == s.sessNow)
    closing := s.sft.closing.map (fun a => { a with changed := a.changed || n == a.no }) } }

/-- A change-log entry of session n, by check value in a pilot session: two records (R335, R358). The session notes that it
persisted a change. -/
def State.changeLog (s : State) (n : Nat) (pilot : Bool) (group before after : Nat) : State :=
  let addr := s.rd SFT_SESS_OP_OPERATOR + 65536 * flag pilot
  let s1 := (s.makeRecord 4 0 group addr 0 false 0).1
  let s2 :=
    if s1.rcd.pf = some 0 then s1
    else s1.takeNumber.addRecord { s1.recOf 4 0 group addr 0 false 1 with part := some (before, after, s.carriedEpoch n) }
  s2.noteChange n

/-- A change-log entry for what descriptor f has made persistent, in the session it was accepted in (R333–R335). -/
def State.changeBy (s : State) (f : Flight) (group before after : Nat) : State :=
  s.changeLog f.sess (f.gate == 2) group before after

/-- A change-log entry for a change that the session now open makes itself (R335). -/
def State.changeNow (s : State) (group before after : Nat) : State :=
  s.changeLog s.sessNow (s.isOn SFT_SESS_STAT_ACTIVE && s.isOn SFT_SESS_STAT_PILOT) group before after

/-- The same for descriptor id. -/
def State.changeOf (s : State) (id group before after : Nat) : State :=
  match s.flight id with
  | none => s.changeNow group before after
  | some f => s.changeBy f group before after

/-- The slot after slot k of the circulating area (R360). -/
def slotAfter (k : Nat) : Nat := if k + 1 = 131072 then 2048 else k + 1

/-- The block after block b of the circulating area (R360). -/
def blockAfter (b : Nat) : Nat := if b = 63 then 1 else b + 1

/-- The slot record number n goes into next (R360). -/
def State.slotFor (s : State) (n : Nat) : Nat := if n < 128 then s.flash.keepAt else s.flash.recAt

/-- Slot content x is programmed for record number n; the first slot of a circulating block starts the erase of the next
(R360). -/
def State.putSlot (s : State) (n : Nat) (x : Slot) : State :=
  let k := s.slotFor n
  let fl := { s.flash with slots := Keyed.put s.flash.slots k x }
  if n < 128 then { s with flash := { fl with keepAt := k + 1 } }
  else
    let s1 := { s with flash := { fl with recAt := slotAfter k } }
    if k % 2048 = 0 then s1.setRcd { s1.rcd with erasing := some (blockAfter (k / 2048)) } else s1

/-- Held records move into the buffer in number order while it has room (R369). -/
def State.moveHold (s : State) : State :=
  if s.rcd.frozenAt.isSome then s
  else
    let k := 32 - s.rcd.buffer.length
    let s1 := s.setRcd { s.rcd with hold := s.rcd.hold.drop k }
    (s.rcd.hold.take k).foldl State.addRecord s1

/-- A flush ends when the buffer is empty (R362). -/
def State.flushEnd (s : State) : State :=
  if s.rcd.buffer = [] then s.setRcd { s.rcd with flushing := false, pfFlush := if s.rcd.pf.isSome then s.rcd.pfFlush else none }
  else s

/-- RECORD_PROGRAMMED: programming of the record ends, well or not (R362, R364). In reset the flush of a power-fail alone
goes on (R365). -/
def State.recordProgrammed (s : State) (ok : Bool) : State :=
  match (if s.life.released ∨ s.rcd.pfFlush.isSome then s.rcd.prog else none) with
  | none => s
  | some n =>
    match s.rcd.buffer.find? (fun r => r.number == n) with
    | none => (s.setRcd { s.rcd with prog := none }).flushEnd.startProgram
    | some r =>
      if ok then
        let s1 := s.putSlot n (.valid r)
        let k := s1.rcd.pfFlush.map (fun m => min 63 (m + 1))
        let s2 := { s1 with flash := { s1.flash with flushed := k.getD s1.flash.flushed } }
        (s2.setRcd { s2.rcd with prog := none, buffer := without n s2.rcd.buffer, pfFlush := k }).flushEnd.moveHold.startProgram
      else
        let s1 := (s.putSlot n .torn).bump REC_TORN_PROG_FAIL
        if s1.rcd.tries < 2 then s1.setRcd { s1.rcd with tries := s1.rcd.tries + 1 }
        else
          let s2 := s1.setRcd { s1.rcd with prog := none, buffer := without n s1.rcd.buffer }
          (s2.send 0x0E0 0x05 n).flushEnd.moveHold.startProgram

/-- BLOCK_ERASE_DONE (R360). -/
def State.blockErased (s : State) : State :=
  match s.rcd.erasing with
  | none => s
  | some b =>
    if s.rcd.suspended then s
    else
      let s1 := { s with flash := { s.flash with slots := s.flash.slots.filter (fun p => p.1 / 2048 != b) } }
      (s1.setRcd { s1.rcd with erasing := none }).startProgram

/-- A change of REC_CTL.MODE: to DIRECT it triggers a flush (R362). -/
def State.recMode (s : State) (m : Nat) : State :=
  let s1 := s.wr REC_CTL_MODE m
  (if s.isOn REC_CTL_MODE ∧ m = 0 then s1.startFlush else s1).startProgram

/-- HOLD_OVERFLOW of a freeze that has ended (R368). -/
def State.holdOverflow (s : State) : State :=
  let s1 := s.setRcd { s.rcd with holdDrops := 0 }
  if s.rcd.holdDrops = 0 then s1 else s1.send 0x0E0 0x02 s.rcd.holdDrops

/-- A freeze is over; HOLD_OVERFLOW once (R368, R369). -/
def State.unfreeze (s : State) : State :=
  match s.rcd.frozenAt with
  | none => s
  | some _ => (s.setRcd { s.rcd with frozenAt := none, lastEnd := some s.sft.ms }).holdOverflow

/-- A freeze ends, and the held records move into the buffer (R369). -/
def State.endFreeze (s : State) : State := if s.rcd.frozenAt.isNone then s else s.unfreeze.moveHold.startProgram

/-- FREEZE_TIMEOUT: 2 s after the freeze started (R369). -/
def State.freezeTimeout (s : State) : State :=
  match s.rcd.frozenAt with
  | none => s
  | some t0 => if t0 + 2000 ≤ s.sft.ms then ((s.wr REC_STAT_FREEZE_TO 1).send 0x0E0 0x03 0).endFreeze else s

/-- RECORDER_FREEZE with ON = 1 is refused (R369). -/
def State.freezeRefused (s : State) : Bool :=
  s.rcd.frozenAt.isSome || !s.rcd.hold.isEmpty ||
  match s.rcd.lastEnd with
  | none => false
  | some t => decide (s.sft.ms < t + 100)

/-- Power-fail is detected, with VSAFE at vsafe mV (R365, R450). Nothing of a freeze is programmed before POWER_FAIL. -/
def State.startPowerFail (s : State) (vsafe : Nat) : State :=
  if s.rcd.pf.isSome then s
  else
    let s1 := s.unfreeze
    let s2 := s1.rcd.hold.foldl State.enterBuffer (s1.setRcd { s1.rcd with hold := [] })
    let full := decide (32 ≤ s2.rcd.buffer.length)
    let r := s2.recOf 6 0 0 0 0 false (min 32 (s2.rcd.buffer.length + 1))
    let s3 :=
      if full then
        let d := match victim s2.rcd.prog false s2.rcd.buffer with
          | some n => (s2.setRcd { s2.rcd with buffer := without n s2.rcd.buffer }).dropRec
          | none => s2
        d.setRcd { d.rcd with buffer := d.rcd.buffer ++ [r] }
      else s2.enterBuffer r
    let s4 := s3.takeNumber
    (s4.setRcd { s4.rcd with
      pf := some 64
      pfFlush := some 0
      slow := s.isA1 && decide (vsafe < 3000)
      suspended := s4.rcd.erasing.isSome
      flushing := true
      flushTo := s4.rcd.next }).startProgram

/-- POWER_FAIL: VSAFE, at vsafe mV, has fallen below PF_MV, which is met within 2 % (R365, R423). -/
def State.powerFail (s : State) (vsafe : Nat) : State :=
  if 100 * vsafe ≤ 102 * heldN 2800 5000 (s.rd REC_PF_PF_MV) then s.startPowerFail vsafe else s

/-- VSAFE_BELOW_RESET: programming stops; a record cut off is torn; the buffer is lost (R365, R402). The flash holds what the
flush has programmed (R366). -/
def State.vsafeLost (s : State) : State :=
  let s0 := { s with flash := { s.flash with flushed := s.rcd.pfFlush.getD s.flash.flushed } }
  let s1 := match s0.rcd.prog with
    | none => s0
    | some n => s0.putSlot n .torn
  s1.setRcd { s1.rcd with
    buffer := [], hold := [], prog := none, tries := 0, flushing := false, frozenAt := none, pfFlush := none }

/-- A reset ends a freeze: the held records move into the buffer (R369); programming goes on only in the flush of a
power-fail (R365). r is what the reset leaves of everything else. The 100 ms without a new freeze start at T0. -/
def State.resetRecorder (s r : State) : State :=
  let recent : Bool := s.rcd.frozenAt.isSome || s.rcd.lastEnd.any (fun t => decide (s.sft.ms < t + 100))
  let on := s.rcd.pfFlush.isSome
  let r1 := r.setRcd { s.rcd with
    frozenAt := none, lastEnd := if recent then some 0 else none, prog := if on then s.rcd.prog else none }
  let r2 := r1.moveHold
  r.setRcd { r2.rcd with prog := if on then r2.rcd.prog else none }

/-- POWERED_MINUTE: HOURS every 60 (R358, R367). -/
def State.poweredMinute (s : State) : State :=
  let s1 := s.bump REC_MINUTES_MINUTES
  if s1.rd REC_MINUTES_MINUTES % 60 = 0 then (s1.makeRecord 7 0 0 0 0 false 0).1 else s1

/-- The valid records of the flash. -/
def State.flashRecs (s : State) : List Rec :=
  s.flash.slots.filterMap (fun p => match p.2 with
    | .valid r => some r
    | .torn => none)

/-- Numbers in falling order. -/
def sortDown : List Nat → List Nat
  | [] => []
  | x :: t =>
    let rec ins : List Nat → List Nat
      | [] => [x]
      | y :: u => if y ≤ x then x :: y :: u else y :: ins u
    ins (sortDown t)

/-- The held circulating records, highest number first (R361). -/
def State.heldRecs (s : State) : List Nat :=
  (sortDown ((s.flashRecs.filter (fun r => decide (128 ≤ r.number))).map (fun r => r.number))).take 1024

/-- Record number n as RECORDER_READ finds it (R361). -/
def State.recordOf (s : State) (n : Nat) : Option Rec :=
  match s.rcd.buffer.find? (fun r => r.number == n) with
  | some r => some r
  | none =>
    match s.flashRecs.find? (fun r => r.number == n) with
    | none => none
    | some r => if n < 128 ∨ s.heldRecs.contains n then some r else none

/-- The torn slots the search at power-up comes across: the first slots of the circulating blocks, and those of the block the
position lies in (R367). -/
def State.tornFound (s : State) : Nat :=
  let at' := if s.flash.recAt = 2048 ∧ ¬ s.flash.slots.any (fun p => decide (2048 ≤ p.1)) then s.flash.keepAt
    else if s.flash.recAt = 2048 then 131071 else s.flash.recAt - 1
  (s.flash.slots.filter (fun p => p.2 == .torn &&
    (p.1 / 2048 == at' / 2048 || (decide (2048 ≤ p.1) && p.1 % 2048 == 0)))).length

/-- One more than the greatest of a list; 0 where it is empty. -/
def afterMax (l : List Nat) : Nat := match l.max? with
  | none => 0
  | some n => n + 1

/-- The number the recorder continues from at power-up (R359), not below one it has given out, and held at all ones (R355). -/
def State.startNumber (s : State) : Nat :=
  let recs := s.flashRecs
  min (2 ^ 32 - 1) (max (max (afterMax (recs.map (fun r => r.number)))
    (match ((recs.filter (fun r => r.type == 6)).map (fun r => r.number)).max? with
      | none => 0
      | some n => n + 65)) s.rcd.next)

/-- The newest valid record of the flash (R367). -/
def State.newestRec (s : State) : Option Rec :=
  match (s.flashRecs.map (fun r => r.number)).max? with
  | none => none
  | some n => s.flashRecs.find? (fun r => r.number == n)

/-- The recorder starts after a reset of this cause (R358, R367, R369, R401, R402): it finds its position, restores the
counts after a VSAFE power-on, and makes the POWER_UP record. -/
def State.recorderStart (s : State) (cause : Nat) : State :=
  let s0 := if cause = 1 then s.setRcd { next := 0, erasing := s.rcd.erasing } else s.holdOverflow
  let s1 :=
    if cause = 1 then
      let m := match s0.newestRec with
        | none => (0, 0)
        | some r => (r.minutes, r.cycles)
      ((s0.wr REC_MINUTES_MINUTES m.1).wr REC_CYCLES_CYCLES m.2).bump REC_CYCLES_CYCLES
    else s0
  let torn := s1.tornFound
  let s2 := ((s1.wrCount REC_TORN_TORN torn).wr REC_PF_LAST_FLUSH (s1.rcd.pfFlush.getD s1.flash.flushed))
  let s3 := s2.setRcd { s2.rcd with next := s2.startNumber, pf := none, suspended := false }
  let s4 := (s3.makeRecord 5 0 0 0 0 false cause).1
  (if torn = 0 then s4 else s4.send 0x0E0 0x04 (min 0xFFFFFF torn)).startProgram

end Sys2Proof.Machine
end

