-- ==== Sys2Proof/Machine/Thermal.lean ====
section
/-! DEFINITION. Temperature: readings, plausibility and substitution (R196–R198), throttling while a sensor fails
(R199), derating (R200, R201) and compensation (R202, R209, R210). -/

namespace Sys2Proof.Machine

/-- The neighbours of a sensor (R196): the 8 × 2 grid of diodes over both dies, NTCs of one group, internal sensors. -/
def State.sensorPeers (s : State) (i : Nat) : List Nat :=
  if i < 32 then
    let x := 8 * (i / 16) + i % 8
    let y := i % 16 / 8
    let at' (a b : Nat) : Nat := 16 * (a / 8) + 8 * b + a % 8
    (if x < 15 then [at' (x + 1) y] else []) ++ (if 0 < x then [at' (x - 1) y] else []) ++ [at' x (1 - y)]
  else if i < 36 then
    let grp (k : Nat) : Nat := bitsOf (s.rd THM_NTC_CFG_GROUP) (2 * (k - 32)) 2
    if grp i = 0 then [] else [32, 33, 34, 35].filter (fun k => k != i && grp k == grp i)
  else [36, 37, 38, 39].filter (fun k => k != i)

/-- The fault source of sensor i (R203). -/
def sensorSource (i : Nat) : Nat := if i < 16 then 0x0B0 else if i < 32 then 0x0B1 else if i < 36 then 0x0B2 else 0x0B3

/-- A list of integers, rising. -/
def insertInt (x : Int) : List Int → List Int
  | [] => [x]
  | y :: t => if x ≤ y then x :: y :: t else y :: insertInt x t

/-- The median; of an even count the mean of the middle two (R197). -/
def medianInt (l : List Int) : Rat :=
  let m := l.foldr insertInt []
  let n := m.length
  if n % 2 = 1 then (m.getD (n / 2) 0 : Rat) else ((m.getD (n / 2 - 1) 0 : Rat) + (m.getD (n / 2) 0 : Rat)) / 2

/-- A reading within −55 … +175 °C (R196). -/
def inSpan (t : Int) : Bool := decide (-880 ≤ t) && decide (t ≤ 2800)

/-- The rate test of R197 against the reading 16 boundaries before. -/
def State.rateOk (s : State) (now : List Int) (i : Nat) : Bool :=
  match s.thm.past[15]? with
  | none => true
  | some old =>
    decide ((now.getD i 0 - old.getD i 0).natAbs * 1000000 ≤ heldN 5 100 (s.rd THM_CFG_RATE) * 256 * s.period)

/-- The sensors whose readings pass span and rate, and which are not excluded from medians (R197). -/
def State.countable (s : State) (now : List Int) (i : Nat) : Bool :=
  !s.thm.impl.getD i false && inSpan (now.getD i 0) && s.rateOk now i

/-- The readings of the plausible neighbours of sensor i. -/
def State.peerReadings (s : State) (now : List Int) (i : Nat) : List Int :=
  ((s.sensorPeers i).filter (s.countable now)).map (fun k => now.getD k 0)

/-- Sensor i passes all three tests (R197). -/
def State.sensorOk (s : State) (now : List Int) (i : Nat) : Bool :=
  inSpan (now.getD i 0) && s.rateOk now i &&
  (match s.peerReadings now i with
   | [] => true
   | l =>
     let d := (now.getD i 0 : Rat) - medianInt l
     decide (-((16 * heldN 4 60 (s.rd THM_CFG_NDIFF) : Nat) : Rat) ≤ d) &&
     decide (d ≤ ((16 * heldN 4 60 (s.rd THM_CFG_NDIFF) : Nat) : Rat)))

/-- T_r's curve, K_sink's and K_drv's: 1 up to a, linear down to e at b, e above (R200, R201); t in 1/16 °C. -/
def curve (a b : Nat) (e : Rat) (t : Rat) : Rat :=
  let c := t / 16
  if c ≤ (a : Rat) then 1 else if (b : Rat) ≤ c then e else 1 - (1 - e) * (c - (a : Rat)) / ((b : Rat) - (a : Rat))

/-- The diode of region n (R18). -/
def diodeOf (n : Nat) : Nat := 16 * (n / 32) + n % 32 / 2

/-- The factor k would have from temperature t, before a freeze (R200, R201). -/
def State.factorAt (s : State) (k : Nat) (t : Rat) : Rat :=
  if k < 64 then
    min (curve (s.rd SAL_RULE_CFG_T_START) (s.rd SAL_RULE_CFG_T_END) ((s.rd SAL_RULE_CFG_F_END : Rat) / 256) t)
      ((min 256 (s.smp (SAL_RGN_FW_DER k)) : Nat) / 256)
  else if k = 64 then curve (s.rd SAL_RULE_TEMP_SINK_START) (s.rd SAL_RULE_TEMP_SINK_END) (1 / 2) t
  else curve 105 125 (3 / 5) t

/-- The NTCs with ROLE sink (R201). -/
def State.sinkNtcs (s : State) : List Nat := [32, 33, 34, 35].filter (fun k => bitsOf (s.rd THM_NTC_CFG_ROLE) (2 * (k - 32)) 2 == 1)

/-- The sensor of a list with the greatest value, the lowest number first. -/
def hottest (val : List Rat) (l : List Nat) : Option Nat :=
  l.foldl (fun best k =>
    match best with
    | none => some k
    | some b => if val.getD b 0 < val.getD k 0 then some k else some b) none

/-- The factors a sensor governs (R199). -/
def State.governs (s : State) (i : Nat) : List Nat :=
  if i < 32 then [32 * (i / 16) + 2 * (i % 16), 32 * (i / 16) + 2 * (i % 16) + 1]
  else if s.thm.govSink = some i then [64] else if s.thm.govDrv = some i then [65] else []

/-- A plausible sensor becomes implausible (R197), freezing the factors it governs where R199 says. -/
def State.sensorLost (s : State) (i : Nat) : State :=
  let s1 := (s.bump THM_CNT_IMPL).send (sensorSource i) 0x01 i
  (s.governs i).foldl (fun a k =>
    let f := a.thm.factor.getD k 1
    let cold : Bool := match a.thm.last.getD i none with
      | none => false
      | some t => decide (a.factorAt k (t : Rat) < 1)
    if f < 1 ∨ cold then
      { (a.bump THM_CNT_FREEZE).send (sensorSource i) 0x02 i with
        thm := { a.thm with freezes := a.thm.freezes ++ [⟨k, i, f⟩] } }
    else a) s1

/-- Plausibility of every sensor at a boundary, for the readings that come into force (R197). -/
def State.plausibility (s : State) (now : List Int) : State :=
  let ok := (List.range 40).map (s.sensorOk now)
  let s1 := upTo 40 s (fun a i => if ok.getD i true ∨ a.thm.impl.getD i false then a else a.sensorLost i)
  { s1 with thm := { s1.thm with
    impl := (List.range 40).map (fun i => s.thm.impl.getD i false || !ok.getD i true)
    okRun := (List.range 40).map (fun i => if ok.getD i true then min 255 (s.thm.okRun.getD i 0 + 1) else 0)
    last := (List.range 40).map (fun i =>
      if ok.getD i true && !s.thm.impl.getD i false then some (now.getD i 0) else s.thm.last.getD i none) } }

/-- The plausible ones of a list of sensors. -/
def State.plausible (s : State) (l : List Nat) : List Nat := l.filter (fun k => !s.thm.impl.getD k false)

/-- The greatest reading of a list of sensors. -/
def highestOf (now : List Int) : List Nat → Option Int
  | [] => none
  | k :: t => match highestOf now t with
    | none => some (now.getD k 0)
    | some m => some (if m < now.getD k 0 then now.getD k 0 else m)

/-- The value in force for sensor i, and the state that has given it (R198). The last plausible reading of an NTC that
never had one is a free value. -/
def State.valueOf (s : State) (now : List Int) (i : Nat) : State × Rat :=
  if ¬ s.thm.impl.getD i false then (s, (now.getD i 0 : Rat))
  else
    match (s.plausible (s.sensorPeers i)).map (fun k => now.getD k 0) with
    | [] =>
      if i < 32 then
        (s, match highestOf now (s.plausible ((List.range 16).map (fun k => 16 * (i / 16) + k))) with
          | some t => (t : Rat) + 128
          | none => ((16 * s.rd SAL_RULE_TEMP_T_CUT : Nat) : Rat))
      else if i < 36 then
        match s.thm.last.getD i none with
        | some t => (s, (t : Rat) + 128)
        | none =>
          let v := s.free
          let t := signed 16 v.1
          ({ v.2 with thm := { v.2.thm with last := v.2.thm.last.set i (some t) } }, (t : Rat) + 128)
      else
        (s, match highestOf now (s.plausible [36, 37, 38, 39]) with
          | some t => (t : Rat) + 128
          | none => 2000)
    | l => (s, medianInt l + 128)

/-- NO_SENSORS: a die without a plausible diode, the driver die without a plausible internal sensor (R198). -/
def State.noSensors (s : State) : State :=
  let gone := [(s.plausible (List.range 16)).isEmpty, (s.plausible ((List.range 16).map (fun k => 16 + k))).isEmpty,
    (s.plausible [36, 37, 38, 39]).isEmpty]
  let new (k : Nat) : Bool := gone.getD k false && !s.thm.noneRun.getD k false
  let s1 := { s with thm := { s.thm with noneRun := gone } }
  if new 0 ∨ new 1 ∨ new 2 then s1.send 0x0B4 0x01 (flag (gone.getD 0 false) + 2 * flag (gone.getD 1 false) + 8 * flag (gone.getD 2 false))
  else s1

/-- The factor in force for k from temperature t: a frozen factor may deepen but not relax (R199, R200). -/
def State.factorNow (s : State) (k : Nat) (t : Rat) : Rat :=
  (s.thm.freezes.filter (fun z => z.factor == k)).foldl (fun f z => min f z.frz) (s.factorAt k t)

/-- OVERTEMP of sensor i, once in each run (R200, R201). -/
def State.overTemp (s : State) (i : Nat) (hot : Bool) : State :=
  if ¬ hot then { s with thm := { s.thm with hot := s.thm.hot.filter (fun k => k != i) } }
  else if s.thm.hot.contains i then s
  else { s.send (sensorSource i) 0x03 i with thm := { s.thm with hot := s.thm.hot ++ [i] } }

/-- A rational number shown in a signed 16-bit field of 1/16 °C. -/
def sixteenths (t : Rat) : Int := held (-32768) 32767 (Rat.floor t)

/-- The temperature of the regions of diode i: T_CUT where no diode of its die is plausible (R198). -/
def State.diodeTemp (s : State) (i : Nat) : Rat :=
  if s.thm.noneRun.getD (i / 16) false then ((16 * s.rd SAL_RULE_TEMP_T_CUT : Nat) : Rat) else s.thm.val.getD i 0

/-- The hottest plausible sink NTC and internal sensor govern K_sink and K_drv (R199). -/
def State.regovern (s : State) : State :=
  { s with thm := { s.thm with
    govSink := hottest s.thm.val (s.plausible s.sinkNtcs)
    govDrv := hottest s.thm.val (s.plausible [36, 37, 38, 39]) } }

/-- The factors at a boundary (R199–R201). -/
def State.factors (s : State) : State :=
  let val := s.thm.val
  let sinks := s.sinkNtcs
  let sinkTop := hottest val sinks
  let sinkT : Option Rat := sinkTop.map (fun k => val.getD k 0)
  let drvT := (hottest val [36, 37, 38, 39]).elim 0 (fun k => val.getD k 0)
  let fs := (List.range 64).map (fun n => s.factorNow n (s.diodeTemp (diodeOf n))) ++
    [match sinkT with
     | none => 1
     | some t => s.factorNow 64 t,
     s.factorNow 65 drvT]
  let s1 := { s with thm := { s.thm with factor := fs } }.regovern
  let cut : Rat := ((16 * s.rd SAL_RULE_TEMP_T_CUT : Nat) : Rat)
  let s2 := upTo 32 s1 (fun a i => a.overTemp i (decide (cut ≤ s.diodeTemp i)))
  let s3 := [32, 33, 34, 35].foldl (fun a i => a.overTemp i (sinkTop == some i && decide (1760 < val.getD i 0))) s2
  let s4 := match sinkT with
    | none => s3
    | some t => s3.wrI THM_SUMMARY_SINK_T (sixteenths t)
  let s5 := ((s4.wrI THM_SUMMARY_DRV_T (sixteenths drvT)).wr THM_FACT_SINK_F (Rat.floor (fs.getD 64 1 * 1024)).toNat).wr
    THM_FACT_DRV_F (Rat.floor (fs.getD 65 1 * 1024)).toNat
  upTo 64 s5 (fun a n => a.wr (SAL_RGN_LIM_TF n) (Rat.floor (fs.getD n 1 * 1024)).toNat)

/-- What the THM_ registers and SAL_RGN_n_LIM show of sensors and freezes (R204, R205). -/
def State.showSensors (s : State) : State :=
  let frozen (k : Nat) : Bool := s.thm.freezes.any (fun z => z.factor == k)
  let s1 := upTo 40 s (fun a i =>
    let gov := (s.governs i).any (fun k => decide (s.thm.factor.getD k 1 < 1))
    let frz := s.thm.freezes.any (fun z => z.sensor == i) || (s.governs i).any frozen
    ((((a.wrI (THM_T_TEMP i) (sixteenths (s.thm.val.getD i 0))).wr (THM_T_SUBST i) (flag (s.thm.impl.getD i false))).wr
      (THM_T_IMPL i) (flag (s.thm.impl.getD i false))).wr (THM_T_FROZEN i) (flag frz)).wr (THM_T_GOVERN i) (flag gov))
  let s2 := (s1.wr THM_FACT_SINK_FRZ (flag (frozen 64))).wr THM_FACT_DRV_FRZ (flag (frozen 65))
  upTo 64 s2 (fun a n => a.wr (SAL_RGN_LIM_FROZEN n) (flag (frozen n)))

/-- The correction of one table of R210 at temperature t, in 1/16 °C. -/
def tempCorr (table : List Nat) (t : Rat) : Int :=
  let u0 := (t / 16 + 40) / 20
  let u : Rat := if u0 < 0 then 0 else if (10 : Rat) < u0 then 10 else u0
  let i := min 9 (Rat.floor u).toNat
  let c (k : Nat) : Rat := (signed 8 (table.getD k 0) : Rat)
  roundRat (c i + (u - (i : Rat)) * (c (i + 1) - c i))

/-- One step from `now` towards `want`, at most one code. -/
def stepTo (now want : Int) : Int := if now < want then now + 1 else if want < now then now - 1 else now

/-- TEMPERATURE_COMPENSATION (R202, log 197): every correction moves towards its table's value within its step limit. tables are the
temperature-coefficient tables of the factory area, trims the factory current-reference trims, by 4 * region + range. -/
def State.compensate (s : State) (tables : List Nat) (trims : List Nat) : State :=
  let tab (k : Nat) : List Nat := (tables.drop (11 * k)).take 11
  let ints := s.plausible [36, 37, 38, 39]
  let oscT : Rat := if ints.isEmpty then 2000 else (ints.map (fun k => s.thm.val.getD k 0)).sum / (ints.length : Rat)
  let want (k : Nat) : Int := tempCorr (tab k) (if k < 256 then s.thm.val.getD (diodeOf (k / 4)) 0 else oscT)
  let lim (k : Nat) (c : Int) : Int :=
    if k < 256 then held 0 255 ((trims.getD k 0 : Int) + c) - (trims.getD k 0 : Int) else c
  let free (k : Nat) : Bool := decide (k ≤ 256) || decide (15 ≤ s.thm.oscAge.getD (k - 256) 16)
  let new := (List.range 259).map (fun k =>
    let now := s.thm.corr.getD k 0
    if free k then stepTo now (lim k (want k)) else now)
  let short := (List.range 259).any (fun k => new.getD k 0 != want k)
  let age := (List.range 3).map (fun j =>
    if new.getD (256 + j) 0 != s.thm.corr.getD (256 + j) 0 then 0 else min 16 (s.thm.oscAge.getD j 16 + 1))
  (({ s with thm := { s.thm with corr := new, oscAge := age } }.wrI THM_COMP_OSC_T (sixteenths oscT)).wr THM_COMP_LIMITED
    (flag short))

/-- The readings of the bask that starts, each with its factory offset added (R196, R209). -/
def State.takeReadings (s : State) (offsets : List Nat) (raw : List Int) : State :=
  let taken := (List.range 40).map (fun i => raw.getD i 0 + signed 16 (offsets.getD i 0))
  upTo 40 { s with thm := { s.thm with taken := some taken } } (fun a i =>
    a.wr (THM_RAW_RAW i) (if inSpan (taken.getD i 0) then unsigned 16 (taken.getD i 0) else 0x8000))

/-- SENSOR_READINGS_IN_FORCE at a boundary (R196): the readings taken in the last bask come into force, and new ones are
taken. -/
def State.readSensors (s : State) (offsets : List Nat) (raw : List Int) : State :=
  let s1 := match s.thm.taken with
    | none => s
    | some now =>
      let a := s.plausibility now
      let b := { a with thm := { a.thm with past := (now :: a.thm.past).take 17 } }
      let c := upTo 40 b (fun x i =>
        let v := x.valueOf now i
        { v.1 with thm := { v.1.thm with val := v.1.thm.val.set i v.2 } })
      c.noSensors
  ((s1.takeReadings offsets raw).factors).showSensors

/-- SENSOR_READMIT (R197): its own reading is in force again (R198), is its last plausible one, and governs where it is the
hottest (R199); the summary and the factors follow at the boundary (log 225). -/
def State.sensorReadmit (s : State) (i : Nat) : State :=
  if s.thm.impl.getD i false ∧ max 4 (s.rd THM_CFG_READMIT) ≤ s.thm.okRun.getD i 0 then
    let own : Int := (s.thm.past.headD []).getD i 0
    ({ s with thm := { s.thm with
      impl := s.thm.impl.set i false, val := s.thm.val.set i (own : Rat), last := s.thm.last.set i (some own) } }).regovern.showSensors
  else s

/-- THROTTLE_FREEZE_LIFT (R199). -/
def State.freezeLift (s : State) (i : Nat) : State :=
  if 64 ≤ s.thm.okRun.getD i 0 then
    { s with thm := { s.thm with freezes := s.thm.freezes.filter (fun z => z.sensor != i) } }.showSensors
  else s

end Sys2Proof.Machine
end

