-- ==== Sys2Proof/Machine/Salamander.lean ====
section
/-! DEFINITION. Salamander: what it counts (R179–R183), the limits and allowances (R184, R185), the resolve (R186–R190),
measured power (R191), the budget rules (R192) and the grants (R193–R195); and the scale-and-clamp pass (R116–R120,
R187). Powers are exact numbers in µW. -/

namespace Sys2Proof.Machine

/-- The level members: regions 0–63, die A, die B, the package. -/
def members : List Nat := List.range 67

/-- The floor F_t of a tile (R115). -/
def State.floorOf (s : State) (t : Nat) : Nat := s.gko.floor.get t

/-- Z_t shares of a dead pixel d, by tile (R179). -/
def State.shares (s : State) (fr : Frame) (d : Nat) : List (Nat × Rat) :=
  let sd := Side.ofNat (Cells.get fr.side 0 d)
  let i0 := Cells.get fr.light 0 d
  let i := if sd.base then max i0 (s.floorOf (tileOf d)) else i0
  let alive := s.live d
  if ¬ s.dead d ∨ alive = 0 ∨ i = 0 then []
  else
    (neighbours d).filterMap (fun q =>
      if s.dead q ∨ tileOf q = tileOf d ∨ s.smp (PXD_CONCEAL_EN (regionOf q)) = 0 then none
      else some (tileOf q, ((i * s.concealGain (regionOf d) : Nat) : Rat) / ((16 * alive : Nat) : Rat)))

/-- The tile sums after one more pixel (R179). -/
def State.sumPixel (s : State) (fr : Frame) (a : Keyed TileSum) (p : Nat) : Keyed TileSum :=
  let i := Cells.get fr.light 0 p
  let sd := Side.ofNat (Cells.get fr.side 0 p)
  let t := tileOf p
  let f := s.floorOf t
  let x := Keyed.get a {} t
  let add := if sd.base then i - f else i
  Keyed.put a t { x with
    lit := if sd.base then x.lit + 1 else x.lit
    low := if sd.base then x.low + min i f else x.low
    r := x.r.set (sd.cls % 4) (x.r.getD (sd.cls % 4) 0 + add) }

/-- The pixels a frame lists. -/
def Frame.pixels (fr : Frame) : List Nat :=
  let ks := fr.side.map (fun c => c.1)
  ks ++ (fr.light.map (fun c => c.1)).filter (fun k => Cells.get fr.side 0 k = 0)

/-- Salamander's sums over a frame (R179). -/
def State.tileSums (s : State) (fr : Frame) : Keyed TileSum :=
  let a := fr.pixels.foldl (s.sumPixel fr) []
  (fr.pixels.flatMap (s.shares fr)).foldl (fun b q =>
    let x := Keyed.get b {} q.1
    Keyed.put b q.1 { x with z := x.z + q.2 }) a

/-- COMPOSITION_DONE (R38, R179): the last pixel of the frame is written. -/
def State.compositionDone (s : State) (us : Nat) : State :=
  if s.comp.bands < 8 ∨ s.comp.composed ∨ ¬ s.fetched then s
  else
    let a := s.compose us
    { a with sal := { a.sal with sums := a.tileSums a.back } }

/-- K_t before the guard, in 1/1,024 µA (R180). -/
def State.kOf (s : State) (t : Nat) : Rat :=
  match s.sal.kt.find? (fun p => p.1 == t) with
  | some p => p.2
  | none => (s.levelMax (regionOfTile t) : Rat)

/-- The die of a tile. -/
def dieOfTile (t : Nat) : Nat := t % 64 / 32

/-- µW per unit of intensity in tile t (R182). -/
def State.unitPower (s : State) (t : Nat) : Rat :=
  (s.sal.vd.getD (dieOfTile t) 3600 : Rat) / 1000 * (s.kOf t * (1 + (s.rd SAL_CFG_GUARD : Rat) / 256) / 1024) / 65536

/-- 1,024 (1 − over / q), held at 0, taken down (R186). -/
def cutTo (p lim q : Rat) : Nat := (Rat.floor (1024 * (1 - (p - lim) / q))).toNat

/-- One class of one step of R186: P, the classes' Q, the factors g. -/
def cutClass (lim : Rat) (second : Bool) (x : Rat × List Rat × List Nat) (c : Nat) : Rat × List Rat × List Nat :=
  let q := x.2.1.getD c 0
  if lim < x.1 ∧ 0 < q then
    let h := cutTo x.1 lim q
    let g := x.2.2.getD c 1024
    (x.1 - q * (1 - (h : Rat) / 1024), (if second then x.2.1 else x.2.1.set c (q * (h : Rat) / 1024)),
      x.2.2.set c (if second then g * h / 1024 else h))
  else x

/-- The factors of a level member, and its power after both steps (R186). -/
def solve (fixed : Rat) (q : List Rat) (lc la : Rat) (allow : Nat) : List Nat × Rat :=
  let x0 : Rat × List Rat × List Nat := (fixed + q.sum, q, [1024, 1024, 1024, 1024])
  let x1 := [3, 2, 1, 0].foldl (fun x c => if allow ≤ c then cutClass lc false x c else x) x0
  let x2 := [3, 2, 1, 0].foldl (cutClass la true) x1
  (x2.2.2, x2.1)

/-- A tile in the resolve: its number, µW per unit of intensity, its sums and its factors so far. -/
structure TileRun where
  t : Nat
  u : Rat
  sum : TileSum
  f : List Nat := [1024, 1024, 1024, 1024]
  deriving DecidableEq, Repr

/-- The fixed part of a tile as a power; with the floor released, f_floor 1/1,024 of min(I, F) in its place (R179,
R188). -/
def State.fixedPower (s : State) (ff : Option Nat) (x : TileRun) : Rat :=
  match ff with
  | none => x.u * (((x.sum.lit * s.floorOf x.t : Nat) : Rat) + x.sum.z)
  | some f => x.u * ((x.sum.low : Rat) * (f : Rat) / 1024 + x.sum.z)

/-- The reducible power of class c of a tile after its factors so far. -/
def TileRun.reducible (x : TileRun) (c : Nat) : Rat := x.u * (x.sum.r.getD c 0 : Rat) * (x.f.getD c 1024 : Rat) / 1024

/-- Each factor of a tile times a member's, taken down to 1/1,024 (R187). -/
def TileRun.times (x : TileRun) (g : List Nat) : TileRun :=
  { x with f := (List.range 4).map (fun c => x.f.getD c 1024 * g.getD c 1024 / 1024) }

/-- One level member resolved over its tiles: factors and power (R186). -/
def State.solveOver (s : State) (ff : Nat → Option Nat) (xs : List TileRun) (lc la : Rat) : List Nat × Rat :=
  solve ((xs.map (fun x => s.fixedPower (ff (dieOfTile x.t)) x)).sum)
    ((List.range 4).map (fun c => (xs.map (fun x => x.reducible c)).sum)) lc la (s.rd SAL_RULE_CFG_ALLOW)

/-- A limit of a level member in force. -/
def limOf (l : List Rat) (m : Nat) : Rat := l.getD m 0

/-- The tiles of a level member. -/
def ofMember (m : Nat) (x : TileRun) : Bool :=
  if m < 64 then regionOfTile x.t == m else if m < 66 then dieOfTile x.t == m - 64 else true

/-- f_floor from an available limit and P_floor (R188). -/
def floorFactor (la pf : Rat) : Nat := if pf ≤ 0 then 1024 else min 1024 (Rat.floor (1024 * la / pf)).toNat

/-- Salamander's resolve of the frame whose sums it holds (R186–R188, R193). -/
def State.budgetOf (s : State) : FrameBudget :=
  let la := s.sal.la
  let lc := s.sal.lc
  let x0 : List TileRun := s.sal.sums.map (fun p => ⟨p.1, s.unitPower p.1, p.2, [1024, 1024, 1024, 1024]⟩)
  let noRel : Nat → Option Nat := fun _ => none
  let x1 := x0.map (fun x =>
    let l := limOf s.sal.tileLc (regionOfTile x.t)
    x.times (s.solveOver noRel [x] l l).1)
  let overT := x0.filterMap (fun x =>
    if limOf s.sal.tileLc (regionOfTile x.t) < s.fixedPower none x then some (false, regionOfTile x.t, tileLocal x.t) else none)
  let gR := (List.range 64).map (fun n => (s.solveOver noRel (x1.filter (ofMember n)) (limOf lc n) (limOf la n)).1)
  let overR := (List.range 64).filterMap (fun n =>
    if limOf la n < ((x1.filter (ofMember n)).map (s.fixedPower none)).sum then some (true, n, 0) else none)
  let x2 := x1.map (fun x => x.times (gR.getD (regionOfTile x.t) []))
  let die (d : Nat) : List Nat × Rat := s.solveOver noRel (x2.filter (ofMember (64 + d))) (limOf lc (64 + d)) (limOf la (64 + d))
  let pFloor (xs : List TileRun) : Rat := (xs.map (fun x => x.u * (x.sum.low : Rat))).sum
  let relD (d : Nat) : Bool := decide (limOf la (64 + d) < (die d).2)
  let ffD (d : Nat) : Nat := if relD d then floorFactor (limOf la (64 + d)) (pFloor (x2.filter (ofMember (64 + d)))) else 1024
  let x3 := x2.map (fun x => x.times (die (dieOfTile x.t)).1)
  let pkg := s.solveOver (fun d => if relD d then some (ffD d) else none) x3 (limOf lc 66) (limOf la 66)
  let relP : Bool := decide (limOf la 66 < pkg.2)
  let ffP : Nat := if relP then floorFactor (limOf la 66) (pFloor x3) else 1024
  let ff (d : Nat) : Nat := min (ffD d) ffP
  let rel (d : Nat) : Bool := relD d || relP
  let x4 := x3.map (fun x => x.times pkg.1)
  let after (x : TileRun) : Rat :=
    s.fixedPower (if rel (dieOfTile x.t) then some (ff (dieOfTile x.t)) else none) x +
      ((List.range 4).map x.reducible).sum
  let before (x : TileRun) : Rat := s.fixedPower none x + ((List.range 4).map x.reducible).sum
  let cut (c : Nat) (x : TileRun) : Bool := decide (0 < x.sum.r.getD c 0) && decide (x.f.getD c 1024 < 1024)
  { pred := x4.map (fun x => (x.t, after x))
    raw := x0.map (fun x => (x.t, before x))
    fac := x4.map (fun x => (x.t, x.f))
    level := members.map (fun m => ((x4.filter (ofMember m)).map after).sum)
    levelRaw := members.map (fun m => ((x0.filter (ofMember m)).map before).sum)
    g := gR ++ [(die 0).1, (die 1).1, pkg.1]
    la := la
    ffloor := [ff 0, ff 1, ffP]
    rel := [rel 0, rel 1]
    pkg := relP
    red := (List.range 4).foldl (fun a c => a + (if x4.any (cut c) then 2 ^ c else 0)) 0
    sym := !x4.any (cut 2)
    exceeded := overT ++ overR
    kt := s.sal.kt
    kRest := (List.range 64).map (fun n => (s.levelMax n : Rat)) }

/-- A frame is in emergency (R188). -/
def FrameBudget.emergency (b : FrameBudget) : Bool := b.rel.getD 0 false || b.rel.getD 1 false || b.pkg

/-- RESOLVE_DONE (R186–R189, R193, log 198): factors resolved in ut tenths of a µs, and the scale-and-clamp pass starts with the
permit it samples (R117). -/
def State.resolveDone (s : State) (ut : Nat) (permit : Bool) : State :=
  if ¬ s.comp.composed ∨ s.comp.resolved then s
  else
    let b := s.budgetOf
    let s1 := { s with
      comp := { s.comp with resolved := true, symGranted := b.sym }
      gko := { s.gko with permit := permit, passLoaded := s.isOn GKO_ENV_CTL_LOADED }
      sal := { s.sal with next := b, overRun := b.exceeded, emRun := b.emergency } }
    let s2 := (b.exceeded.filter (fun o => !s.sal.overRun.contains o)).foldl (fun a o => a.send o.2.1 0x10 o.2.2) s1
    let s3 :=
      if b.emergency ∧ ¬ s.sal.emRun then
        s2.send 0x06F 0x01 (flag (b.rel.getD 0 false) + 2 * flag (b.rel.getD 1 false) + 4 * flag b.pkg)
      else s2
    let s4 := s3.wr SAL_STAT_RESOLVE (min 255 ut)
    if b.sym then s4 else s4.bump SAL_GRANT_CNT_SYM_WH

/-- s of R187 for a pixel of intensity i. -/
def FrameBudget.scaled (b : FrameBudget) (f i t : Nat) (sd : Side) : Nat :=
  let fl := if sd.base then f else 0
  let ff := b.ffloor.getD (dieOfTile t) 1024
  let fc := (Keyed.get b.fac [1024, 1024, 1024, 1024] t).getD (sd.cls % 4) 1024
  min i fl * ff / 1024 + (i - fl) * fc / 1024

/-- The pass over one pixel (R116, R187): the pixel's value, and whether the maximum lowered it, the floor raised it, the
permit cut lowered it. -/
def State.passPixel (s : State) (fr : Frame) (p : Nat) : Nat × Bool × Bool × Bool :=
  let b := s.sal.next
  let sd := Side.ofNat (Cells.get fr.side 0 p)
  let t := tileOf p
  let f := s.floorOf t
  let rel := b.rel.getD (dieOfTile t) false
  let v0 := b.scaled f (Cells.get fr.light 0 p) t sd
  let v1 := if sd.base ∧ ¬ rel then max v0 f else v0
  let v2 := if ¬ s.gko.permit ∧ sd.cls = 1 then min v1 (if sd.base then f else 0) else v1
  let mx := if s.gko.passLoaded then envMax (s.gko.env.get p) else 0
  (clampPixel v0 f mx sd rel s.gko.permit, decide (mx < v2), decide (v0 < v1), decide (v2 < v1))

/-- CRC-32C over the envelope map and floor (R119, R120). -/
def envelopeCrc (env floor : Plane) : Nat :=
  Algo.final .crc32c (feedCells 2 floor.fill floor.cells 1280 0 (feedCells 1 env.fill env.cells 1310720 0 0xFFFFFFFF))

/-- Upsets of the pond store's envelope area: a byte at an offset of the image of R119 that no longer reads as loaded. -/
def State.upsetEnvelope (s : State) (q : Nat × Nat) : State :=
  if q.1 < 1310720 then { s with gko := { s.gko with env := s.gko.env.put q.1 (q.2 % 256) } }
  else if q.1 < 1313280 then
    let t := (q.1 - 1310720) / 2
    let old := s.gko.floor.get t
    let new := if q.1 % 2 = 0 then old / 256 * 256 + q.2 % 256 else old % 256 + 256 * (q.2 % 256)
    { s with gko := { s.gko with floor := s.gko.floor.put t new } }
  else s

/-- FLOOR_RELEASED: a run begins on a die at a sealed frame (R118). -/
def State.floorReleased (s : State) (b : FrameBudget) : State :=
  let ra := b.rel.getD 0 false
  let rb := b.rel.getD 1 false
  let na := ra && !s.gko.relA
  let nb := rb && !s.gko.relB
  let s1 := { s with gko := { s.gko with relA := ra, relB := rb } }
  let s2 := (s1.wr GKO_ENV_CTL_REL_A (flag ra)).wr GKO_ENV_CTL_REL_B (flag rb)
  if na || nb then s2.send 0x06B 0x02 (flag na + 2 * flag nb) else s2

/-- µW as whole units of u µW, at most w bits. -/
def shown (w u : Nat) (p : Rat) : Nat := min (2 ^ w - 1) (Rat.floor (p / (u : Rat))).toNat

/-- What the SAL_ registers show of the frame just sealed (R204). -/
def State.showSealed (s : State) (b : FrameBudget) : State :=
  let g (m c : Nat) : Nat := (b.g.getD m []).getD c 1024
  let s1 := ((((s.wr SAL_STAT_EMERG_A (flag (b.rel.getD 0 false))).wr SAL_STAT_EMERG_B (flag (b.rel.getD 1 false))).wr
    SAL_STAT_EMERG_PKG (flag b.pkg)).wr SAL_STAT_CLASS_RED b.red).wr SAL_GRANT_SYM (flag b.sym)
  let s2 := upTo 64 s1 (fun a n =>
    (((((a.wr (SAL_RGN_PWR_PRED n) (shown 16 1000 (limOf b.level n))).wr (SAL_RGN_LIM_LA n) (shown 16 1000 (limOf b.la n))).wr
      (SAL_RGN_F01_F0 n) (g n 0)).wr (SAL_RGN_F01_F1 n) (g n 1)).wr (SAL_RGN_F23_F2 n) (g n 2)).wr (SAL_RGN_F23_F3 n) (g n 3))
  let s3 := upTo 2 s2 (fun a d =>
    let m := 64 + d
    (((((((a.wr (SAL_DIE_PWR_PRED d) (shown 16 10000 (limOf b.level m))).wr (SAL_DIE_PWR_RAW d)
      (shown 16 10000 (limOf b.levelRaw m))).wr (SAL_DIE_LIM_LA d) (shown 16 10000 (limOf b.la m))).wr
      (SAL_DIE_F01_F0 d) (g m 0)).wr (SAL_DIE_F01_F1 d) (g m 1)).wr (SAL_DIE_F23_F2 d) (g m 2)).wr (SAL_DIE_F23_F3 d) (g m 3)).wr
      (SAL_DIE_MEAS_FFLOOR d) (b.ffloor.getD d 1024))
  (((((((s3.wr SAL_PKG_PWR_PRED (shown 16 10000 (limOf b.level 66))).wr SAL_PKG_PWR_RAW (shown 16 10000 (limOf b.levelRaw 66))).wr
    SAL_PKG_LIM_LA (shown 16 10000 (limOf b.la 66))).wr SAL_PKG_F01_F0 (g 66 0)).wr SAL_PKG_F01_F1 (g 66 1)).wr
    SAL_PKG_F23_F2 (g 66 2)).wr SAL_PKG_F23_F3 (g 66 3)).wr SAL_PKG_MEAS_FFLOOR (b.ffloor.getD 2 1024)

/-- SCALE_CLAMP_DONE (R38, R116–R120): the pass ends; the frame is ready unless the envelope's check value differs; the
SEALED slot starts (R90). -/
def State.scaleClampDone (s0 : State) (upsets : List (Nat × Nat)) : State :=
  if ¬ s0.comp.resolved ∨ s0.comp.ready ∨ s0.comp.passFailed then s0
  else
    let s := upsets.foldl State.upsetEnvelope s0
    let fr := s.back
    let rs := fr.pixels.map (fun p => (p, s.passPixel fr p))
    let light := rs.foldl (fun c r => Cells.put c 0 r.1 r.2.1) fr.light
    let s1 := s.setBack { fr with light := light }
    let count (f : Nat × Bool × Bool × Bool → Bool) : Nat := (rs.filter (fun r => f r.2)).length
    let loaded := s.gko.passLoaded
    let crc := if loaded then envelopeCrc s.gko.env s.gko.floor else 0
    let s2 := s1.wr GKO_ENV_LAST_CRC crc
    if loaded ∧ crc ≠ s.rd GKO_ENV_CRC_CRC then
      { s2.send 0x06B 0x01 0 with comp := { s2.comp with passFailed := true } }
    else
      let b := s2.sal.next
      let s3 := ((s2.wr GKO_ENV_CLAMP_PIXELS (count (fun r => r.2.1))).wr GKO_ENV_FLOOR_PIXELS (count (fun r => r.2.2.1))).wr
        GKO_ENV_HBPCUT_PIXELS (count (fun r => r.2.2.2))
      let s4 := (s3.showSealed b).floorReleased b
      ({ s4 with comp := { s4.comp with ready := true } }).startSlot 2

/-- SUB_PERIOD_START: Salamander's samples of VLED_A and VLED_B, in mV (R181). -/
def State.sampleVled (s : State) (a b : Nat) : State :=
  let low (d v : Nat) : Option Nat := match s.sal.lowest.getD d none with
    | none => some v
    | some m => some (min m v)
  { s with sal := { s.sal with
    lowest := [low 0 a, low 1 b]
    newest := [some a, some b]
    highest := [max (s.sal.highest.getD 0 0) a, max (s.sal.highest.getD 1 0) b] } }

/-- SUB_PERIOD_START: the next sub-period and its samples (R135, R181). -/
def State.subPeriodStart (s : State) (a b : Nat) : State := s.subPeriod.sampleVled a b

/-- S_d of a lowest sample (R181). -/
def supplyFactor (vmin : Nat) : Rat :=
  if 3600 ≤ vmin then 1 else if vmin < 2700 then 1 / 2 else 1 / 2 + ((vmin : Rat) - 2700) / 1800

/-- The power voltage and supply factor of a die at a boundary, from the samples of the tick that ends (R181). -/
def State.supplyDie (s : State) (d : Nat) : State :=
  match s.sal.lowest.getD d none with
  | none => s
  | some vmin =>
    let vmax := s.sal.highest.getD d 0
    let f := supplyFactor vmin
    let low := decide (vmin < 2700)
    let s1 := { s with sal := { s.sal with
      vd := s.sal.vd.set d (max 3600 vmax)
      sf := s.sal.sf.set d f
      vmin := s.sal.vmin.set d vmin
      under := s.sal.under.set d (if low then min 255 (s.sal.under.getD d 0 + 1) else 0)
      underSent := if low then s.sal.underSent else s.sal.underSent.set d false
      upOnce := if low then s.sal.upOnce else s.sal.upOnce.set d true
      derated := s.sal.derated.set d (decide (f < 1))
      lowest := s.sal.lowest.set d none
      highest := s.sal.highest.set d 0 } }
    let s2 := ((s1.wr (SAL_VLED_MIN_MV d) (min 8191 vmin)).wr (SAL_VLED_MAX_MV d) (min 8191 vmax)).wr
      (if d = 0 then SAL_SUPPLY_SF_A else SAL_SUPPLY_SF_B) (Rat.floor (f * 1024)).toNat
    if f < 1 ∧ ¬ s.sal.derated.getD d false then s2.send (0x0C0 + d) 0x01 (min (2 ^ 24 - 1) vmin) else s2

/-- VLED_UNDER of a rail: below 2.7 V in two consecutive ticks, once in each run (R181); before the first whole tick at
2.7 V of both rails since T0 they are only late (R399). Answers whether it was sent. -/
def State.vledUnder (s : State) (d : Nat) : State × Bool :=
  if 2 ≤ s.sal.under.getD d 0 ∧ ¬ s.sal.underSent.getD d false ∧ s.sal.upOnce.all id then
    ({ s.send (0x0C0 + d) 0x02 (s.sal.vmin.getD d 0) with sal := { s.sal with
      underSent := s.sal.underSent.set d true } }.failsFrom s, true)
  else (s, false)

/-- A percentage in force: the lower of rule and firmware value (R184, R192, R204). -/
def State.pct (s : State) (rule fw : Fld) : Rat := (min (s.rd rule) (heldN 1 100 (s.smp fw)) : Nat) / 100

/-- Continuous and short limits of a level member other than the package (R184). -/
def State.memberLimit (s : State) (m : Nat) (perRgn perDie : Nat) : Rat :=
  let sf (d : Nat) : Rat := s.sal.sf.getD d 1
  if m < 64 then
    (perRgn : Rat) * s.pct SAL_RULE_LIM_RGN_PCT SAL_FW_LIM_RGN_PCT * (s.thm.factor.getD m 1 * sf (m / 32))
  else (perDie : Rat) * s.pct SAL_RULE_LIM_DIE_PCT SAL_FW_LIM_DIE_PCT * (s.thm.factor.getD 64 1 * sf (m - 64))

/-- The package's limits, with P_drv as it stands (R184). -/
def State.packageLimit (s : State) (short : Bool) : Rat :=
  let p := s.pct SAL_RULE_LIM_PKG_PCT SAL_FW_LIM_PKG_PCT
  let k := s.thm.factor.getD 64 1 * (s.sal.sf.getD 0 1 + s.sal.sf.getD 1 1) / 2
  if short then 72000000 * p * k
  else
    let room := 57000000 - 1000 * s.sal.pdrv
    max 0 (min (48000000 * p) room) * k

/-- The limits in force at a boundary (R184). -/
def State.setLimits (s : State) : State :=
  { s with sal := { s.sal with
    lc := (List.range 66).map (fun m => s.memberLimit m 1000000 24000000) ++ [s.packageLimit false]
    ls := (List.range 66).map (fun m => s.memberLimit m 1500000 36000000) ++ [s.packageLimit true]
    tileLc := (List.range 64).map (fun n =>
      80000 * s.pct SAL_RULE_LIM_TILE_PCT SAL_FW_LIM_TILE_PCT * (s.thm.factor.getD n 1 * s.sal.sf.getD (n / 32) 1)) } }

/-- The allowance C of a level member (R185), in µJ. -/
def State.allowance (s : State) (m : Nat) : Rat := (limOf s.sal.ls m - limOf s.sal.lc m) * 2

/-- The period in force, in s. -/
def State.periodS (s : State) : Rat := (s.period : Rat) / 1000000

/-- L_a of a level member (R185). -/
def State.available (s : State) (m : Nat) : Rat :=
  let lc := limOf s.sal.lc m
  let ls := limOf s.sal.ls m
  let room := s.allowance m - limOf s.sal.spent m
  min ls (lc + (if room < 0 then 0 else room) / s.periodS)

/-- SPENT_ENERGY_UPDATE (R185); after a reset every A starts at C. -/
def State.spendEnergy (s : State) : State :=
  let new : List Rat :=
    if s.sal.spent.isEmpty then members.map s.allowance
    else members.map (fun m =>
      let a := limOf s.sal.spent m + (limOf s.sal.meas m - limOf s.sal.lc m) * s.periodS
      if a < 0 then 0 else a)
  let s1 := { s with sal := { s.sal with spent := new } }
  { s1 with sal := { s1.sal with la := members.map s1.available } }

/-- A member is over its 2-second limit at this boundary (R185). -/
def State.overTwoSeconds (s : State) (m : Nat) : Bool :=
  let p := limOf s.sal.meas m
  decide (limOf s.sal.ls m < p) ||
  (decide (limOf s.sal.lc m < p) && decide (s.allowance m ≤ limOf s.sal.spent m))

/-- K_t and the measured powers of the active part that has ended (R180, R191). -/
def State.measure (s : State) : State :=
  let den (t : Nat) : Nat := Keyed.get s.scn.kDen 0 t
  let tm : Keyed Rat := s.scn.kNum.map (fun p =>
    (p.1, (s.sal.vd.getD (dieOfTile p.1) 3600 : Rat) / 1000 * (p.2 : Rat) / 1024 / 65536))
  let kt := s.scn.kNum.foldl (fun k p => if den p.1 = 0 then k else Keyed.put k p.1 ((p.2 : Rat) / (den p.1 : Rat))) s.sal.kt
  let rgn (n : Nat) : Rat := ((tm.filter (fun p => regionOfTile p.1 == n)).map (fun p => p.2)).sum + Keyed.get s.sal.slice 0 n
  let rs := (List.range 64).map rgn
  let die (d : Nat) : Rat := ((List.range 32).map (fun m => rs.getD (32 * d + m) 0)).sum
  { s with
    sal := { s.sal with kt := kt, tileMeas := tm, meas := rs ++ [die 0, die 1, die 0 + die 1], slice := [] }
    scn := { s.scn with kNum := [], kDen := [] } }

/-- PREDICT_MISS of the tick that ends, shown with source FRAME from the frame in front until now (R191). -/
def State.predictMiss (s : State) : State :=
  if s.source ≠ 0 then s
  else upTo 64 s (fun a n =>
    match s.sal.shown.la[n]? with
    | none => a
    | some la =>
      if la * (1 + (heldN 1 50 (s.rd SAL_CFG_TOL_PCT) : Rat) / 100) < limOf s.sal.meas n then
        (a.bump SAL_ERR_CNT_PREDICT_MISS).send 0x06F 0x02 n
      else a)

/-- K_t a frame was resolved with (R183). -/
def FrameBudget.kOf (b : FrameBudget) (t : Nat) : Rat := Keyed.get b.kt (b.kRest.getD (regionOfTile t) 0) t

/-- The records of R183 at a boundary: whole where a frame was swapped in, else MEAS alone. -/
def State.writeRecords (s : State) (swapped : Bool) : State :=
  let b := s.sal.shown
  let u (k : Keyed Rat) (t : Nat) : Nat := shown 16 4 (Keyed.get k 0 t)
  { s with sal := { s.sal with records := (List.range 1280).foldl (fun pl t =>
      let low := if swapped then u b.pred t + 65536 * u b.raw t + 2 ^ 32 * (shown 16 1 (b.kOf t)) else pl.get t % 2 ^ 48
      pl.put t (low + 2 ^ 48 * u s.sal.tileMeas t)) s.sal.records } }

/-- REPEAT_OVER (R190): the frame in front is repeated. -/
def State.repeatOver (s : State) : State :=
  let b := s.sal.shown
  let bad := (b.pred.filterMap (fun p => if limOf s.sal.tileLc (regionOfTile p.1) < p.2 then some (0, p.1) else none)) ++
    (members.filterMap (fun m => if limOf s.sal.la m < limOf b.level m then
        some (if m < 64 then (1, m) else if m < 66 then (2, m - 64) else (3, 0)) else none))
  match bad with
  | [] => s
  | f :: _ => ((s.wr SAL_STAT_REPEAT_OVER 1).bump SAL_ERR_CNT_REPEAT_OVER).send 0x06F 0x03 (f.1 + 4 * f.2 + 2 ^ 13 * bad.length)

/-- A candidate of R194: its driver-die cost in mW. -/
def State.itemCost (s : State) (it : WorkItem) : Rat :=
  (s.rd SAL_DRV_CFG_E_PJ : Rat) * (it.allowance : Rat) / (1000 * (s.period : Rat))

/-- Deferrable items of an engine tried one after the other: P_drv and the granted bits (R194). -/
def State.tryItems (s : State) (lim : Rat) (e : Nat) (p : Rat) : Rat × Nat :=
  (List.zip (List.range 32) (s.itemsOf e)).foldl (fun a q =>
    if q.2.essential ∨ lim < a.1 + s.itemCost q.2 then a else (a.1 + s.itemCost q.2, a.2 + 2 ^ q.1)) (p, 0)

/-- Deferrable items of several engines. -/
def State.tryEngines (s : State) (lim : Rat) (es : List Nat) (p : Rat) : State × Rat :=
  es.foldl (fun a e =>
    let r := s.tryItems lim e a.2
    (a.1.wr (NWT_GRANT_ITEMS e) r.2, r.1)) (s, p)

/-- Every region a self-test slice touches has headroom under L_c (R195): its power by region in µW; a slice that touches none
needs none. -/
def State.sliceFits (s : State) (slice : Keyed Rat) : Bool :=
  let load (m : Nat) : Rat := max (limOf s.sal.before.level m) (limOf s.sal.shown.level m)
  let of (d : Nat) : Rat := ((slice.filter (fun p => p.1 / 32 == d)).map (fun p => p.2)).sum
  let all := of 0 + of 1
  slice.all (fun p => decide (load p.1 + p.2 ≤ limOf s.sal.lc p.1)) &&
  (List.range 2).all (fun d => of d == 0 || decide (load (64 + d) + of d ≤ limOf s.sal.lc (64 + d))) &&
  (slice.isEmpty || decide (load 66 + all ≤ limOf s.sal.lc 66))

/-- Charged driver-die power of the tests without groups, in mW (R373). -/
def driverPower (n : Nat) : Rat := if n = 1 then 150 else if n = 2 then 400 else 200

/-- A test of the driver die runs: granted, and not at its end (R378). -/
def Test.onDriver (t : Test) : Bool := (t.num == 1 || t.num == 2 || t.num == 7) && t.started && decide (t.exec < t.expect)

/-- What the driver-die tests that were granted at an earlier boundary still draw, in mW (R378). -/
def State.testsDraw (s : State) : Rat := ((s.bst.tests.filter Test.onDriver).map (fun t => driverPower t.num)).sum

/-- DRIVER_DIE_GRANTS (R194, R195, log 192). slice: the self-test slice that wants to run, its power by region and its driver-die
cost in mW. Answers whether the sweep, the neighbour steps and the slice are granted; in which sources they are candidates,
and what SLICE_WH counts, logs 223, 224. -/
def State.grants (s : State) (slice : Option (Keyed Rat × Rat)) : State × Bool × Bool × Bool :=
  let lim : Rat := 9000 * s.thm.factor.getD 65 1
  let barred := s.sal.before.emergency || s.sal.shown.emergency || [64, 65, 66].any s.overTwoSeconds
  let es := List.range 32
  let vendor := es.filter (fun e => !s.isExt e && s.running e)
  let ext := [14, 15, 30, 31].filter (fun e => s.isExt e && s.running e)
  let ess : Rat := (vendor.map (fun e => (((s.itemsOf e).filter (fun it => it.essential)).map s.itemCost).sum)).sum
  let sweepC : Rat := (s.rd SAL_BASK_COST_SWEEP_MW : Rat)
  let neighC : Rat := (s.rd SAL_BASK_COST_NEIGH_MW : Rat)
  let forced := !barred && (s.sal.forceDue || decide (max 1 (s.rd SAL_GRANT_CFG_FORCE) ≤ s.sal.withheld))
  let p1 := (s.rd SAL_DRV_CFG_BASE_MW : Rat) + ess + (if forced then sweepC else 0)
  let high := decide (lim < p1)
  let sweep := forced || (!barred && decide (p1 + sweepC ≤ lim))
  let p2 := if sweep && !forced then p1 + sweepC else p1
  let neigh := !barred && decide (p2 + neighC ≤ lim)
  let p3 := if neigh then p2 + neighC else p2
  let cleared := es.foldl (fun a e => a.wr (NWT_GRANT_ITEMS e) 0) s
  let v0 := cleared.tryEngines lim vendor p3
  let v := (v0.1, v0.2 + s.testsDraw)
  let fits : Bool := match slice with
    | none => false
    | some q => !barred && decide (v.2 + q.2 ≤ lim) && s.sliceFits q.1
  let p5 := match slice with
    | some q => if fits then v.2 + q.2 else v.2
    | none => v.2
  let x := v.1.tryEngines lim ext p5
  let s1 := { x.1 with
    sal := { x.1.sal with
      pdrv := x.2, drvRun := high, forceDue := false
      withheld := if sweep then 0 else x.1.sal.withheld + 1 }
    pix := { x.1.pix with
      stall := if sweep then 0 else x.1.pix.stall + 1
      stallSent := if sweep then false else x.1.pix.stallSent } }
  let s2 := if high ∧ ¬ s.sal.drvRun then s1.send 0x06F 0x04 (shown 24 1 p1) else s1
  let s3 := ((((s2.wr SAL_GRANT_SWEEP (flag sweep)).wr SAL_GRANT_NEIGH (flag neigh)).wr SAL_GRANT_SLICE (flag fits)).wr
    SAL_GRANT_FORCED (flag forced)).wr SAL_DRV_PRED_MW (shown 14 1 x.2)
  let s4 := s3.wr SAL_DRV_LIMIT_MW (shown 14 1 lim)
  let s5 := if slice.isSome ∧ ¬ fits then s4.bump SAL_GRANT_CNT_SLICE_WH else s4
  (upTo 32 s5 (fun a e => a.countDeferred e), sweep, neigh, fits)

/-- SWEEP_FORCED (R194): FORCE steps have been withheld, and the next counts with the essential items. -/
def State.sweepForced (s : State) : State :=
  if max 1 (s.rd SAL_GRANT_CFG_FORCE) ≤ s.sal.withheld then { s with sal := { s.sal with forceDue := true } } else s

/-- The package's limit follows the P_drv of the tick that starts (R184). -/
def State.refreshPackage (s : State) : State :=
  let s1 := { s with sal := { s.sal with lc := s.sal.lc.set 66 (s.packageLimit false) } }
  { s1 with sal := { s1.sal with la := s1.sal.la.set 66 (s1.available 66) } }

/-- What the SAL_ registers show of limits, measured power and spent energy (R204). -/
def State.showBudget (s : State) : State :=
  let s1 := upTo 64 s (fun a n =>
    (a.wr (SAL_RGN_PWR_MEAS n) (shown 16 1000 (limOf s.sal.meas n))).wr (SAL_RGN_BKT_SPENT n) (shown 24 1 (limOf s.sal.spent n)))
  let s2 := upTo 2 s1 (fun a d =>
    ((a.wr (SAL_DIE_LIM_LC d) (shown 16 10000 (limOf s.sal.lc (64 + d)))).wr (SAL_DIE_MEAS_MEAS d)
      (shown 16 10000 (limOf s.sal.meas (64 + d)))).wr (SAL_DIE_BKT_SPENT d) (shown 24 10 (limOf s.sal.spent (64 + d))))
  ((s2.wr SAL_PKG_LIM_LC (shown 16 10000 (limOf s.sal.lc 66))).wr SAL_PKG_MEAS_MEAS
    (shown 16 10000 (limOf s.sal.meas 66))).wr SAL_PKG_BKT_SPENT (shown 24 10 (limOf s.sal.spent 66))

/-- The first broken rule of R192 over the merged rule words: the DETAIL to name; wr is the WRITE mask. -/
def budgetDetail (wr lim cfg tmp : Nat) : Nat :=
  let bad (v : Nat) : Bool := v == 0 || decide (100 < v)
  if (List.range 4).any (fun i => bad (bitsOf lim (8 * i) 8)) then 2
  else if 4 < bitsOf cfg 0 3 then 3
  else if bitsOf cfg 16 8 ≤ bitsOf cfg 8 8 then 3
  else if bitsOf tmp 0 8 < bitsOf cfg 16 8 then (if bitOf wr 1 then 3 else 4)
  else if bitsOf tmp 16 8 ≤ bitsOf tmp 8 8 then 4
  else 0

/-- The shadow rule words (R192, R204). -/
def State.ruleWord (s : State) (k : Nat) : Nat :=
  if k = 0 then s.rd SALSH_RULE_LIM_TILE_PCT + 2 ^ 8 * s.rd SALSH_RULE_LIM_RGN_PCT + 2 ^ 16 * s.rd SALSH_RULE_LIM_DIE_PCT +
    2 ^ 24 * s.rd SALSH_RULE_LIM_PKG_PCT
  else if k = 1 then s.rd SALSH_RULE_CFG_ALLOW + 2 ^ 8 * s.rd SALSH_RULE_CFG_T_START + 2 ^ 16 * s.rd SALSH_RULE_CFG_T_END +
    2 ^ 24 * s.rd SALSH_RULE_CFG_F_END
  else s.rd SALSH_RULE_TEMP_T_CUT + 2 ^ 8 * s.rd SALSH_RULE_TEMP_SINK_START + 2 ^ 16 * s.rd SALSH_RULE_TEMP_SINK_END

def State.putRuleWord (s : State) (k w : Nat) : State :=
  let b (i : Nat) : Nat := bitsOf w (8 * i) 8
  if k = 0 then (((s.wr SALSH_RULE_LIM_TILE_PCT (b 0)).wr SALSH_RULE_LIM_RGN_PCT (b 1)).wr SALSH_RULE_LIM_DIE_PCT (b 2)).wr
    SALSH_RULE_LIM_PKG_PCT (b 3)
  else if k = 1 then (((s.wr SALSH_RULE_CFG_ALLOW (b 0)).wr SALSH_RULE_CFG_T_START (b 1)).wr SALSH_RULE_CFG_T_END (b 2)).wr
    SALSH_RULE_CFG_F_END (b 3)
  else ((s.wr SALSH_RULE_TEMP_T_CUT (b 0)).wr SALSH_RULE_TEMP_SINK_START (b 1)).wr SALSH_RULE_TEMP_SINK_END (b 2)

/-- BUDGET_SET (R192): words 2–4 named by the mask of word 1 merge into the shadows and are checked. -/
def State.doBudgetSet (s : State) (f : Flight) : State :=
  let m := bitsOf (f.arg 1) 0 3
  let w (k : Nat) : Nat := if bitOf m k then f.arg (2 + k) else s.ruleWord k
  let d := budgetDetail m (w 0) (w 1) (w 2)
  if d ≠ 0 then s.endFlight f.id 5 d 0
  else (upTo 3 s (fun a k => if bitOf m k then a.putRuleWord k (w k) else a)).endFlight f.id 0 0 0

end Sys2Proof.Machine
end

