-- ==== Sys2Proof/Machine/SelfTest.lean ====
section
/-! DEFINITION. The sources and kinds of fault messages with their reset severities (R343 and the source tables of every
chapter), and the self-test controller (R373–R387). -/

namespace Sys2Proof.Machine

/-- The kinds the chapters list for a source, each with its reset severity; demands count as S4 (R344). -/
def kindsOf (src : Nat) : List (Nat × Nat) :=
  if src < 0x040 then
    [(1, 1), (2, 1), (3, 1), (4, 2), (5, 2), (6, 1), (7, 3), (8, 3), (0x10, 3), (0x20, 3), (0x21, 4), (0x30, 2), (0x31, 3)]
  else if src < 0x060 then [(1, 3), (2, 3), (3, 3), (4, 3), (5, 3), (6, 3), (7, 3)]
  else if src < 0x068 then [(1, 2), (2, 2), (3, 2)]
  else if src = 0x068 then [(1, 2)]
  else if src = 0x069 then [(1, 4)]
  else if src = 0x06A then [(1, 2)]
  else if src = 0x06B then [(1, 4), (2, 2)]
  else if src = 0x06C then [(1, 2), (2, 3), (3, 3)]
  else if src = 0x06D then [(1, 0), (2, 2), (3, 3), (4, 5), (5, 3), (6, 3), (7, 2), (8, 2), (9, 2), (0x0A, 2)]
  else if src = 0x06E then [(1, 0), (2, 2), (3, 3), (4, 5), (5, 3), (6, 3), (7, 2), (8, 2), (0x0A, 2)]
  else if src = 0x06F then [(1, 3), (2, 2), (3, 4), (4, 3)]
  else if 0x080 ≤ src ∧ src < 0x084 then [(1, 1), (2, 1), (3, 2), (0x30, 2)]
  else if src = 0x088 ∨ src = 0x089 then [(3, 2)]
  else if src = 0x090 then [(1, 4), (2, 2), (3, 1), (4, 0)]
  else if src = 0x091 then [(1, 1), (2, 1), (3, 2)]
  else if src = 0x09E then [(1, 2), (2, 2), (3, 2), (4, 1)]
  else if src = 0x0A0 then [(1, 2), (2, 3), (3, 2), (4, 2)]
  else if 0x0B0 ≤ src ∧ src < 0x0B4 then [(1, 2), (2, 2), (3, 3)]
  else if src = 0x0B4 then [(1, 4)]
  else if src = 0x0C0 ∨ src = 0x0C1 then [(1, 2), (2, 5)]
  else if src = 0x0C2 then [(1, 4), (2, 3), (3, 1)]
  else if src = 0x0C3 ∨ src = 0x0C4 ∨ src = 0x0C5 then [(1, 5), (2, 3)]
  else if src = 0x0C6 ∨ src = 0x0C7 then [(1, 4), (2, 3)]
  else if src = 0x0D0 then [(1, 2)]
  else if src = 0x0D1 then [(1, 2), (2, 4)]
  else if src = 0x0D2 then [(1, 3), (2, 2), (3, 1)]
  else if src = 0x0D3 then [(1, 1), (2, 1)]
  else if src = 0x0D4 then [(1, 4)]
  else if src = 0x0D5 then [(1, 3), (2, 3)]
  else if src = 0x0D6 then [(1, 1), (2, 2)]
  else if src = 0x0D7 then [(1, 4)]
  else if src = 0x0DF then [(1, 4), (2, 5), (3, 2), (4, 5)]
  else if src = 0x0E0 then [(1, 2), (2, 1), (3, 1), (4, 1), (5, 3)]
  else if src = 0x0E1 then [(1, 3)]
  else if src = 0x0E2 then [(1, 2), (2, 4)]
  else if src = 0x0E3 then [(1, 3), (2, 5)]
  else if src = 0x0E4 then [(1, 5), (2, 2)]
  else if src = 0x0E5 then [(1, 1), (2, 3), (3, 2)]
  else if src = 0x0F0 then [(1, 1)]
  else if 0x0F1 ≤ src ∧ src < 0x0FA then [(1, 2), (2, 1)]
  else if src = 0x200 then [(1, 2), (2, 2)]
  else if src = 0x201 then [(1, 2), (2, 0), (3, 2), (0x30, 2)]
  else if 0x208 ≤ src ∧ src < 0x20C then [(1, 2), (2, 3)]
  else if src = 0x3F0 then [(1, 2), (2, 2), (3, 1)]
  else if src = 0x3F1 then [(1, 2)]
  else if src = 0x3FF then [(1, 4), (2, 4)]
  else []

/-- The source is assigned (R343). -/
def assigned (src : Nat) : Bool := !(kindsOf src).isEmpty

/-- A demand of R320: the island carries out its FALLBACK, and its severity is S4 whatever the table says. -/
def isDemand (src kind : Nat) : Bool :=
  (src == 0x0D1 && kind == 2) || (src == 0x0D4 && kind == 1) || (src == 0x0D7 && kind == 1)

/-- The full and the field states of R373. -/
def fullState (l : Nat) : Bool := l == 0 || l == 1 || l == 5
def fieldState (l : Nat) : Bool := l == 3 || l == 4

/-- A test with regions (R373). -/
def regionTest (n : Nat) : Bool := n == 2 || n == 3 || n == 4 || n == 6

/-- A test that runs its regions in groups (R376, R378). -/
def groupTest (n : Nat) : Bool := n == 3 || n == 4 || n == 6

/-- Patterns of one region, and of one slice of one region, for the group tests (R373). -/
def perRegion (n : Nat) : Nat := if n = 3 then 512 else if n = 4 then 8 else 61440
def perSlice (n : Nat) : Nat := if n = 3 then 128 else 2

/-- Length of a slice in SCA cycles: 51.2 µs and 20.0 µs (R373). -/
def sliceCycles (n : Nat) : Nat := if n = 3 then 16384 else 6400

/-- Charged power of a region under a group test, in µW (R373). -/
def regionPower (n : Nat) : Rat := if n = 3 then 200 else if n = 4 then 100 else 600000

/-- The test waits for a grant of its own (R377, R378). -/
def needsGrant (n : Nat) : Bool := n == 1 || n == 2 || n == 7 || groupTest n

/-- The DL lanes that carry no data: spare or absent (R373). -/
def State.loopLanes (s : State) : List Nat :=
  (List.range 4).filter (fun l => !bitOf (s.rd LNK_STAT_DL_ACTIVE) l)

/-- The regions named by a 64-bit mask, in ascending order. -/
def regionsOf (mask : Nat) : List Nat := (List.range 64).filter (fun n => bitOf mask n)

/-- Expected patterns (R373). -/
def State.expectOf (s : State) (num : Nat) (regions : List Nat) : Nat :=
  if num = 1 then 1024 * s.loopLanes.length
  else if num = 2 then 4096 * ((List.range 2).filter (fun d => regions.any (fun n => n / 32 == d))).length
  else if groupTest num then perRegion num * regions.length
  else if num = 5 then 80
  else if num = 7 then 23
  else if num = 8 then (s.flashRecs.filter (fun r => decide (r.number < 128))).length + s.heldRecs.length +
    (32 - s.rcd.buffer.length)
  else 168

/-- The regions of the group now running (R376). -/
def Test.now (t : Test) : List Nat := (t.regions.drop (8 * t.group)).take 8

/-- Patterns of the groups up to the one now running, and of those before it with the slices of it that have run. -/
def Test.groupEnd (t : Test) : Nat := perRegion t.num * (8 * t.group + t.now.length)
def Test.groupFrom (t : Test) : Nat := perRegion t.num * (8 * t.group) + perSlice t.num * (t.begun * t.now.length)

/-- A group runs continuously (R377). -/
def Test.continuous (t : Test) : Bool := groupTest t.num && t.slice.isNone && decide (0 < t.left)

/-- Groups of the test. -/
def Test.groups (t : Test) : Nat := ceilDiv t.regions.length 8

/-- The flash is under test (R381). -/
def State.flashTested (s : State) : Bool := s.bst.tests.any (fun t => t.num == 7)

/-- The recorder is under test (R381). -/
def State.recorderTested (s : State) : Bool := s.bst.tests.any (fun t => t.num == 8)

/-- A test keeps region n under test (R381). -/
def Test.holds (t : Test) (n : Nat) : Bool :=
  if t.num = 2 then t.regions.any (fun m => m / 32 == n / 32) else groupTest t.num && t.now.contains n

/-- Region n is under test (R381): of two tests with groups the older one runs its group (R376). -/
def State.regionTested (s : State) (n : Nat) : Bool :=
  s.bst.tests.any (fun t => t.num == 2 && t.holds n) ||
    (s.bst.tests.find? (fun t => groupTest t.num && decide (t.exec < t.expect))).any (fun t => t.holds n)

/-- SCA cycles of the row that loads now, or of the bask, since the counting began. -/
def State.timeNow (s : State) : Nat :=
  if s.isOn TCK_ROWPOS_BASK then s.tick.time
  else s.tick.time + 320 * s.rd TCK_ACTIVE_BASK_US + s.rd TCK_ROWTIME_ROW_CYC * s.rd TCK_ROWPOS_ROW

/-- A lane is under LANE_LOOP: the one that is looped now, lanes one at a time, 2.0 ms each (R373, R381). -/
def State.laneTested (s : State) (l : Nat) : Bool :=
  s.bst.tests.any (fun t => t.num == 1 && t.started && t.regions[(s.timeNow - t.since) / 640000]? == some l)

/-- Regions a continuous test keeps out of steps 2–5 of the bask (R164), with the one granted at this boundary. -/
def State.skipRegions (s : State) (granted : Option Test) : List Nat :=
  s.bst.tests.flatMap (fun t =>
    if t.continuous || (some t == granted && groupTest t.num && t.slice.isNone) then t.now else [])

/-- Tests are sliced in the field states and outside source DARK (R377). -/
def State.slices (s : State) : Bool := fieldState s.life.state || s.source != 2

/-- The regions a test with this mask tests: PIXBUS_LOOP those of every die with a target region (R373). -/
def testTargets (num mask : Nat) : List Nat :=
  let rs := regionsOf mask
  if num = 2 then (List.range 64).filter (fun n => rs.any (fun m => m / 32 == n / 32)) else rs

/-- Why a test is refused: status and DETAIL (R374). byReg: a start through BST_START. -/
def State.testRefusal (s : State) (num mask : Nat) (byReg : Bool) : Option (Nat × Nat) :=
  let l := s.life.state
  if num = 0 ∨ 9 < num then some (5, 1)
  else if regionTest num = decide (mask % 2 ^ 64 = 0) then some (5, 2)
  else if num = 1 ∧ s.loopLanes = [] then some (5, 1)
  else if ¬ (fullState l ∨ (fieldState l ∧ num ≠ 2 ∧ num ≠ 6)) then some (4, 0)
  else if (num = 2 ∨ num = 6) ∧ ¬ (s.source = 2 ∧ s.rd SFT_MODE_MODE ≤ 1) then some (4, 0)
  else if (num = 3 ∨ num = 4) ∧ s.slices ∧ s.baskWindowEnd < 80 * 320 + sliceCycles num then some (4, 0)
  else if ¬ byReg ∧ s.bst.tests.any (fun t => t.desc.isNone &&
      (if regionTest num then (testTargets num mask).any t.holds else (num == 1 || num == 7 || num == 8) && t.num == num)) then
    some (2, 0)
  else none

/-- Starting a test clears the result registers (R394). -/
def State.clearResults (s : State) : State :=
  let s1 := ((((s.wr BST_RESULT_PASS 0).wr BST_RESULT_COMPLETE 0).wr BST_RESULT_ABORTED 0).wr BST_RESULT_DEFERRED 0).wr
    BST_RESULT_FAILS 0
  let s2 := (((s1.wr BST_SIG_CRC 0).wr BST_FIRSTFAIL_INDEX 0).wr BST_FIRSTFAIL_VALID 0).wr BST_EXEC_COUNT 0
  upTo 64 s2 (fun a i => (a.wr (BST_FAIL_IDX_INDEX i) 0).wr (BST_FAIL_VAL_VALUE i) 0)

def State.setTests (s : State) (l : List Test) : State := { s with bst := { s.bst with tests := l } }

/-- Test t is replaced by x. -/
def State.putTest (s : State) (t x : Test) : State := s.setTests (s.bst.tests.map (fun u => if u = t then x else u))

/-- BST_STAT and the counts follow the test they belong to. -/
def State.showTest (s : State) (t : Test) : State :=
  if ¬ t.shown then s
  else ((s.wr BST_EXEC_COUNT (min (2 ^ 32 - 1) t.exec)).wr BST_STAT_GROUP (min 255 t.group)).wrCount BST_STAT_WAIT t.wait

/-- The sources FAULT_PATH tests, in the order of its patterns (R373). -/
def pathSources : List Nat := (List.range 0x3FF).filter assigned

/-- Every assigned source sends PATH_TEST (R386). -/
def State.sendPaths (s : State) : State :=
  pathSources.foldl (fun a src => a.sendMsg (a.msgOf src 0x3F 0 true)) s

/-- A test is accepted (R374, R375). -/
def State.startTest (s : State) (num mask deadline : Nat) (desc : Option Nat) : State :=
  let rs := if regionTest num then regionsOf mask else if num = 1 then s.loopLanes else []
  let t : Test := {
    num := num, desc := desc, regions := rs, deadline := max 1 deadline
    slice := if (num = 3 ∨ num = 4) ∧ s.slices then some 0 else none
    started := !needsGrant num
    since := s.tick.time
    expect := s.expectOf num rs }
  let s1 := s.clearResults.setTests (s.bst.tests.map (fun u => { u with shown := false }) ++ [t])
  let s2 := (((s1.wr BST_STAT_RUNNING 1).wr BST_STAT_ORIGIN (flag desc.isNone)).wr BST_STAT_TEST num).wr BST_RESULT_TEST num
  let s3 := (s2.wr BST_EXPECT_COUNT t.expect).showTest t
  if num = 9 then s3.sendPaths else s3

/-- A write refused: REFUSED_WR and its offset (R375, R381). -/
def State.refusedWrite (s : State) (off : Nat) : State := (s.wr BST_STAT_REFUSED_WR 1).wr BST_REFUSED_ADDR_OFFSET off

/-- BST_START.GO (R375). -/
def State.bstGo (s : State) (num : Nat) : State :=
  let s1 := s.wr BST_START_TEST num
  let mask := s.rd BST_RGN_LO_REGIONS + 2 ^ 32 * s.rd BST_RGN_HI_REGIONS
  if ¬ fullState s.life.state ∨ s.bst.tests ≠ [] ∨ (s.testRefusal num mask true).isSome then s1.refusedWrite BST_START_GO.off
  else s1.startTest num mask (s.rd BST_DEADLINE_TICKS) none

/-- The result word of pattern i (R382). -/
def resultWord (i : Nat) (failed : Bool) : List Nat := leBytes 4 (i % 2 ^ 24 + 2 ^ 24 * flag failed)

/-- The limit in percent on the deviation of pattern i where R373 names one: linearity of full scale; by R223 the bandgap and
then the neighbour in each range. -/
def limitOf (num i : Nat) : Option Rat :=
  if num = 3 then some (1 / 2) else if num = 4 then some (if i % 2 = 0 then 3 else 2) else none

/-- The value v measured for pattern i is outside the limit of R373 (R382): a bit in error, a CRC that does not hold, a
deviation past its limit, or what the test checks without a limit of the spec's. FAULT_PATH measures nothing. -/
def outside (num i v : Nat) : Bool :=
  if num = 1 ∨ num = 7 ∨ num = 8 then v != 0
  else if num = 9 then false
  else
    match limitOf num i with
    | none => Config.beyond num i v
    | some l => decide (l < Config.deviation num i v) || decide (Config.deviation num i v < -l)

/-- Of the values measured, by pattern, those outside their limits. -/
def outsideOf (num : Nat) (l : List (Nat × Nat)) : List (Nat × Nat) := l.filter (fun p => outside num p.1 p.2)

/-- n further patterns are folded into the signature; fails lists those outside their limit, with the value measured
(R382, R383). -/
def State.foldPatterns (s : State) (t : Test) (n : Nat) (fails : List (Nat × Nat)) : State × Test :=
  (List.range n).foldl (fun a k =>
    let i := t.exec + k
    match fails.find? (fun p => p.1 == i) with
    | none => (a.1, { a.2 with exec := i + 1, crc := Algo.feedAll .crc32c a.2.crc (resultWord i false) })
    | some p =>
      let x := { a.2 with exec := i + 1, crc := Algo.feedAll .crc32c a.2.crc (resultWord i true), fails := a.2.fails + 1
                          first := some (a.2.first.getD i) }
      if t.shown then
        let s1 := if a.2.fails < 64 then (a.1.wr (BST_FAIL_IDX_INDEX a.2.fails) i).wr (BST_FAIL_VAL_VALUE a.2.fails) p.2 else a.1
        let s2 := s1.wrCount BST_RESULT_FAILS x.fails
        (if a.2.first.isNone then (s2.wr BST_FIRSTFAIL_INDEX i).wr BST_FIRSTFAIL_VALID 1 else s2, x)
      else (a.1, x)) (s, t)

/-- The signature (R383). -/
def Test.signature (t : Test) (complete : Bool) : Nat :=
  Algo.final .crc32c (Algo.feedAll .crc32c t.crc
    (leBytes 4 t.exec ++ [flag complete + 2 * flag (decide (0 < t.fails)), 0, 0, 0]))

/-- The test leaves the controller. -/
def State.dropTest (s : State) (t : Test) : State :=
  let l := s.bst.tests.filter (fun u => u != t)
  let s1 := s.setTests l
  if l = [] then s1.wr BST_STAT_RUNNING 0 else s1

/-- The completion of the BIST_RUN the test belongs to. -/
def State.endDesc (s : State) (t : Test) (status detail result : Nat) : State :=
  match t.desc with
  | none => s
  | some id => s.complete id status detail result

/-- The test ran to its end (R384). -/
def State.testComplete (s : State) (t : Test) : State :=
  let sig := t.signature true
  let pass := decide (t.exec = t.expect) && t.fails == 0
  let s1 :=
    if t.shown then
      ((s.wr BST_RESULT_PASS (flag pass)).wr BST_RESULT_COMPLETE 1).wr BST_SIG_CRC sig
    else s
  let s2 := match t.first with
    | none => s1
    | some i => s1.send (0x0F0 + t.num) 0x01 i
  (s2.dropTest t).endDesc t 0 (flag pass + 2) sig

/-- The most patterns a running test may have executed since the last boundary, short of its end: of SENSOR_REF 2, of the
others what its step still has. Sliced tests and FAULT_PATH fold theirs when they are executed. -/
def Test.sinceBoundary (t : Test) : Nat :=
  let most := t.expect - 1 - t.exec
  if groupTest t.num then (if t.continuous then min most (t.groupEnd - t.exec) else 0)
  else if t.num = 9 ∨ ¬ t.started then 0
  else if t.num = 5 then min most 2
  else most

/-- The patterns executed since the last boundary are folded: how many there are, which failed and with what value is open. -/
def State.foldOpen (s : State) (t : Test) : State × Test :=
  if t.sinceBoundary = 0 then (s, t)
  else
    let a := s.free
    let b := a.2.free
    let n := a.1 % (t.sinceBoundary + 1)
    b.2.foldPatterns t n (outsideOf t.num
      (((List.range n).filter (fun k => bitOf b.1 k)).map (fun k => (t.exec + k, b.1 / 2 ^ n % 2 ^ 32))))

/-- The test is cut short: why 0 ABORT, 1 mode or source, 2 ring disabled, 3 LINK_DOWN (R384, R385, R387). -/
def State.cutTest (s : State) (t : Test) (why : Nat) : State :=
  let r := s.foldOpen t
  let sig := r.2.signature false
  let s0 := (r.1.putTest t r.2).showTest r.2
  let s1 := if t.shown then (s0.wr BST_RESULT_ABORTED 1).wr BST_SIG_CRC sig else s0
  ((s1.send (0x0F0 + t.num) 0x02 why).dropTest r.2).endDesc t 8 0 sig

/-- Every test that p names is cut short. A test whose last pattern has been folded stays COMPLETE (R385). -/
def State.cutShort (s : State) (why : Nat) (p : Test → Bool) : State :=
  (s.bst.tests.filter (fun t => p t && decide (t.exec < t.expect))).foldl (fun a t => a.cutTest t why) s

/-- The test stops at its DEADLINE (R377, R384): its partial result is discarded. -/
def State.deferTest (s : State) (t : Test) : State :=
  let s1 := if t.shown then (s.clearResults.wr BST_RESULT_DEFERRED 1) else s
  ((s1.send 0x0F0 0x01 t.num).dropTest t).endDesc t 9 0 0

/-- BST_CTL.ABORT (R385). -/
def State.bstAbort (s : State) : State := s.cutShort 0 (fun _ => true)

/-- FLASH_VERIFY waits while a record is programmed or a health save runs (R379). -/
def State.flashBusy (s : State) : Bool := s.rcd.prog.isSome || s.pix.saving.isSome

/-- The last step of a test without groups is at work (R373): the last lane, 2.0 ms each, the last die, 4.0 ms each. SENSOR_REF
takes one sensor in a tick, and the last has been taken when the boundary has counted all; FLASH_VERIFY may wait (R379). -/
def State.lastStep (s : State) (t : Test) : Bool :=
  if t.num = 1 then decide (640000 * (t.expect / 1024 - 1) ≤ s.timeNow - t.since)
  else if t.num = 2 then decide (1280000 * (t.expect / 4096 - 1) ≤ s.timeNow - t.since)
  else t.num != 5 && !(t.num == 7 && s.flashBusy)

/-- The last step of the test is at work or has ended (R379, R384). -/
def State.atEnd (s : State) (t : Test) : Bool :=
  decide (t.expect ≤ t.exec) ||
  (if groupTest t.num then t.continuous && t.left == 1 && decide (t.groups ≤ t.group + 1)
   else t.started && s.lastStep t)

/-- n patterns of test t are executed. measured lists what they give, where it is not what the test expects; bad lists the
items FLASH_VERIFY finds bad by their own check, with a measured value the spec does not give (R373, R382). -/
def State.runPatterns (s : State) (t : Test) (n : Nat) (measured : List (Nat × Nat)) (bad : List Nat) : State × Test :=
  if n = 0 then (s, t)
  else if bad = [] then s.foldPatterns t n (outsideOf t.num measured)
  else
    let v := s.free
    v.2.foldPatterns t n (outsideOf t.num measured ++ bad.map (fun i => (i, v.1 % 2 ^ 32)))

/-- What test t fails on by the state: FLASH_VERIFY the bad items, FAULT_PATH every message that has not arrived (R382).
Every record RECORDER_VERIFY reads is one with a valid mark whose CRC holds: a slot without is torn and no record. -/
def Test.badNow (t : Test) (items : List Nat) : List Nat :=
  if t.num = 7 then items else if t.num = 9 then (List.range (t.expect - t.exec)).map (fun k => t.exec + k) else []

/-- BIST_TEST_END: the oldest test whose last step has run ends with what the patterns not yet folded have measured. -/
def State.testEnd (s : State) (measured : List (Nat × Nat)) (items : List Nat) : State :=
  match s.bst.tests.find? s.atEnd with
  | none => s
  | some t =>
    let r := s.runPatterns t (t.expect - t.exec) measured (t.badNow items)
    let s1 := (r.1.putTest t r.2).showTest r.2
    s1.testComplete r.2

/-- A PATH_TEST message of source src has arrived (R382, R386): its pattern passes, and those before it whose messages have
not arrived fail. -/
def State.pathArrived (s : State) (src : Nat) : State :=
  match s.bst.tests.find? (fun t => t.num == 9) with
  | none => s
  | some t =>
    let i := pathSources.idxOf src
    if i < t.exec ∨ t.expect ≤ i then s
    else
      let r := s.runPatterns t (i + 1 - t.exec) [] ((List.range (i - t.exec)).map (fun k => t.exec + k))
      (r.1.putTest t r.2).showTest r.2

/-- A group that does not run at the moment goes on as this tick's source and the life-cycle state ask, sliced or
continuous (R377). -/
def State.testModes (s : State) : State :=
  s.setTests (s.bst.tests.map (fun t =>
    if (t.num = 3 ∨ t.num = 4) ∧ t.left = 0 then { t with slice := if s.slices then some t.begun else none } else t))

/-- The candidate of order 5 at this boundary (R194, R377, R378): the oldest test that waits for a grant. No slice starts
while the source is SKINK or DARK (R380), and no group while another runs continuously (R376). -/
def State.sliceTest (s : State) : Option Test :=
  s.bst.tests.find? (fun t =>
    if groupTest t.num then
      decide (t.group < t.groups) && !s.bst.tests.any Test.continuous &&
      match t.slice with
      | some _ => s.source == 0
      | none => t.left == 0
    else needsGrant t.num && !t.started)

/-- The power the candidate asks for, by region in µW, and of the driver die in mW. -/
def Test.power (t : Test) : Keyed Rat × Rat :=
  if groupTest t.num then (t.now.map (fun n => (n, regionPower t.num)), 0) else ([], driverPower t.num)

/-- Boundaries a continuous group runs for: 96 ms for ARRAY_DRIVE, one tick for the others (R373, R377). -/
def State.groupTicks (s : State) (num : Nat) : Nat := if num = 6 then ceilDiv 96000 (max 1 s.period) else 1

/-- The group is over. -/
def Test.nextGroup (t : Test) : Test :=
  { t with group := t.group + 1, slice := t.slice.map (fun _ => 0), left := 0, begun := 0 }

/-- Patterns a test has executed at a boundary, beside the group tests (R373): 2.0 ms a lane, 4.0 ms a die, one sensor in a
tick. How far FLASH_VERIFY and RECORDER_VERIFY have come is open; FLASH_VERIFY waits under R379. -/
def State.doneBy (s : State) (t : Test) : State × Nat :=
  let cyc := s.tick.time - t.since
  let some' (a : State) : State × Nat :=
    let v := a.free
    (v.2, t.exec + v.1 % (t.expect - t.exec + 1))
  if t.num = 1 then (s, min t.expect (1024 * cyc / 640000))
  else if t.num = 2 then (s, min t.expect (4096 * cyc / 1280000))
  else if t.num = 5 then (s, min t.expect (t.exec + 2))
  else if t.num = 9 ∨ t.expect ≤ t.exec ∨ (t.num = 7 ∧ s.flashBusy) then (s, t.exec)
  else some' s

/-- A boundary ends a tick of every test that runs; what it has executed is folded, a continuous group whole when its last
tick ends (R377, R383). -/
def State.testTick (s : State) (measured : List (Nat × Nat)) (items : List Nat) : State :=
  s.bst.tests.foldl (fun a t =>
    if t.continuous then
      if t.left = 1 then
        let r := a.runPatterns t (t.groupEnd - t.exec) measured []
        (r.1.putTest t r.2.nextGroup).showTest r.2.nextGroup
      else
        let part := t.groupFrom + (t.groupEnd - t.groupFrom) * (a.tick.time - t.since) / 30720000
        let r := a.runPatterns t (min t.groupEnd part - t.exec) measured []
        let x := { r.2 with left := t.left - 1 }
        (r.1.putTest t x).showTest x
    else if groupTest t.num ∨ ¬ t.started then a
    else
      let d := a.doneBy t
      let r := d.1.runPatterns t (d.2 - t.exec) measured (t.badNow items)
      (r.1.putTest t r.2).showTest r.2) s

/-- What the grant of this boundary does for the candidate (R377): ran says the slice also fitted into the bask. Withheld
boundaries count to DEADLINE. -/
def State.sliceRun (s : State) (cand : Option Test) (ran : Bool) (measured : List (Nat × Nat)) : State :=
  let waiting := s.bst.tests.filter (fun t =>
    !(some t == cand && ran) && needsGrant t.num &&
    (if groupTest t.num then decide (t.group < t.groups) && (t.slice.isSome || t.left == 0) else !t.started))
  let s1 := match cand with
    | none => s
    | some t =>
      if ¬ ran then s
      else if groupTest t.num then
        match t.slice with
        | none =>
          let x := { t with left := s.groupTicks t.num, wait := 0, since := s.tick.time }
          (s.putTest t x).showTest x
        | some k =>
          let r := s.runPatterns t (perSlice t.num * t.now.length) measured []
          let y := { r.2 with wait := 0, slice := some (k + 1), begun := k + 1 }
          let x := if 4 ≤ k + 1 then y.nextGroup else y
          (r.1.putTest t x).showTest x
      else
        let x := { t with started := true, wait := 0, since := s.tick.time }
        (s.putTest t x).showTest x
  waiting.foldl (fun a t =>
    let x := { t with wait := t.wait + 1 }
    let a1 := (a.putTest t x).showTest x
    if x.deadline ≤ x.wait then a1.deferTest x else a1) s1

end Sys2Proof.Machine
end

