-- ==== Sys2Proof/Machine/Island.lean ====
section
/-! DEFINITION. The safety island (R300–R336): safety modes, Skink health, dual inputs, twin path, fingerprint, RESUME,
the Skink image, life cycle and commissioning sessions. -/

namespace Sys2Proof.Machine

/-- Flags as a number, the first in bit 0. -/
def ofBits : List Bool → Nat
  | [] => 0
  | b :: t => flag b + 2 * ofBits t

/-- SFT_SK_HEALTH and SFT_MODE.SK_HEALTHY show it. -/
def State.showHealth (s : State) : State :=
  (s.wr SFT_SK_HEALTH_FAIL (ofBits s.skinkFails)).wr SFT_MODE_SK_HEALTHY (flag s.healthy)

/-- The mode (R300). -/
def State.mode (s : State) : Nat := s.rd SFT_MODE_MODE

/-- The mode without a lock-out: NORMAL, or DEGRADED where a feature is off (R301). -/
def State.featureMode (s : State) : Nat := if s.rd SFT_FEAT_FEAT_OFF = 0 then 0 else 1

/-- CAUSE_REC is set, now or when the record of the cause is made (R313). -/
def State.noteCause (s : State) (r : CauseRef) : State :=
  match r with
  | .msg id => (s.setSft { s.sft with causeMsg := some id, readAt := none }).wr SFT_LOCK_STAT_READ_OK 0
  | .record n => ((s.setSft { s.sft with causeMsg := none, readAt := none }).wr SFT_LOCK_STAT_READ_OK 0).wr SFT_LOCK_CAUSE_REC n

/-- Self-tests that a FALLBACK or DARK mode cuts short (R380). -/
def State.modeCuts (s : State) : State :=
  s.cutShort 1 (fun t => t.num == 2 || t.num == 6 || fieldState s.life.state)

/-- The mode becomes FALLBACK (R301, R417). -/
def State.enterFallback (s : State) (r : CauseRef) : State :=
  ((((s.wr SFT_MODE_MODE 2).noteCause r).wr LCS_BOOT_HW_RUN 0).wr LCS_BOOT_FIRST_LIGHT 0).modeCuts

/-- The mode becomes DARK: BLANK command, LIMP_N low (R301). -/
def State.enterDark (s : State) (r : CauseRef) : State :=
  let s1 := ((((s.wr SFT_MODE_MODE 3).wr SFT_MODE_LIMP 1).noteCause r).wr LCS_BOOT_HW_RUN 0).wr LCS_BOOT_FIRST_LIGHT 0
  ({ s1.sendBlank with sft := { s1.sft with limpHigh := false } }).modeCuts

/-- A fallback cause, or a dark cause, is acted on (R301). -/
def State.act (s : State) (dark : Bool) (r : CauseRef) : State :=
  let s1 := s.showHealth
  if s1.mode = 3 then s1
  else if dark ∨ ¬ s1.healthy then s1.enterDark r
  else if s1.mode = 2 then s1
  else s1.enterFallback r

/-- A cause is seen; before start-up ends it is collected (R407). -/
def State.cause (s : State) (dark : Bool) (r : CauseRef) : State :=
  if s.isOn LCS_BOOT_ENDED then s.act dark r
  else s.setSft { s.sft with collected := s.sft.collected ++ [(dark, r)] }

/-- Health is looked at again; in FALLBACK an unhealthy path is a dark cause (R301, R304). -/
def State.healthWatch (s : State) (r : CauseRef) : State :=
  let s1 := s.showHealth
  if s1.isOn LCS_BOOT_ENDED ∧ s1.mode = 2 ∧ ¬ s1.healthy then s1.enterDark r else s1

/-- Health is looked at after a command that can change it; a failing condition's own message is the cause (R313), and a
path that no message turned unhealthy has none. -/
def State.watched (s : State) : State :=
  let s1 := s.healthWatch s.sft.failRef
  if s1.healthy then s1.setSft { s1.sft with failRef := noRecord } else s1

/-- Start-up ends: every cause collected is acted on (R407). -/
def State.endStartup (s : State) : State :=
  if s.isOn LCS_BOOT_ENDED then s
  else
    let s1 := (s.wr LCS_BOOT_ENDED 1).setSft { s.sft with collected := [] }
    (s.sft.collected.foldl (fun a c => a.act c.1 c.2) s1).healthWatch s.sft.failRef

/-- A demand of R320: the island carries out FALLBACK itself and the message follows. -/
def State.demand (s : State) (source kind addr : Nat) : State :=
  let m := { s.msgOf source kind addr false with acted := true }
  (s.sendMsg m).cause false (.msg m.id)

/-- The record of message id was made, or none was (R313). -/
def State.causeRecorded (s : State) (id : Nat) (rec' : Option Nat) : State :=
  let n := rec'.getD 0xFFFFFFFF
  let s1 := s.setSft { s.sft with
    collected := s.sft.collected.map (fun c => if c.2 = .msg id then (c.1, .record n) else c) }
  if s1.sft.causeMsg = some id then (s1.setSft { s1.sft with causeMsg := none }).wr SFT_LOCK_CAUSE_REC n else s1

/-- PERMIT (R319); GFHB as sampled at the last boundary (R302). -/
def State.permitNow (s : State) : Bool :=
  s.isOn SFT_INPUTS_HBP && !s.isOn SFT_INPUTS_HBP_LATCH && (s.isOn SFT_TWIN_STAT_PERMIT || !s.isOn SFT_TWIN_CFG_EN) &&
    !bitOf (s.smp SFT_FEAT_FEAT_OFF) 3

def State.showPermit (s : State) : State := s.wr SFT_INPUTS_PERMIT (flag s.permitNow)

/-- SFT_FEAT_WRITE (R301, R302): NORMAL and DEGRADED follow the bits at once; the features are switched by the bits as
sampled at the next boundary. -/
def State.featWrite (s : State) (v : Nat) : State :=
  let s1 := s.wr SFT_FEAT_FEAT_OFF v
  if s1.mode ≤ 1 then s1.wr SFT_MODE_MODE s1.featureMode else s1

/-- T of R318. -/
def State.discTime (s : State) : Nat := heldN 4 200 (s.rd SFT_DISC_CFG_T_MS)

/-- One input's counts after a sample of its pair (R318). -/
def DualIn.sample (x : DualIn) (a b : Bool) : DualIn :=
  { count := if a == b then min 255 (x.count + 1) else 0, calm := if !a && b then min 255 (x.calm + 1) else 0 }

/-- DUAL_INPUT_SAMPLE: the four pins, as SFT_INPUTS.PINS (R317). LBF_DEMAND is sent once in a run of LBF reading asserted,
and again where a lock-out ends within the run. -/
def State.inputSample (s : State) (pins : Nat) : State :=
  let p (i : Nat) : Bool := bitOf pins i
  let s1 := s.setSft { s.sft with ms := s.sft.ms + 1, hbp := s.sft.hbp.sample (p 0) (p 1), lbf := s.sft.lbf.sample (p 2) (p 3) }
  let hbp := p 0 && !p 1 && !s.isOn SFT_INPUTS_HBP_LATCH
  let lbf := !(!p 2 && p 3) || s.isOn SFT_INPUTS_LBF_LATCH
  let s2 := (((s1.wr SFT_INPUTS_PINS pins).wr SFT_INPUTS_HBP (flag hbp)).wr SFT_INPUTS_LBF (flag lbf)).showPermit
  let s3 := s2.wr SFT_LOCK_STAT_READ_OK (match s2.sft.readAt with
    | none => 0
    | some t => flag (decide (s2.sft.ms ≤ t + 500)))
  if lbf then
    if s3.sft.lbfSent ∧ (2 ≤ s3.mode ∨ ¬ s3.isOn LCS_BOOT_ENDED) then s3 else (s3.setSft { s3.sft with lbfSent := true }).demand 0x0D1 0x02 0
  else s3.setSft { s3.sft with lbfSent := false }

/-- DISCREPANCY of HBP (input 0) or LBF (input 1) (R318). -/
def State.discrepancy (s : State) (i : Nat) : State :=
  let x := if i = 0 then s.sft.hbp else s.sft.lbf
  let latch := if i = 0 then SFT_INPUTS_HBP_LATCH else SFT_INPUTS_LBF_LATCH
  if x.count < s.discTime ∨ s.isOn latch then s
  else
    let s1 := (s.wr latch 1).send (0x0D0 + i) 0x01 (bitsOf (s.rd SFT_INPUTS_PINS) (2 * i) 2)
    (if i = 0 then s1.wr SFT_INPUTS_HBP 0 else s1.wr SFT_INPUTS_LBF 1).showPermit

/-- INPUT_REARM (R318). -/
def State.inputRearm (s : State) (i : Nat) : State :=
  let x := if i = 0 then s.sft.hbp else s.sft.lbf
  let latch := if i = 0 then SFT_INPUTS_HBP_LATCH else SFT_INPUTS_LBF_LATCH
  if x.calm < s.discTime ∨ ¬ s.isOn latch then s else (s.wr latch 0).showPermit

/-! ### Twin path (R321–R324) -/

/-- The boxes of a block (R283), as Gecko draws them: class 15, no motion (R107). -/
def SafeBlock.boxes (b : SafeBlock) : List ObjRec :=
  (List.range (byteAt b.bytes 3 % 32)).map (fun i =>
    { cls := 15, noMotion := true, h := intAt b.bytes (8 + 8 * i) 2, v := intAt b.bytes (10 + 8 * i) 2,
      hw := intAt b.bytes (12 + 8 * i) 2, hh := intAt b.bytes (14 + 8 * i) 2 })

/-- The block's bytes break the layout of R283. -/
def badBlock (bs : List Nat) : Bool :=
  let n := byteAt bs 3 % 32
  decide (bs.length ≠ 12 + 8 * n) || decide (16 < n) || decide (4 ≤ byteAt bs 2) || decide (32 ≤ byteAt bs 3) ||
    decide (16 ≤ numAt bs 4 4) || numAt bs (8 + 8 * n) 4 != crc32c (bs.take (8 + 8 * n)) ||
    (SafeBlock.boxes ⟨0, 0, bs⟩).any objBad'
where
  objBad' (o : ObjRec) : Bool := decide (o.hw < 0 ∨ 4096 < o.hw ∨ o.hh < 0 ∨ 4096 < o.hh)

/-- The block on carrier c: 0 link, 1 CAN. -/
def State.carrier (s : State) (c : Nat) : Option SafeBlock := if c = 0 then s.sft.link else s.sft.can

/-- A SEQ is newer (R321). -/
def newerSeq (new old : Nat) : Bool :=
  let d := (new + 65536 - old) % 65536
  decide (1 ≤ d) && decide (d ≤ 32767)

/-- A safety command block arrives complete on carrier c (R283, R321); a FALLBACK bit in any valid block acts at once
(R323). -/
def State.takeBlock (s : State) (c : Nat) (bs : List Nat) : State :=
  let seq := numAt bs 0 2
  if badBlock bs then if c = 0 then s.send 0x091 0x03 seq else s.send 0x0A0 0x04 (seq % 256)
  else if ¬ bitOf (byteAt bs 4) s.ownIdx ∨ ¬ s.isOn SFT_TWIN_CFG_EN then s
  else
    let s1 := if bitOf (byteAt bs 2) 1 then s.demand 0x0D4 0x01 (2 ^ c) else s
    if (s1.carrier c).any (fun o => !newerSeq seq o.seq) then
      ((s1.setSft { s1.sft with replays := min 65535 (s1.sft.replays + 1) }).bump
        (if Config.replayInMissing then SFT_TWIN_CNT_MISSING else SFT_TWIN_CNT_MISMATCH)).send 0x0D2 0x03 c
    else
      let b : SafeBlock := ⟨seq, s1.tick.count, bs⟩
      if c = 0 then (s1.setSft { s1.sft with link := some b }).wr SFT_TWIN_SEQ_LINK_SEQ seq
      else (s1.setSft { s1.sft with can := some b }).wr SFT_TWIN_SEQ_CAN_SEQ seq

/-- The carrier is stale at boundary k (R321); while the controller is bus-off the CAN copy is missing (R324). -/
def State.stale (s : State) (c k : Nat) : Bool :=
  (c == 1 && s.rd CAN_STAT_STATE == 2) ||
  match s.carrier c with
  | none => true
  | some b => decide (max 2 (s.rd SFT_TWIN_CFG_STALE) < k - b.at')

/-- The twin path's state at boundary k (R322): 0 AGREE, 1 WAIT, 2 MISMATCH, 3 MISSING. -/
def State.twinState (s : State) (k : Nat) : Nat :=
  if s.stale 0 k ∨ s.stale 1 k then 3
  else
    match s.carrier 0, s.carrier 1 with
    | some l, some c =>
      if l.seq = c.seq then (if l.bytes = c.bytes then 0 else 2)
      else
        let a := if newerSeq l.seq c.seq then l.at' else c.at'
        if k < a + heldN 1 8 (s.rd SFT_TWIN_CFG_WINDOW) then 1 else 3
    | _, _ => 3

/-- The copy of carrier c is missing or stale at a boundary k in MISSING (R324): stale, or the older of two SEQs whose
window has passed. -/
def State.copyMissing (s : State) (c k : Nat) : Bool :=
  s.stale c k || !s.stale (1 - c) k &&
    match s.carrier c, s.carrier (1 - c) with
    | some x, some y => newerSeq y.seq x.seq
    | _, _ => false

/-- TWIN_PATH_EVALUATION at boundary k (R322–R324). -/
def State.twinEvaluate (s : State) (k : Nat) : State :=
  if ¬ s.isOn SFT_TWIN_CFG_EN then { s with gko := { s.gko with twin := [] } }
  else
    let st := s.twinState k
    let live (c : Nat) : List SafeBlock := if s.stale c k then [] else (s.carrier c).toList
    let permit := (List.range 2).all (fun c => (live c).any (fun b => bitOf (byteAt b.bytes 2) 0))
    let boxes := if st = 0 then (live 0).flatMap SafeBlock.boxes else ((live 0 ++ live 1).flatMap SafeBlock.boxes).take 32
    let s1 := ((((s.wr SFT_TWIN_STAT_STATE st).wr SFT_TWIN_STAT_LINK_STALE (flag (s.stale 0 k))).wr
      SFT_TWIN_STAT_CAN_STALE (flag (s.stale 1 k))).wr SFT_TWIN_STAT_PERMIT (flag permit))
    let s2 := { s1 with gko := { s1.gko with twin := boxes, twinAt := s1.tick.time } }
    let s3 := if st = 2 then (s2.bump SFT_TWIN_STAT_MISM_CNT).bump SFT_TWIN_CNT_MISMATCH
      else (s2.wr SFT_TWIN_STAT_MISM_CNT 0).setSft { s2.sft with mismSent := false }
    let s4 := if st = 3 then s3.bump SFT_TWIN_CNT_MISSING else s3
    let s5 := if st = 3 ∧ ¬ s4.sft.missRun then s4.send 0x0D2 0x02 (flag (s.copyMissing 0 k) + 2 * flag (s.copyMissing 1 k)) else s4
    (s5.setSft { s5.sft with missRun := st == 3 }).showPermit

/-- TWIN_MISMATCH (R324). -/
def State.twinMismatch (s : State) : State :=
  if max 1 (s.rd SFT_TWIN_CFG_PERSIST) ≤ s.rd SFT_TWIN_STAT_MISM_CNT ∧ ¬ s.sft.mismSent then
    (s.setSft { s.sft with mismSent := true }).send 0x0D2 0x01 (s.rd SFT_TWIN_SEQ_LINK_SEQ)
  else s

/-! ### Fingerprint (R325, R326) -/

/-- The severity the table shows for a source: where its kinds differ and nothing is written, the highest (R345). -/
def sevShown (sev : Cells) (src : Nat) : Nat :=
  if src = 0x3FF then 4
  else
    match Cells.find sev src with
    | some v => v - 1
    | none => (kindsOf src).foldl (fun a k => max a k.2) 0

/-- The configuration fingerprint (R325). -/
def State.fingerprint (s : State) : Nat :=
  let sev := crc32c ((List.range 1024).map (sevShown s.flt.sevNow))
  crc32c (leBytes 4 (if s.isOn GKO_ENV_CTL_LOADED then s.rd GKO_ENV_CRC_CRC else 0) ++
    leBytes 4 (if s.isOn SFT_SK_STAT_VALID then s.rd SFT_SK_ID_ID else 0) ++
    leBytes 4 (s.word SAL_RULE_LIM_TILE_PCT.off) ++ leBytes 4 (s.word SAL_RULE_CFG_ALLOW.off) ++
    leBytes 4 (s.word SAL_RULE_TEMP_T_CUT.off) ++ leBytes 4 sev ++ leBytes 4 (s.rd SFT_COMM_EPOCH_EPOCH) ++
    leBytes 4 s.life.state)

/-- FINGERPRINT_COMPUTE at a boundary (R325, R326). -/
def State.fingerprints (s : State) : State :=
  let s1 := s.wr SFT_FP_FP s.fingerprint
  let fp := s1.rd SFT_FP_FP
  let differs (i : Nat) : Bool := i != s1.ownIdx && s1.present i && (s1.peer i).told && (s1.peer i).fp != fp
  let s2 := upTo 4 s1 (fun a i =>
    let p := a.peer i
    if differs i then a.setPeer i { p with fpDiff := min 255 (p.fpDiff + 1) }
    else a.setPeer i { p with fpDiff := 0, fpSent := false })
  s2.wr SFT_FP_STAT_PEER_MISM (ofBits ((List.range 4).map differs))

/-- FINGERPRINT_MISMATCH of peer i (R326). -/
def State.fpMismatch (s : State) (i : Nat) : State :=
  let p := s.peer i
  if 3 ≤ p.fpDiff ∧ ¬ p.fpSent then (s.setPeer i { p with fpSent := true }).send (0x208 + i) 0x02 p.fp else s

/-! ### RESUME (R313–R315) -/

/-- A byte of the newest block of a carrier requests FALLBACK (R314). -/
def State.blockFallback (s : State) (c : Nat) : Bool := (s.carrier c).any (fun b => bitOf (byteAt b.bytes 2) 1)

/-- VLED_A or VLED_B is below 2.7 V by its newest sample, or has had none (R314). -/
def State.railLow (s : State) : Bool :=
  s.sal.newest.any (fun v => match v with
    | none => true
    | some n => decide (n < 2700))

/-- Why a RESUME is refused (R314). -/
def State.resumeRefusal (s : State) (record unlock : Nat) : Option Nat :=
  if s.mode < 2 then some 4
  else if s.isOn SFT_INPUTS_LBF ∨ s.isOn SFT_INPUTS_HBP_LATCH ∨ s.isOn SFT_INPUTS_LBF_LATCH ∨ ¬ s.healthy ∨
      s.railLow ∨ s.blockFallback 0 ∨ s.blockFallback 1 then some 4
  else if record ≠ s.rd SFT_LOCK_CAUSE_REC ∨ s.sft.causeMsg.isSome then some 3
  else
    match s.sft.readAt with
    | none => some 3
    | some t =>
      if t + 500 < s.sft.ms then some 3
      else if unlock ≠ Nat.xor (s.rd SFT_FP_FP) record then some 3
      else none

/-- RESUME (R314, R315). -/
def State.doResume (s : State) (f : Flight) : State :=
  let record := f.args.getD 0 0 % 2 ^ 32
  match s.resumeRefusal record (f.args.getD 1 0 % 2 ^ 32) with
  | some st =>
    ((((s.send 0x0D3 0x01 st).bump SFT_LOCK_STAT_REFUSALS).wr SFT_LOCK_STAT_LAST_REFUSE st)).endFlight f.id st 0 0
  | none => ((s.send 0x0D3 0x02 record).setSft { s.sft with resume := true }).endFlight f.id 0 0 0

/-- NORMAL and DEGRADED at a boundary: an accepted RESUME (R315), and the feature bits as they stand (R301, R302). -/
def State.resumeBoundary (s : State) : State :=
  if s.sft.resume then
    (s.wr SFT_MODE_MODE s.featureMode).setSft { s.sft with resume := false, afterLock := true, causeMsg := none }
  else
    (if s.mode ≤ 1 then s.wr SFT_MODE_MODE s.featureMode else s).setSft { s.sft with afterLock := false }

/-! ### The Skink image (R307–R310) -/

/-- Byte k of the symbol library. -/
def State.libByte (s : State) (k : Nat) : Nat := Cells.get s.flash.library 0xFF k

/-- n bytes of the library from offset k, least significant first. -/
def State.libNum (s : State) (k n : Nat) : Nat := leNat ((List.range n).map (fun i => s.libByte (k + i)))

/-- Where the image lies, and its length. -/
def skinkAt : Nat := 0xBA0000
def skinkLen : Nat := 327744

/-- Check 3 of R308: the pattern keeps within the envelope. -/
def State.skinkFits (s : State) (pattern : Cells) : Bool :=
  s.isOn GKO_ENV_CTL_LOADED &&
  (List.range 327680).all (fun k =>
    let c := envMax (Cells.get pattern 0 k)
    let x := 2 * (k % 1024)
    let y := 2 * (k / 1024)
    [(x, y), (x + 1, y), (x, y + 1), (x + 1, y + 1)].all (fun q => decide (c ≤ envMax (s.gko.env.get (pixAddr q.1 q.2)))))

/-- Tile of cell k: each cell covers four pixels of one tile. -/
def cellTile (k : Nat) : Nat := tileOf (pixAddr (2 * (k % 1024)) (2 * (k / 1024)))

/-- LEVEL times intensity over the pixels of each tile, at full scale (R309). -/
def State.skinkTiles (s : State) (pattern : Cells) : Cells :=
  pattern.foldl (fun a q =>
    if q.1 < 327680 then
      let t := cellTile q.1
      Cells.put a 0 t (Cells.get a 0 t + 4 * s.rd (PXD_SKNOM_LEVEL (regionOfTile t)) * envMax q.2)
    else a) []

/-- Skink power at full scale of the tiles that p picks, in µW, at v mV (R309). -/
def skinkPower (tiles : Cells) (v : Nat) (p : Nat → Bool) : Rat :=
  (((tiles.filter (fun q => p q.1)).map (fun q => q.2)).sum : Nat) * (v : Rat) / (1000 * 1024 * 65536)

/-- SCALE of R309. -/
def State.skinkScale (s : State) (pattern : Cells) (vmax : Nat) : Nat :=
  let v := max 3600 vmax
  let ts := s.skinkTiles pattern
  let most (n : Nat) (f : Nat → Nat → Bool) : Rat :=
    (List.range n).foldl (fun a i => let p := skinkPower ts v (f i); if a < p then p else a) 0
  let cut (a lim p : Rat) : Rat := if p = 0 then a else if 3 / 5 * lim / p < a then 3 / 5 * lim / p else a
  let r0 := cut 1 80000 (most 1280 (fun i t => t == i))
  let r1 := cut r0 1000000 (most 64 (fun i t => regionOfTile t == i))
  let r2 := cut r1 24000000 (most 2 (fun i t => regionOfTile t / 32 == i))
  let r3 := cut r2 48000000 (most 1 (fun _ _ => true))
  (Rat.floor (1024 * r3)).toNat

/-- The cells of the image in the library, as the pattern SRAM takes them. -/
def State.skinkImage (s : State) : Cells :=
  (List.range skinkLen).filterMap (fun k =>
    let v := s.libByte (skinkAt + k)
    if v = 0 then none else some (k, v))

/-- Check 1 of R308. -/
def State.skinkHeader (s : State) : Bool :=
  let at' := skinkAt + 327680
  let vmax := s.libNum (at' + 12) 2
  s.libNum at' 4 == 0x4B4E4B53 && s.libNum (at' + 4) 2 == 1 && s.libNum (at' + 6) 2 == 0 && s.libNum (at' + 14) 2 == 0 &&
    s.libNum (at' + 16) 44 == 0 && decide (3600 ≤ vmax) && decide (vmax ≤ 5500)

/-- CRC-32C over n bytes of a sparse image. -/
def crcOfCells (c : Cells) (n : Nat) : Nat := Algo.final .crc32c (feedCells 1 0 c n 0 0xFFFFFFFF)

/-- A check of R308 fails: VALID 0, REASON, SKINK_INVALID. -/
def State.skinkInvalid (s : State) (reason : Nat) : State :=
  ((s.wr SFT_SK_STAT_VALID 0).wr SFT_SK_STAT_REASON reason).send 0x0D5 0x01 reason

/-- SKINK_LOAD (R308, R309). -/
def State.skinkLoad (s : State) : State :=
  let img := s.skinkImage
  let s1 := { s with skink := { pattern := img, recheck := false } }
  let crc := s.libNum (skinkAt + 327740) 4
  if ¬ s.skinkHeader then s1.skinkInvalid 1
  else if crcOfCells img 327740 ≠ crc then s1.skinkInvalid 2
  else if ¬ s.skinkFits img then s1.skinkInvalid 3
  else
    let scale := s.skinkScale img (s.libNum (skinkAt + 327680 + 12) 2)
    if scale = 0 then s1.skinkInvalid 4
    else (((s1.wr SFT_SK_ID_ID crc).wr SFT_SK_STAT_SCALE scale).wr SFT_SK_STAT_VALID 1).wr SFT_SK_STAT_REASON 0

/-- SKINK_SRAM_CHECK: one pass over the pattern SRAM; upsets names bytes that no longer read as loaded (R310). A pattern that
has passed the checks of R308 is compared, valid still or not; a mismatch that SRAM_ERR shows already is no new one. -/
def State.skinkSramCheck (s : State) (upsets : List (Nat × Nat)) : State :=
  let p := upsets.foldl (fun c q => if q.1 < skinkLen then Cells.put c 0 q.1 (q.2 % 256) else c) s.skink.pattern
  let s1 := { s with skink := { s.skink with pattern := p } }
  if s1.rd SFT_SK_STAT_SCALE ≠ 0 ∧ (s1.isOn SFT_SK_STAT_VALID ∨ ¬ s1.isOn SFT_SK_STAT_SRAM_ERR) ∧
      crcOfCells p 327740 ≠ s1.rd SFT_SK_ID_ID then
    let s2 := ((s1.wr SFT_SK_STAT_VALID 0).wr SFT_SK_STAT_SRAM_ERR 1).send 0x0D5 0x02 0
    s2.healthWatch s2.lastMsg
  else s1

/-- SKINK_ENVELOPE_RECHECK: check 3 against the new envelope (R310). -/
def State.skinkRecheck (s : State) : State :=
  let s1 := { s with skink := { s.skink with recheck := false } }
  if s.skink.recheck ∧ ¬ s.skinkFits s.skink.pattern then
    let s2 := s1.skinkInvalid 3
    s2.healthWatch s2.lastMsg
  else s1

/-! ### Life cycle (R328, R330) -/

/-- A password session is open. -/
def State.pwSession (s : State) : Bool := s.isOn SFT_SESS_STAT_ACTIVE && !s.isOn SFT_SESS_STAT_PILOT

/-- The advance to the next state is allowed (R328). -/
def State.advanceOk (s : State) (target : Nat) : Bool :=
  let l := s.life.state
  let dirty := s.isOn CAL_STAT_USER_DIRTY
  decide (l < 4) && target == l + 1 && s.life.pending == l &&
  (if l = 0 then true
   else if l = 1 then s.isOn CAL_STAT_FACT_OK
   else if l = 2 then s.pwSession && s.isOn GKO_ENV_CTL_LOADED && s.isOn SFT_SK_STAT_VALID &&
     s.rd SFT_COMM_EPOCH_EPOCH != 0 && !dirty
   else s.pwSession && s.isOn SFT_SK_STAT_VALID && !dirty)

/-- LCS_ADVANCE (R328). -/
def State.lcsAdvance (s : State) (target key : Nat) : State :=
  if key = 0x5EA1 ∧ s.advanceOk target then
    { s.changeNow 10 (crc32c [s.life.state]) (crc32c [target]) with life := { s.life with pending := target } }
  else s.wr LCS_STATE_ADV_ERR 1

/-- The serial number's 12 characters (R228). -/
def State.serial (s : State) : List Nat := (List.range 3).flatMap (fun i => leBytes 4 (s.rd (CAL_SERIAL_CHARS i)))

/-- The token as written, r and s (R330). -/
def State.tokenNum (s : State) (half : Nat) : Nat :=
  beNat ((List.range 8).flatMap (fun i => leBytes 4 (Cells.get s.sft.token 0 (8 * half + i))))

/-- LCS_RETURN.GO (R330). -/
def State.lcsReturn (s : State) : State :=
  let z := sha256 (s.serial ++ leBytes 8 s.life.challenge)
  if s.life.state ≠ 5 ∧ ecdsaOk Config.returnKey z (s.tokenNum 0) (s.tokenNum 1) then
    { s.changeNow 10 (crc32c [s.life.state]) (crc32c [5]) with life := { s.life with pending := 5 } }
  else s.wr LCS_STATE_ADV_ERR 1

/-! ### Commissioning sessions (R331–R334) -/

/-- The session is used: the 600 s of R334 start again. -/
def State.sessUse (s : State) : State := s.setSft { s.sft with lastUse := s.sft.ms }

/-- The password bytes written (R331). -/
def State.pwBytes (s : State) (len : Nat) : List Nat :=
  ((List.range 8).flatMap (fun i => leBytes 4 (Cells.get s.sft.pw 0 i))).take len

/-- The hash of the password written (R331). -/
def State.pwHash (s : State) (len : Nat) : Nat :=
  sha256 (leBytes 16 (Config.deviceSalt (leNat s.serial)) ++ s.pwBytes len)

/-- The session opens. One that is open already goes on, with what it has persisted (R327); one that has closed keeps its own
account (R334). -/
def State.openSession (s : State) (pilot : Bool) : State :=
  let again := s.isOn SFT_SESS_STAT_ACTIVE
  (((s.wr SFT_SESS_STAT_ACTIVE 1).wr SFT_SESS_STAT_PILOT (flag pilot)).setSft { s.sft with
    changed := again && s.sft.changed, sessNo := if again then s.sft.sessNo else s.sft.sessNo + 1 }).sessUse

/-- A session may be opened: SEALED, COMMISSIONED and FIELD, and not while opening is locked (R329, R332). -/
def State.mayOpen (s : State) : Bool :=
  decide (2 ≤ s.life.state) && decide (s.life.state ≤ 4) && !s.isOn SFT_SESS_STAT_LOCKED

/-- The password is stored (R331, R335). -/
def State.storePw (s : State) (h : Nat) : State :=
  ({ s with flash := { s.flash with pwHash := some h } }.wr SFT_SESS_STAT_PW_SET 1).changeNow 9 0 0

/-- A failed check (R332). -/
def State.pwFailed (s : State) : State :=
  let n := min 10 (s.flash.pwFails + 1)
  let s1 := ({ s with flash := { s.flash with pwFails := n } }.wr SFT_SESS_STAT_FAILS n).send 0x0D6 0x01 n
  if n = 10 then
    let s2 := { s1 with flash := { s1.flash with lockEnd := some (s1.rd REC_MINUTES_MINUTES + 60) } }
    ((s2.wr SFT_SESS_STAT_LOCKED 1).wr SFT_SESS_STAT_LOCK_MIN 60).send 0x0D6 0x02 0
  else s1

/-- SESSION_OPEN_PASSWORD (R331, R332). The password words are cleared after it. -/
def State.openPassword (s : State) (len : Nat) : State :=
  let h := s.pwHash len
  let s1 := s.sessUse.setSft { s.sft with lastUse := s.sft.ms, pw := [] }
  if ¬ s.mayOpen ∨ len < 8 ∨ 32 < len then s1
  else
    match s.flash.pwHash with
    | none => if s.life.state = 2 then (s1.openSession false).storePw h else s1
    | some h0 =>
      if h = h0 then
        ({ s1 with flash := { s1.flash with pwFails := 0 } }.wr SFT_SESS_STAT_FAILS 0).openSession false
      else s1.pwFailed

/-- SESSION_OPEN_PILOT (R333). The password words are cleared after it (R331). -/
def State.openPilot (s : State) : State :=
  let s1 := s.sessUse.setSft { s.sft with lastUse := s.sft.ms, pw := [] }
  if s.life.pilot ∧ s.mayOpen then s1.openSession true else s1

/-- The account of a closed session is settled: the epoch changes where a change was persisted (R327). -/
def State.settleSession (s : State) (a : Account) : State :=
  if a.changed then
    let old := s.flash.epoch
    let e := s.epochAfter s.epochNow
    ({ s with flash := { s.flash with epoch := e }, sft := { s.sft with epochNext := some e } }).changeLog 0 a.pilot 11
      (crc32c (leBytes 4 old)) (crc32c (leBytes 4 e))
  else s

/-- The accounts p names are settled, in the order their sessions closed. -/
def State.settle (s : State) (p : Account → Bool) : State :=
  (s.sft.closing.filter p).foldl State.settleSession (s.setSft { s.sft with closing := s.sft.closing.filter (fun a => !p a) })

/-- A descriptor accepted in session n runs (R334). -/
def State.gatedRuns (s : State) (n : Nat) : Bool :=
  s.ring.flights.any (fun f => f.sess == n && f.stage == .accepted && !f.ended)

/-- A closed session is settled where its last accepted descriptor has ended (R334): looked at when a session closes and at
each boundary. -/
def State.closeDone (s : State) : State := s.settle (fun a => !s.gatedRuns a.no)

/-- The open session closes (R334). -/
def State.closeAccount (s : State) : State :=
  if ¬ s.isOn SFT_SESS_STAT_ACTIVE then s
  else ((s.setSft { s.sft with
    closing := s.sft.closing ++ [⟨s.sft.sessNo, s.isOn SFT_SESS_STAT_PILOT, s.sft.changed⟩], changed := false }).wr
      SFT_SESS_STAT_ACTIVE 0).wr SFT_SESS_STAT_PILOT 0

/-- The session closes (R334); its account is settled once the descriptors accepted in it have ended. -/
def State.closeSession (s : State) : State := if ¬ s.isOn SFT_SESS_STAT_ACTIVE then s else s.closeAccount.closeDone

/-- At a reset: the session closes, and nothing runs on (R334). -/
def State.endSession (s : State) : State := s.closeAccount.settle (fun _ => true)

/-- SESSION_CLOSE (R334). -/
def State.sessionClose (s : State) : State := s.sessUse.closeSession

/-- SESSION_SET_PASSWORD (R331): inside an open password session. -/
def State.setPassword (s : State) (len : Nat) : State :=
  let s1 := s.sessUse
  if s.pwSession ∧ 8 ≤ len ∧ len ≤ 32 then s1.storePw (s.pwHash len) else s1

/-- SESSION_TIMEOUT: 600 s without use (R334). -/
def State.sessionTimeout (s : State) : State := if s.sft.lastUse + 600000 ≤ s.sft.ms then s.closeSession else s

/-- The minutes left in the password lock (R332). -/
def State.lockMinutes (s : State) : State :=
  match s.flash.lockEnd with
  | none => s
  | some e => s.wr SFT_SESS_STAT_LOCK_MIN (e - s.rd REC_MINUTES_MINUTES)

/-- PASSWORD_LOCK_EXPIRY (R332). -/
def State.lockExpiry (s : State) : State :=
  match s.flash.lockEnd with
  | none => s
  | some e =>
    if e ≤ s.rd REC_MINUTES_MINUTES then
      ({ s with flash := { s.flash with lockEnd := none } }.wr SFT_SESS_STAT_LOCKED 0).wr SFT_SESS_STAT_LOCK_MIN 0
    else s

/-- A new epoch comes into force at the boundary after the close (R327). -/
def State.epochBoundary (s : State) : State :=
  match s.sft.epochNext with
  | none => s
  | some e => (s.wr SFT_COMM_EPOCH_EPOCH e).setSft { s.sft with epochNext := none }

/-- HOST_WAIT: the host-wait timeout expires (R312, R417). -/
def State.hostWait (s : State) : State :=
  let ms := s.rd SFT_HOSTWAIT_MS
  if s.isOn LCS_BOOT_HW_RUN ∧ ms ≤ s.sft.ms then
    ((s.wr LCS_BOOT_HW_RUN 0).wr LCS_BOOT_HW_EXP 1).demand 0x0D7 0x01 ms
  else s

/-- STARTUP_DEADLINE: T0 + 120 ms (R407). -/
def State.startupDeadline (s : State) : State := if 120 ≤ s.sft.ms then s.endStartup else s

/-- SCAN_CLOCK_CHECK: the SCA and SCB clocks over a 20 µs window, in kHz, and whether the PLL is locked (R305, R336). -/
def State.scanClockCheck (s : State) (sca scb : Nat) : State :=
  let bad (f : Nat) : Bool := decide (f < 304000) || decide (336000 < f)
  if bad sca ∨ bad scb then
    let s1 := (s.setSft { s.sft with clkBad := true }).send 0x0DF 0x04 (flag (bad sca) + 2 * flag (bad scb))
    s1.healthWatch s1.lastMsg
  else (s.setSft { s.sft with clkBad := false }).showHealth

/-- PLL_UNLOCK (R37, R305). -/
def State.pllUnlock (s : State) : State :=
  let s1 := (s.setSft { s.sft with pllBad := true }).send 0x0DF 0x02 0
  s1.healthWatch s1.lastMsg

/-- PLL_LOCKED (R305). -/
def State.pllLocked (s : State) : State := (s.setSft { s.sft with pllBad := false }).showHealth

end Sys2Proof.Machine
end

