-- ==== Sys2Proof/Machine/Collector.lean ====
section
/-! DEFINITION. The fault collector (R341–R356): acceptance, severities, records, events, acknowledgement, the grace
timer, injected messages and its own faults. -/

namespace Sys2Proof.Machine

def State.setFlt (s : State) (x : FltBlock) : State := { s with flt := x }

/-- A fault message detected outside the commands of this block: source, kind, address (R341). -/
def State.sendAll (s : State) (l : List (Nat × Nat × Nat)) : State := l.foldl (fun a m => a.send m.1 m.2.1 m.2.2) s

/-- The message is one its source may send (R343). -/
def listed (m : Msg) : Bool :=
  if m.kind = 0x3F then assigned m.source && m.source != 0x3FF else (kindsOf m.source).any (fun k => k.1 == m.kind)

/-- The message as the collector takes it: BAD_MESSAGE where it is not listed (R343). -/
def takenAs (m : Msg) : Msg :=
  if listed m then m else { m with source := 0x3F0, kind := 3, addr := m.source + 1024 * m.kind }

/-- The severity applied to a message (R344, R345); demands are S4 (R320). -/
def State.sevOf (s : State) (m : Msg) : Nat :=
  if m.kind = 0x3F then 0
  else if isDemand m.source m.kind then 4
  else
    match Cells.find s.flt.sevNow m.source with
    | some v => v - 1
    | none => match (kindsOf m.source).find? (fun k => k.1 == m.kind) with
      | some k => k.2
      | none => 0

/-- The order of R350 among messages accepted together: less is earlier. -/
def State.orderKey (s : State) (m : Msg) : Nat := ((5 - s.sevOf m) * 1024 + m.source) * 2 + flag m.injected

/-- A message in its place among those accepted together; equal keys keep their order. -/
def insertMsg (key : Msg → Nat) (m : Msg) : List Msg → List Msg
  | [] => [m]
  | x :: t => if key m < key x then m :: x :: t else x :: insertMsg key m t

def sortMsgs (key : Msg → Nat) (l : List Msg) : List Msg := l.foldl (fun a m => insertMsg key m a) []

/-- An injected message carries out S4 and S5 only while REACT is 1, and never in FIELD (R351). -/
def State.injReacts (s : State) : Bool := s.isOn FLT_INJ_SRC_REACT && s.life.state != 4

/-- What the acceptance of message m means for the Skink path: conditions that recover at reset only (R305). -/
def State.healthEvent (s : State) (m : Msg) : State :=
  if m.injected then s
  else if (m.source = 0x06D ∨ m.source = 0x06E) ∧ m.kind = 4 then s.setSft { s.sft with busBad := true }
  else if m.source < 0x40 ∧ m.kind = 0x21 then s.setSft { s.sft with frozenBad := true }
  else s

/-- The reaction S4 or S5 of message m, where it is carried out (R301, R344, R351, R352). -/
def State.react (s : State) (m : Msg) : State × Msg :=
  if m.acted ∨ s.sevOf m < 4 ∨ (m.injected ∧ (m.masked ∨ ¬ s.injReacts)) then (s, m)
  else (s.cause (decide (s.sevOf m = 5)) (.msg m.id), { m with acted := true })

/-- A message joins the queue: S4, S5 and demands ahead of every queued message of lower reaction (R342). -/
def State.enqueue (s : State) (m : Msg) : State :=
  let v := s.sevOf m
  if 4 ≤ v then
    let front := s.flt.queue.takeWhile (fun x => decide (v ≤ s.sevOf x))
    s.setFlt { s.flt with queue := front ++ m :: s.flt.queue.drop front.length }
  else s.setFlt { s.flt with queue := s.flt.queue ++ [m] }

/-- One message is accepted, or dropped at a full queue (R342). -/
def State.acceptMsg (s : State) (m : Msg) : State :=
  if s.sevOf m < 4 ∧ 256 ≤ s.flt.queue.length then
    ((s.setFlt { s.flt with dropRun := min 0xFFFFFF (s.flt.dropRun + 1) }).fieldCount s.flt.dropRun).bump FLT_DROP_DROPPED
  else
    let s1 := s.healthEvent m
    let r := s1.react m
    let s2 := (r.1.enqueue r.2).healthWatch (.msg m.id)
    let n := s2.flt.dropRun
    if n = 0 then s2
    else
      let q := (s2.setFlt { s2.flt with dropRun := 0, sent := s2.flt.sent + 1 }).react (s2.msgOf 0x3F0 0x01 n false)
      q.1.enqueue q.2

/-- The collector accepts up to 8 messages in one SAF cycle (R342, R350, R352). -/
def State.acceptBatch (s : State) : State :=
  let batch := (s.fifo.take 8).map takenAs
  let marked := batch.map (fun m =>
    { m with masked := m.injected && batch.any (fun x => !x.injected && x.source == m.source) })
  (sortMsgs s.orderKey marked).foldl State.acceptMsg { s with fifo := s.fifo.drop 8 }

/-- The counter of a source in FLT_CNTw (R344). -/
def countField (src : Nat) : Fld :=
  let w := src / 4
  if src % 4 = 0 then FLT_CNT_B0 w else if src % 4 = 1 then FLT_CNT_B1 w else if src % 4 = 2 then FLT_CNT_B2 w else FLT_CNT_B3 w

/-- The 64-bit message (R341). -/
def Msg.low (m : Msg) : Nat := m.source + 2 ^ 10 * m.kind + 2 ^ 16 * (m.addr % 2 ^ 16)
def Msg.high (m : Msg) : Nat := m.addr / 2 ^ 16 + 2 ^ 8 * m.row + 2 ^ 17 * m.tick

/-- Records in the table and beside it (R346, R349), and the highest severity (R371). -/
def State.showTable (s : State) : State :=
  let s1 := s.wrCount FLT_STAT_UNACKED (s.flt.table.length + s.flt.overflow)
  let s2 := s1.wr FLT_STAT_MAXSEV (s.flt.table.foldl (fun a e => max a e.2.sev) 0)
  upTo 64 s2 (fun a i =>
    match s.flt.table.find? (fun e => e.1 == i) with
    | none =>
      ((((a.wr (FLT_UNACK_REC_RECORD i) 0).wr (FLT_UNACK_STAT_SEV i) 0).wr (FLT_UNACK_STAT_INJECTED i) 0).wr
        (FLT_UNACK_STAT_VALID i) 0).wr (FLT_UNACK_STAT_GRACE i) 0
    | some e =>
      ((((a.wr (FLT_UNACK_REC_RECORD i) e.2.record).wr (FLT_UNACK_STAT_SEV i) e.2.sev).wr (FLT_UNACK_STAT_INJECTED i)
        (flag e.2.injected)).wr (FLT_UNACK_STAT_VALID i) 1).wr (FLT_UNACK_STAT_GRACE i) e.2.grace)

/-- A record enters the unacknowledged table, or is counted without an entry (R346, R349). Answers whether it has one. -/
def State.tableEntry (s : State) (e : Unack) : State × Bool :=
  match (List.range 64).find? (fun i => !s.flt.table.any (fun x => x.1 == i)) with
  | some i => ((s.setFlt { s.flt with table := Keyed.put s.flt.table i e }).showTable, true)
  | none =>
    let s1 := (s.setFlt { s.flt with overflow := s.flt.overflow + 1 })
    let s2 := if s1.isOn FLT_STAT_ACK_FULL then s1 else (s1.wr FLT_STAT_ACK_FULL 1).send 0x3F0 0x02 0
    (s2.showTable, false)

/-- A fault escalates (R347): a record of TYPE ESCALATED, its table entry, FALLBACK; no FALLBACK for an injected fault
whose reaction is not carried out (R351, R352), nor for a record made in FALLBACK or DARK (R348). -/
def State.escalate (s : State) (e : Unack) : State :=
  let suppressed := e.injected && (e.masked || !s.injReacts)
  let s1 := s.bump FLT_DROP_ESCALATED
  let r := s1.makeRecord 1 e.source e.kind e.addr 4 e.injected (flag suppressed)
  let s2 := match r.2 with
    | none => r.1
    | some n => (r.1.tableEntry { e with record := n, sev := 4, grace := 0 }).1
  if suppressed || e.inLock then s2 else s2.cause false (.record (r.2.getD 0xFFFFFFFF))

/-- GRACE_TICKS; 0 acts as 1 (R371). -/
def State.graceTicks (s : State) : Nat := max 1 (s.rd FLT_CTL_GRACE_TICKS)

/-- The record of message m (R344, R358), its event and its table entry. -/
def State.recordMsg (s : State) (m : Msg) (v : Nat) : State :=
  let suppressed := m.injected && decide (4 ≤ v) && !m.acted
  let r := s.makeRecord (if isDemand m.source m.kind then 2 else 0) m.source m.kind m.addr v m.injected (flag suppressed)
  let s1 := r.1.causeRecorded m.id r.2
  let s2 := match r.2 with
    | none => s1
    | some n => ((s1.wr FLT_LAST_RECORD n).wr FLT_LAST_LO_MSG m.low).wr FLT_LAST_HI_MSG m.high
  if v < 2 then s2
  else
    let s3 := s2.postEvent 0 v (flag m.injected) (r.2.getD 0xFFFFFFFF) m.low m.high
    match r.2 with
    | none => s3
    | some n =>
      let e : Unack := ⟨n, v, m.injected, if v = 3 then s3.graceTicks else 0, m.source, m.kind, m.addr, m.masked, decide (2 ≤ s.mode)⟩
      let t := s3.tableEntry e
      if v = 3 ∧ ¬ t.2 then t.1.escalate e else t.1

/-- One message is processed (R342, R344, R386). -/
def State.processMsg (s : State) (m : Msg) : State :=
  if m.kind = 0x3F then (s.bump FLT_INJ_CNT_INJECTED).pathArrived m.source
  else
    let s1 := s.bump (if m.injected then FLT_INJ_CNT_INJECTED else countField m.source)
    let r := s1.react m
    let v := r.1.sevOf r.2
    if v = 0 then r.1.causeRecorded m.id none else r.1.recordMsg r.2 v

/-- FAULT_MESSAGE: messages detected outside arrive, up to 8 are accepted, and the first of the queue is processed
(R342, R344). -/
def State.faultMessage (s : State) (outside : List (Nat × Nat × Nat)) : State :=
  let s1 := (s.sendAll outside).acceptBatch
  match s1.flt.queue with
  | [] => s1
  | m :: t => ((s1.setFlt { s1.flt with queue := t }).processMsg m).endBatch

/-- The table has no entries left: ACK_FULL clears, and the records without an entry leave UNACKED (R349). -/
def State.tableEmpty (s : State) : State :=
  if s.flt.table = [] then ((s.wr FLT_STAT_ACK_FULL 0).setFlt { s.flt with overflow := 0 }).showTable else s.showTable

/-- Entries leave the table (R346). -/
def State.ackWhere (s : State) (p : Unack → Bool) : State :=
  (s.setFlt { s.flt with table := s.flt.table.filter (fun e => !p e.2) }).tableEmpty

/-- FLT_ACK (R346). -/
def State.fltAck (s : State) (n : Nat) : State :=
  if s.flt.table.any (fun e => e.2.record == n) then s.ackWhere (fun e => e.record == n) else s.wr FLT_ACK_CTL_ERR 1

/-- The grace counts at a boundary (R347): an entry that reaches 0 is due for escalation. -/
def State.graceBoundary (s : State) : State :=
  let t := s.flt.table.map (fun e => if 0 < e.2.grace then (e.1, { e.2 with grace := e.2.grace - 1 }) else e)
  let due := (s.flt.table.filter (fun e => e.2.grace == 1)).map (fun e => e.2)
  (s.setFlt { s.flt with table := t, due := s.flt.due ++ due }).showTable

/-- GRACE_EXPIRY: the first entry due is escalated; an acknowledgement after its count reached 0 only removed the
entry (R347). -/
def State.graceExpiry (s : State) : State :=
  match s.flt.due with
  | [] => s
  | e :: t => ((s.setFlt { s.flt with due := t }).escalate e).endBatch

/-- COLLECTOR_SELF_FAULT: kind 1 a register's parity (its window offset), 2 a table entry's ECC (R353). -/
def State.selfFault (s : State) (kind addr : Nat) : State :=
  let w := (addr - 0x3A1000) / 4
  let lost (k : Nat) : Bool := kind == 1 && decide (0x3A1000 ≤ addr) && decide (addr < 0x3A1200) && k / 8 == w
  let s1 := (s.wr FLT_STAT_SELF 1).setFlt { s.flt with
    selfLatch := true
    sevW := s.flt.sevW.filter (fun p => !lost p.1)
    sevNow := s.flt.sevNow.filter (fun p => !lost p.1) }
  let r := s1.makeRecord 3 0x3FF kind addr 4 false 0
  let s2 := match r.2 with
    | none => r.1
    | some n => (r.1.tableEntry ⟨n, 4, false, 0, 0x3FF, kind, addr, false, decide (2 ≤ s.mode)⟩).1
  s2.cause false (.record (r.2.getD 0xFFFFFFFF))

/-- FLT_INJ_GO (R351). -/
def State.inject (s : State) : State :=
  s.sendMsg (s.msgOf (s.rd FLT_INJ_SRC_SOURCE) (s.rd FLT_INJ_SRC_KIND) (s.rd FLT_INJ_ADDR_ADDR) true)

/-- Severities written to a table: source, severity; 6 and 7 are held at 5; unassigned sources and 0x3FF keep theirs
(R345). -/
def putSev (c : Cells) (src v : Nat) : Cells :=
  if assigned src ∧ src ≠ 0x3FF then Cells.put c 0 src (min 5 v + 1) else c

/-- Word w of FLT_SEVw is written into a table. -/
def putSevWord (c : Cells) (w v : Nat) : Cells :=
  (List.range 8).foldl (fun a i => putSev a (8 * w + i) (bitsOf v (4 * i) 3)) c

/-- A write to FLT_SEVw is accepted now (R345). -/
def State.sevWritable (s : State) : Bool := fullState s.life.state || s.pwSession

/-- FLT_SEV_WRITE (R345): in force at the next boundary. -/
def State.sevWrite (s : State) (w v : Nat) : State :=
  if s.sevWritable then s.setFlt { s.flt with sevW := putSevWord s.flt.sevW w v } else s.wr FLT_STAT_SEV_REFUSED 1

/-- Written severities come into force (R345). -/
def State.sevBoundary (s : State) : State := s.setFlt { s.flt with sevNow := s.flt.sevW }

/-- What FLT_SEVw reads as: the written table (R345). -/
def State.sevWord (s : State) (w : Nat) : Nat :=
  ((List.range 8).map (fun i => sevShown s.flt.sevW (8 * w + i) * 16 ^ i)).sum

/-- FAULT_N is driven low (R354, R404); no pin is driven without VSAFE. -/
def State.faultLow (s : State) (loaded : Bool) : Bool :=
  !s.unpowered && (!loaded || !s.flt.table.isEmpty || s.isOn FLT_STAT_ACK_FULL || s.flt.selfLatch)

end Sys2Proof.Machine
end

