-- ==== Sys2Proof/Machine/Calibration.lean ====
section
/-! DEFINITION. User calibration (R211–R221), the health save (R161), and the check value a pilot session waits for
(R333). -/

namespace Sys2Proof.Machine

/-! ### The check value of a pilot session (R333) -/

/-- SFT_PILOT_STAT. -/
def State.showPilot (s : State) : State :=
  match s.sft.pilotWait with
  | [] => (s.wr SFT_PILOT_STAT_WAITING 0).wr SFT_PILOT_STAT_OPCODE 0
  | (id, _) :: _ => (s.wr SFT_PILOT_STAT_WAITING 1).wr SFT_PILOT_STAT_OPCODE (match s.flight id with
    | none => 0
    | some f => f.opcode)

/-- The session a descriptor is accepted in, where it needs one (R333, R334). -/
def State.gateNow (s : State) (needed : Bool) : Nat :=
  if needed && s.isOn SFT_SESS_STAT_ACTIVE then (if s.isOn SFT_SESS_STAT_PILOT then 2 else 1) else 0

/-- Descriptor id waits for its check value. -/
def State.awaitPilot (s : State) (id crc : Nat) : State :=
  (s.setSft { s.sft with pilotWait := s.sft.pilotWait ++ [(id, crc, s.sft.ms)] }).showPilot

/-- The descriptors that still wait are those in flight. -/
def State.dropWait (s : State) (id : Nat) : State :=
  (s.setSft { s.sft with pilotWait := s.sft.pilotWait.filter (fun w => w.1 != id) }).showPilot

/-! ### Group data (R211) -/

/-- Size of a group's data. -/
def groupSize (g : Nat) : Nat := if g = 1 then 1310720 else if g = 2 then 2560 else if g = 3 then 5460 else if g = 4 then 4 else 0

/-- The data breaks the limits of its group. -/
def badGroup (g : Nat) (buf : Cells) : Bool :=
  if g = 1 then buf.any (fun c => decide (64 ≤ c.2))
  else if g = 2 then
    (List.range 1280).any (fun t =>
      let v := leNat (Cells.take buf 0 (2 * t) 2)
      decide (v < 8192) || decide (49152 < v))
  else if g = 3 then (List.range 2730).any (fun k => decide (16384 < (signed 16 (leNat (Cells.take buf 0 (2 * k) 2))).natAbs))
  else (List.range 2).any (fun k => decide (512 < (signed 16 (leNat (Cells.take buf 0 (2 * k) 2))).natAbs))

/-- A table of 16-bit values as bytes, and back. -/
def planeBytes (p : Plane) (n : Nat) : List Nat := (List.range n).flatMap (fun k => leBytes 2 (p.get k))

def bytesPlane (fill : Nat) (bs : List Nat) : Plane :=
  (List.range (bs.length / 2)).foldl (fun p k => p.put k (numAt bs (2 * k) 2)) { fill := fill }

/-- The bytes of a map group in force. -/
def State.mapGroup (s : State) (g : Nat) : List Nat :=
  if g = 2 then planeBytes s.cal.vignet 1280
  else if g = 3 then planeBytes s.cal.geom 2730
  else leBytes 2 (s.rd CAL_AIM_AIM_H) ++ leBytes 2 (s.rd CAL_AIM_AIM_V)

/-- A table with the values of keys lo … hi-1 taken from another. -/
def Cells.splice (c : Cells) (lo hi : Nat) (new : Cells) : Cells :=
  c.filter (fun x => decide (x.1 < lo)) ++ new.filter (fun x => decide (lo ≤ x.1) && decide (x.1 < hi) && x.2 != 0) ++
    c.filter (fun x => decide (hi ≤ x.1))

/-! ### Issue and first pass (R214–R216) -/

/-- A session is needed for a CAL_USER_WRITE in this state (R214). -/
def State.calSession (s : State) (persist : Bool) : Bool :=
  s.life.state == 4 || (persist && (s.life.state == 2 || s.life.state == 3))

/-- Why a CAL_USER_WRITE is refused at issue (R214, R216, R253). -/
def State.calRefusal (s : State) (f : Flight) : Option (Nat × Nat) :=
  let g := bitsOf (f.arg 1) 0 3
  let persist := bitOf (f.arg 1) 8
  let l := s.life.state
  if l = 0 ∨ (l = 1 ∧ persist) then some (4, 0)
  else if s.calSession persist ∧ ¬ s.isOn SFT_SESS_STAT_ACTIVE then some (3, 0)
  else if persist ∧ s.flashTested then some (2, 0)
  else if g < 1 ∨ 4 < g ∨ (bitOf (f.arg 1) 9 ∧ g = 1) then some (5, 1)
  else if f.arg64 2 % 64 ≠ 0 then some (5, 2)
  else if f.arg 4 ≠ groupSize g then some (5, 4)
  else none

/-- CAL_USER_WRITE at issue. -/
def State.doCalUserWrite (s : State) (f : Flight) : State :=
  let persist := bitOf (f.arg 1) 8
  let s1 := if s.calSession persist then s.sessUse else s
  match s1.calRefusal f with
  | some (st, d) => s1.endFlight f.id st d 0
  | none =>
    let w : CalWrite := { id := f.id, group := bitsOf (f.arg 1) 0 3, persist := persist, hold := bitOf (f.arg 1) 9, crc := f.arg 5 }
    ((s1.setFlight { f with stage := .accepted, gate := s.gateNow (s.calSession persist), sess := if persist then s.sessNow else 0 }).setWrite
      (some w)).startArgs f.id (f.arg64 2) (f.arg 4)

/-- The write completes. -/
def State.calEnd (s : State) (w : CalWrite) (status detail : Nat) : State := (s.setWrite none).complete w.id status detail 0

/-- STAGED with the bit of map group g as given. -/
def State.stagedBit (s : State) (g : Nat) (b : Bool) : State :=
  let m := s.rd CAL_STAT_STAGED
  let bit := 2 ^ (g - 2)
  s.wr CAL_STAT_STAGED (m - (if bitOf m (g - 2) then bit else 0) + (if b then bit else 0))

/-- The data is good, and confirmed where it had to be: what follows (R217–R220; logs 199, 200). -/
def State.calProceed (s : State) (w : CalWrite) (f : Flight) : State :=
  if w.group = 1 then
    if w.persist then s.setWrite (some { w with phase := 3, waits := false, plane := f.buf, behind := s.pix.saving.isSome })
    else ((s.setFlight { f with buf := [] }).setWrite (some { w with phase := 2, waits := false })).startArgs f.id (f.arg64 2) (f.arg 4)
  else
    let bs := Cells.take f.buf 0 0 (groupSize w.group)
    let s1 := (s.setCal { s.cal with staged := Keyed.put s.cal.staged w.group bs }).stagedBit w.group w.hold
    if w.hold then s1.calEnd w 0 0 else s1.setWrite (some { w with phase := 2, waits := false })

/-- All reads of descriptor id have ended well. -/
def State.dataIn (s : State) (id : Nat) : Option Flight :=
  match s.flight id with
  | none => none
  | some f => if f.todo = [] ∧ f.waiting = 0 ∧ ¬ f.failed ∧ ¬ f.ended then some f else none

/-- CAL_FIRST_PASS_DONE (R216, R333). -/
def State.calFirstPass (s : State) : State :=
  match s.cal.write with
  | none => s
  | some w =>
    if w.phase ≠ 1 ∨ w.waits then s
    else
      match s.dataIn w.id with
      | none => s
      | some f =>
        if crcOfCells f.buf (groupSize w.group) ≠ w.crc ∨ badGroup w.group f.buf then s.calEnd w 5 2
        else if f.gate = 2 then
          (s.setWrite (some { w with waits := true })).awaitPilot w.id w.crc
        else s.calProceed w f

/-! ### PIXTRIM (R218, R219) -/

/-- Sequence number b is that of a later copy than a, numbers counting modulo 65,536 (R161, R220). -/
def laterSeq (a b : Nat) : Bool := a != b && decide ((b + 65536 - a) % 65536 < 32768)

/-- The CRC-32C of a copy of n bytes: over them and the sequence number behind them (R161, R220). -/
def copyCrc (n seq : Nat) (bytes : Cells) : Nat :=
  Algo.final .crc32c (Algo.feedAll .crc32c (feedCells 1 0 bytes n 0 0xFFFFFFFF) (leBytes 2 seq))

/-- The copy passes its CRC. -/
def Copy.good (n : Nat) (c : Copy) : Bool := c.crc == copyCrc n c.seq c.bytes

/-- The copies of n bytes that pass their CRC. -/
def goodCopies (n : Nat) (l : List (Option Copy)) : List (Option Copy) := l.map (fun c => c.filter (Copy.good n))

/-- The newest copy of a block. -/
def newestCopy (l : List (Option Copy)) : Option Copy :=
  match l.getD 0 none, l.getD 1 none with
  | none, y => y
  | some x, none => some x
  | some x, some y => if laterSeq x.seq y.seq then some y else some x

/-- The copy not written last, and the next sequence number (R220; log 196). -/
def nextCopy (l : List (Option Copy)) : Nat × Nat :=
  match l.getD 0 none, l.getD 1 none with
  | none, none => (0, 1)
  | none, some y => (0, (y.seq + 1) % 65536)
  | some x, none => (1, (x.seq + 1) % 65536)
  | some x, some y => if laterSeq x.seq y.seq then (0, (y.seq + 1) % 65536) else (1, (x.seq + 1) % 65536)

/-- The copy of the health memory that was written last, and its place: the one with the higher sequence number (R161); a
tie, which only the number held at all ones makes (R355, R356), goes to the place given (log 196). -/
def newestHealth (l : List (Option Copy)) (tie : Nat) : Option (Nat × Copy) :=
  match l.getD 0 none, l.getD 1 none with
  | none, none => none
  | none, some y => some (1, y)
  | some x, none => some (0, x)
  | some x, some y => if x.seq < y.seq ∨ (x.seq = y.seq ∧ tie = 1) then some (1, y) else some (0, x)

/-- The place of the next health save, the one not written last, and its sequence number, a counter that saturates (R161,
R355, R356; log 196). -/
def healthCopy (l : List (Option Copy)) (last : Nat) : Nat × Nat :=
  match newestHealth l last with
  | none => (0, 1)
  | some (i, c) => (1 - i, min 65535 (c.seq + 1))

/-- CAL_SECOND_PASS_DONE: the second fetch has ended (R219). -/
def State.calSecondPass (s : State) : State :=
  match s.cal.write with
  | none => s
  | some w =>
    if w.group ≠ 1 ∨ w.persist ∨ w.phase ≠ 2 ∨ w.pass2 ∨ w.restore.isSome then s
    else
      match s.dataIn w.id with
      | none => s
      | some f =>
        if crcOfCells f.buf 1310720 = w.crc then s.setWrite (some { w with pass2 := true })
        else
          let old := match newestCopy (goodCopies 1310720 s.flash.trim) with
            | none => []
            | some c => c.bytes
          s.setWrite (some { w with restore := some old, row := 0 })

/-- The bytes of the next tile row are there (R218); row 19 waits for the second CRC (R219; log 228). -/
def State.rowThere (s : State) (w : CalWrite) : Option Cells :=
  match w.restore with
  | some c => some c
  | none =>
    if w.persist then some w.plane
    else
      match s.flight w.id with
      | none => none
      | some f =>
        let hi := f.base + 65536 * (w.row + 1)
        if f.todo.any (fun r => decide (r.1 < hi)) ∨ s.link.tags.any (fun t => t.req == .arg w.id && decide (t.addr < hi)) ∨
            (w.row = 19 ∧ ¬ w.pass2) then none
        else some f.buf

/-- PIXTRIM_TILE_ROW_WRITE in a bask, and the completion with the last row (R218, R219). CAL_USER_CRC1 and, with PERSIST 0,
USER_DIRTY follow every row (R221, R228), those of a restore too (log 226). -/
def State.calBask (s : State) : State :=
  match s.cal.write with
  | none => s
  | some w =>
    if w.group ≠ 1 ∨ w.phase ≠ 2 then s
    else
      match s.rowThere w with
      | none => s
      | some bytes =>
        let u := { s.pix.uTrim with cells := Cells.splice s.pix.uTrim.cells (65536 * w.row) (65536 * (w.row + 1)) bytes }
        let s1 : State := { s with
          pix := { s.pix with uTrim := u }, cal := { s.cal with dirtyTrim := s.cal.dirtyTrim || !w.persist } }
        let s2 := s1.wr (CAL_USER_CRC_CRC 0) (crcOfCells u.cells 1310720)
        if w.row < 19 then s2.setWrite (some { w with row := w.row + 1 })
        else
          match w.restore with
          | some _ => ((s2.setCal { s2.cal with dirtyTrim := false }).wr CAL_USER_STAT_MIXED 1).calEnd w 5 2
          | none => s2.calEnd w 0 0

/-! ### Map groups (R217) -/

/-- MAP_GROUPS_IN_FORCE: every staged group comes into force for Gecko; scan-out takes VIGNET a boundary later. -/
def State.mapsInForce (s : State) : State :=
  s.cal.staged.foldl (fun a g =>
    let a1 := (a.wr (CAL_USER_CRC_CRC (g.1 - 1)) (crc32c g.2)).stagedBit g.1 false
    if g.1 = 2 then a1.setCal { a1.cal with vigNext := some (bytesPlane 0x8000 g.2) }
    else if g.1 = 3 then
      (a1.setCal { a1.cal with geom := bytesPlane 0 g.2 }).wr CAL_STAT_GSEL (1 - a1.rd CAL_STAT_GSEL)
    else (a1.wr CAL_AIM_AIM_H (numAt g.2 0 2)).wr CAL_AIM_AIM_V (numAt g.2 2 2)) (s.setCal { s.cal with staged := [] })

/-- The boundary's part of a map write (R217, R220; logs 199, 200). -/
def State.calBoundary (s : State) : State :=
  let s1 := match s.cal.vigNext with
    | none => s
    | some v => (s.setCal { s.cal with vignet := v, vigNext := none }).wr CAL_STAT_VSEL (1 - s.rd CAL_STAT_VSEL)
  match s1.cal.write with
  | none => s1
  | some w =>
    if w.group = 1 ∨ w.phase ≠ 2 then s1
    else if ¬ w.inForce then
      let s2 := s1.mapsInForce
      (s2.setCal { s2.cal with dirtyMap := s2.cal.dirtyMap || !w.persist }).setWrite (some { w with inForce := true })
    else if w.persist then s1.setWrite (some { w with phase := 3, behind := s1.pix.saving.isSome })
    else s1.calEnd w 0 0

/-! ### Programming (R220) -/

/-- The bytes of the map block with the values in force. -/
def State.mapBlock (s : State) : List Nat := s.mapGroup 2 ++ s.mapGroup 3 ++ s.mapGroup 4

def bytesCells (bs : List Nat) : Cells := Cells.putMany [] 0 0 bs

/-- The copy of a block of n bytes at place k.1 is programmed with sequence number k.2, well or not. -/
def setCopy (l : List (Option Copy)) (k : Nat × Nat) (n : Nat) (ok : Bool) (bytes : Cells) : List (Option Copy) :=
  l.set k.1 (if ok then some ⟨k.2, bytes, copyCrc n k.2 bytes⟩ else none)

/-- The CRC of a group's content as last stored, 0 where nothing valid is stored. -/
def storedCrc (l : List (Option Copy)) (g : Nat) : Nat :=
  match newestCopy (goodCopies (if g = 1 then 1310720 else 8024) l) with
  | none => 0
  | some c =>
    if g = 1 then crcOfCells c.bytes 1310720
    else crc32c (Cells.take c.bytes 0 (if g = 2 then 0 else if g = 3 then 2560 else 8020) (groupSize g))

/-- The change-log entries of a map block that has been programmed: the group written, and every other whose stored content
has changed with it (R335). l is what was stored before, id the descriptor. -/
def State.logMaps (s : State) (id : Nat) (l : List (Option Copy)) (written : Nat) : State :=
  [2, 3, 4].foldl (fun a g =>
    let before := storedCrc l g
    let after := crc32c (s.mapGroup g)
    if g = written ∨ before ≠ after then a.changeOf id g before after else a) s

/-- CAL_PROGRAM_DONE (R220, R335; log 201). Programming cannot end while it waits for a health save or yields to a recorder write. -/
def State.calProgrammed (s : State) (ok : Bool) : State :=
  match s.cal.write with
  | none => s
  | some w =>
    if w.phase ≠ 3 ∨ w.behind ∨ s.rcd.prog.isSome then s
    else if w.group = 1 then
      let before := storedCrc s.flash.trim 1
      let l := setCopy s.flash.trim (nextCopy s.flash.trim) 1310720 ok w.plane
      let s1 := { s with flash := { s.flash with trim := l, trimEver := true } }
      let s2 :=
        if ok then
          ((s1.wr CAL_USER_SEQ_TRIM (nextCopy s.flash.trim).2).setCal { s1.cal with dirtyTrim := false }).changeOf w.id 1 before w.crc
        else ((s1.setCal { s1.cal with dirtyTrim := true }).wr CAL_USER_STAT_ERR 1).send 0x0E5 0x03 0
      s2.setWrite (some { w with phase := 2, row := 0 })
    else
      let l := setCopy s.flash.map (nextCopy s.flash.map) 8024 ok (bytesCells s.mapBlock)
      let s1 := { s with flash := { s.flash with map := l, mapEver := true } }
      let s2 :=
        if ok then
          ((s1.wr CAL_USER_SEQ_MAP (nextCopy s.flash.map).2).setCal { s1.cal with dirtyMap := false }).logMaps w.id s.flash.map w.group
        else ((s1.setCal { s1.cal with dirtyMap := true }).wr CAL_USER_STAT_ERR 1).send 0x0E5 0x03 1
      s2.calEnd w 0 0

/-! ### Loading at power-up (R221) and the health save (R161) -/

/-- USER_CAL_COPY and USER_CAL_DEFAULT of block b (R221). -/
def State.copyFaults (s : State) (b : Nat) (l : List (Option Copy)) (ever : Bool) : State :=
  match l.getD 0 none, l.getD 1 none with
  | some _, some _ => s
  | none, none => if ever then s.send 0x0E5 0x02 b else s
  | _, _ => s.send 0x0E5 0x01 b

/-- USER_CAL_LOAD (R221). -/
def State.loadUser (s : State) : State :=
  let trim := newestCopy s.flash.trim
  let map := newestCopy s.flash.map
  let u : Plane := { cells := match trim with
    | none => []
    | some c => c.bytes }
  let blk : List Nat := match map with
    | none => planeBytes { fill := 0x8000 } 1280 ++ List.replicate 5464 0
    | some c => Cells.take c.bytes 0 0 8024
  let s1 := { s with
    pix := { s.pix with uTrim := u }
    cal := { s.cal with vignet := bytesPlane 0x8000 (blk.take 2560), geom := bytesPlane 0 ((blk.drop 2560).take 5460) } }
  let s2 := (s1.wr CAL_AIM_AIM_H (numAt blk 8020 2)).wr CAL_AIM_AIM_V (numAt blk 8022 2)
  let s3 := (s2.wr CAL_STAT_USER_VALID (flag trim.isSome + 2 * flag map.isSome)).wr CAL_USER_SEQ_TRIM (match trim with
    | none => 0
    | some c => c.seq)
  let s4 := s3.wr CAL_USER_SEQ_MAP (match map with
    | none => 0
    | some c => c.seq)
  let s5 := s4.wr (CAL_USER_CRC_CRC 0) (crcOfCells u.cells 1310720)
  let s6 := [2, 3, 4].foldl (fun a g => a.wr (CAL_USER_CRC_CRC (g - 1)) (crc32c (a.mapGroup g))) s5
  ((s6.copyFaults 0 s.flash.trim s.flash.trimEver).copyFaults 1 s.flash.map s.flash.mapEver).showCal

/-- HEALTH_SAVE_DONE (R161, R355; log 196). -/
def State.healthSaved (s : State) (ok : Bool) : State :=
  match s.pix.saving with
  | none => s
  | some words =>
    let n := healthCopy s.flash.health (s.rd AXL_SAVE_COPY)
    let s1 := { s with
      flash := { s.flash with
        health := setCopy s.flash.health n 1310720 ok words, healthEver := s.flash.healthEver.set n.1 true }
      pix := { s.pix with saving := none }
      cal := { s.cal with write := s.cal.write.map (fun (w : CalWrite) => { w with behind := false }) } }
    let s2 := s1.wr AXL_SAVE_BUSY 0
    if ok then (s2.wr AXL_SAVE_COPY n.1).wrCount AXL_SAVE_SEQ n.2 else s2.wr AXL_SAVE_ERR 1

end Sys2Proof.Machine
end

