-- ==== Sys2Proof/Machine/Windows.lean ====
section
/-! DEFINITION. What the pond-store window (R84) and the flash die (R408) hold, byte by byte. -/

namespace Sys2Proof.Machine

/-- Byte i of a number (R8). -/
def byteOf (n i : Nat) : Nat := n / 256 ^ i % 256

/-- The row of a mask band buffer that raster row y has: the upper half's 40 rows, then the lower half's (R84). -/
def bandRowAt (b i : Nat) : Nat := if i < 40 then 40 * b + i else 320 + 40 * b + (i - 40)

/-- A byte of the tile-grid tables, at offset k of them: envelope floor (R115), TGAIN and the dead counts (R160), the
tile records (R183). The places of the others are not given. -/
def State.gridByte (s : State) (k : Nat) : Option Nat :=
  if 0x8000 ≤ k ∧ k < 0x8A00 then some (byteOf (s.gko.floor.get ((k - 0x8000) / 2)) (k % 2))
  else if 0xC000 ≤ k ∧ k < 0xCA00 then some (byteOf (s.pix.tgain.get ((k - 0xC000) / 2)) (k % 2))
  else if 0xCA00 ≤ k ∧ k < 0xD400 then some (byteOf (s.pix.tiles.get ((k - 0xCA00) / 2)) (k % 2))
  else if 0xD400 ≤ k ∧ k < 0xFC00 then some (byteOf (s.sal.records.get ((k - 0xD400) / 8)) ((k - 0xD400) % 8))
  else none

/-- A byte of mask band buffer j, once a band has been rendered into it (R84). -/
def State.bandByte (s : State) (j k : Nat) : Option Nat :=
  (s.comp.bandBuf.getD j none).map (fun q => Cells.get q.2 255 (2048 * bandRowAt q.1 (k / 2048) + k % 2048))

/-- The byte at a window address of the pond store (R84); none where the spec gives no contents for it. -/
def State.pondByte (s : State) (a : Nat) : Option Nat :=
  if a < 0x400000 then none
  else if a < 0x680000 then some (byteOf (Cells.get s.comp.buf0.light 0 ((a - 0x400000) / 2)) (a % 2))
  else if a < 0x900000 then some (byteOf (Cells.get s.comp.buf1.light 0 ((a - 0x680000) / 2)) (a % 2))
  else if a < 0xA40000 then
    let k := a - 0x900000
    let side := if k < 655360 then s.comp.buf0.side else s.comp.buf1.side
    let p := 2 * (k % 655360)
    some (Cells.get side 0 p % 16 + 16 * (Cells.get side 0 (p + 1) % 16))
  else if a < 0xB80000 then some (s.pix.fGain.get (a - 0xA40000) % 256)
  else if a < 0xCC0000 then some (s.pix.uTrim.get (a - 0xB80000) % 256)
  else if a < 0xE00000 then some (s.gko.env.get (a - 0xCC0000) % 256)
  else if a < 0xE50000 then s.bandByte ((a - 0xE00000) / 163840) ((a - 0xE00000) % 163840)
  else if a < 0xE80000 then none
  else if a < 0xE90000 then s.gridByte (a - 0xE80000)
  else if a < 0x1000000 then some (Cells.get s.comp.area 0 (a - 0xE90000))
  else none

/-- A byte of the recorder area (R357, R360, R408); what a torn slot holds is not given. -/
def State.slotByte (s : State) (k : Nat) : Option Nat :=
  match s.flash.slots.find? (fun p => p.1 == k / 32) with
  | none => some 0xFF
  | some (_, .torn) => none
  | some (_, .valid r) => some (r.bytes.getD (k % 32) 0)

/-- A byte of a firmware image area (R409); what follows the image is not given. -/
def State.imageByte (s : State) (i k : Nat) : Option Nat :=
  match s.flash.images.getD i none with
  | none => none
  | some c => if k < 128 + leNat (Cells.take c 0 12 4) then some (Cells.get c 0 k) else none

/-- The byte at a flash address (R408); none where the spec gives no layout. -/
def State.flashByte (s : State) (a : Nat) : Option Nat :=
  if a < 0x2000000 then none
  else if a < 0x2800000 then s.imageByte 0 (a - 0x2000000)
  else if a < 0x3000000 then s.imageByte 1 (a - 0x2800000)
  else if a < 0x3C00000 then some (s.libByte (a - 0x3000000))
  else if a < 0x4000000 then s.slotByte (a - 0x3C00000)
  else none

/-- n bytes from address a, or none if one of them is not given. -/
def bytesFrom (rd : Nat → Option Nat) (a : Nat) : Nat → Option (List Nat)
  | 0 => some []
  | n + 1 =>
    match rd a, bytesFrom rd (a + 1) n with
    | some b, some bs => some (b :: bs)
    | _, _ => none

end Sys2Proof.Machine
end

