-- ==== Sys2Proof/Machine/Issue.lean ====
section
/-! DEFINITION. Descriptors at work: what holds one back (R241), the zero fields of R252, the opcodes of R251 at issue
and when their data has arrived, host reads as they end (R244, R278), and the status snapshot (R254). -/

namespace Sys2Proof.Machine

/-! ### Holding back and zero fields -/

/-- The background opcodes (R251). -/
def isBackground (op : Nat) : Bool := [5, 8, 9, 10, 11, 13, 15, 16].contains op

/-- The opcodes that write shadowed state (R76, R251). -/
def writesShadow (op : Nat) : Bool := [1, 2, 3, 4, 7].contains op

/-- A COMMIT of another descriptor has been issued and is not taken yet: it waits for earlier work of its ring (R74, R76). -/
def State.commitWaiting (s : State) (id : Nat) : Bool :=
  s.ring.flights.any (fun g => g.opcode == 3 && g.stage == .working && !g.ended && g.id != id)

/-- A cause of R241 holds descriptor f back. A descriptor whose completion only waits for room holds nothing back
(R243). -/
def State.holds (s : State) (f : Flight) : Bool :=
  (writesShadow f.opcode && (s.comp.armed.isSome || s.commitWaiting f.id)) ||
  (isBackground f.opcode && s.ring.flights.any (fun g => g.opcode == f.opcode && g.id != f.id && !g.ended &&
    g.stage == .accepted && (f.opcode != 16 || bitsOf (g.arg 1) 0 5 == bitsOf (f.arg 1) 0 5))) ||
  (f.fence && s.ring.flights.any (fun g => g.ring == f.ring && decide (g.id < f.id) && !g.ended))

/-- The bits of words 1–7 an opcode has fields in (R252); a word in the layout of a register has that register's fields
(R87, R204). -/
def fieldMasks (op w1 : Nat) : List Nat :=
  let a := 0xFFFFFFFF
  match op with
  | 1 => [0x3FFFF, a, a, 0xFFF3FFF, 0xFFFFF, a, 0]
  | 2 => if w1 % 16 = 8 then [0x10F, a, 0xFFFFF, a, a, a, a] else [0x1F0F, 0x1FFFFFFF, 0x3FF07FF, 0x3FF0FFF, 0xFFF1FFF, 0xFFF3FFF, 0]
  | 3 => [a, 0, 0, 0, 0, 0, 0]
  | 4 => [0x7F07, a, a, 0, 0, 0, 0]
  | 5 => [0x3, a, if w1 % 2 = 1 then a else 0, a, a, a, 0]
  | 6 => [a, a, a, 0, 0, 0, 0]
  | 7 => [0x7, a, 0xFFFFFF07, 0xFFFFFF, 0, 0, 0]
  | 8 => [a, a, a, 0, 0, 0, 0]
  | 9 => [0x307, a, a, a, a, 0, 0]
  | 10 => [0xFF, a, a, 0xFFFF, 0, 0, 0]
  | 11 => [a, 0x7FF, a, a, 0, 0, 0]
  | 12 => [1, 0, 0, 0, 0, 0, 0]
  | 13 => [0x133, a, if bitsOf w1 4 2 = 0 then a else 0, a, a, 0, 0]
  | 14 => [a, a, 0, 0, 0, 0, 0]
  | 15 => [a, a, 0, 0, 0, 0, 0]
  | 16 => [0x1F, a, a, a, 0, 0, 0]
  | _ => [a, a, a, a, a, a, a]

/-- The lowest word with a zero field that is not zero (R247, R252, R457). -/
def Flight.zeroFault (f : Flight) : Option Nat :=
  if f.rsvd ≠ 0 then some 0
  else
    ((List.range 7).find? (fun i =>
      Nat.land (f.arg (i + 1)) (0xFFFFFFFF - (fieldMasks f.opcode (f.arg 1)).getD i 0) != 0)).map (· + 1)

/-! ### SYMBOL_LOAD (R63, R253, R307, R329, R413) -/

def symFromHost (f : Flight) : Bool := bitOf (f.arg 1) 0
def symProgram (f : Flight) : Bool := bitOf (f.arg 1) 1

/-- Size of the symbol library, and where its safety area starts (R307, R408). -/
def librarySize : Nat := 0xC00000
def safetyAt : Nat := 0xB90000

/-- The local bytes [lo, hi) the slots name (R63). -/
def State.namedBytes (s : State) : List (Nat × Nat) :=
  (List.range 32).flatMap (fun i => [true, false].flatMap (fun act =>
    let sf := s.surf act i
    if sf.bound ∧ sf.isLocal then
      (List.range (max 1 sf.frames)).map (fun k =>
        let base := sf.addr + k * sf.frameb
        (base, base + surfExtent sf (if sf.comp = 1 then Cells.get (if act then s.comp.dirEnd else s.comp.dirEndSh) 0 (256 * i + k) else 0)))
    else []))

/-- The PROGRAM touches the safety area (R253). -/
def symSafety (f : Flight) : Bool := decide (0 < f.arg 5) && decide (safetyAt < f.arg 4 + f.arg 5) && decide (f.arg 4 < librarySize)

/-- A PROGRAM needs an open session in this state (R253, R329). -/
def State.symSession (s : State) (f : Flight) : Bool :=
  symProgram f && (s.life.state == 2 || s.life.state == 3 || s.life.state == 4)

/-- The first argument of a PROGRAM that is wrong (R252, R307). -/
def symProgramFault (f : Flight) : Option Nat :=
  if ¬ symFromHost f then some 1
  else if f.arg64 2 % 64 ≠ 0 then some 2
  else if f.arg 4 % 65536 ≠ 0 then some 4
  else if f.arg 5 % 64 ≠ 0 ∨ librarySize < f.arg 4 + f.arg 5 then some 5
  else if symSafety f ∧ ¬ (f.arg 4 = skinkAt ∧ f.arg 5 = skinkLen) ∧ ¬ (f.arg 4 = safetyAt ∧ f.arg 5 = 832) then some 4
  else none

/-- The first argument of a load that is wrong (R252). -/
def symLoadFault (f : Flight) : Option Nat :=
  if (if symFromHost f then f.arg64 2 else f.arg 2) % 64 ≠ 0 then some 2
  else if f.arg 4 % 64 ≠ 0 then some 4
  else if f.arg 5 % 64 ≠ 0 ∨ areaSize < f.arg 4 + f.arg 5 ∨ (¬ symFromHost f ∧ librarySize < f.arg 2 + f.arg 5) then some 5
  else none

/-- Why a SYMBOL_LOAD is refused at issue: status and DETAIL (R63, R253; the order without PROGRAM is log 202). -/
def State.symRefusal (s : State) (f : Flight) : Option (Nat × Nat) :=
  if symProgram f then
    if s.life.state = 0 ∨ (s.life.state = 4 ∧ symSafety f) then some (4, 0)
    else if s.symSession f ∧ ¬ s.isOn SFT_SESS_STAT_ACTIVE then some (3, 0)
    else if s.flashTested then some (2, 0)
    else
      match f.zeroFault with
      | some w => some (5, if w ≠ 0 ∧ ¬ symFromHost f then 1 else w)
      | none => (symProgramFault f).map (fun w => (5, w))
  else
    match f.zeroFault with
    | some w => some (5, w)
    | none =>
      match symLoadFault f with
      | some w => some (5, w)
      | none =>
        if s.flashTested then some (2, 0)
        else if 0 < f.arg 5 ∧ s.namedBytes.any (fun r => decide (r.1 < f.arg 4 + f.arg 5) && decide (f.arg 4 < r.2)) then
          some (4, 0)
        else none

/-- SYMBOL_LOAD at issue. -/
def State.doSymbolLoad (s : State) (f : Flight) : State :=
  let s1 := if s.symSession f ∧ s.isOn SFT_SESS_STAT_ACTIVE then s.sessUse else s
  match s1.symRefusal f with
  | some (st, d) => s1.endFlight f.id st d 0
  | none =>
    let s2 := s1.setFlight { f with stage := .accepted, gate := s.gateNow (s.symSession f), sess := if symProgram f then s.sessNow else 0 }
    if symFromHost f then s2.startArgs f.id (f.arg64 2) (f.arg 5) else s2

/-- n bytes of the library from offset k. -/
def State.libBytes (s : State) (k n : Nat) : List Nat := Cells.take s.flash.library 0xFF k n

/-- The change-log group of library offset k (R335). -/
def libGroup (k : Nat) : Nat := if k = skinkAt then 6 else if k = safetyAt then 7 else 8

/-- Data of descriptor f is programmed into the library at offset dst, each 64 KiB block it touches erased first (R253). -/
def State.programLibrary (s : State) (f : Flight) (dst : Nat) (bs : List Nat) : State :=
  let last := ceilDiv (dst + bs.length) 65536 * 65536
  let kept := s.flash.library.filter (fun c => !(decide (dst ≤ c.1) && decide (c.1 < last)))
  let s1 := { s with flash := { s.flash with library := Cells.putMany kept 0xFF dst bs } }
  if 1 ≤ s.life.state ∧ s.life.state ≤ 4 ∧ bs ≠ [] then
    s1.changeBy f (libGroup dst) (crc32c (s.libBytes dst bs.length)) (crc32c bs)
  else s1

/-- The set-up record in the data would change PILOT_COMPAT where R413 does not allow it. -/
def State.pilotChange (s : State) (f : Flight) (bs : List Nat) : Bool :=
  if f.arg 4 = safetyAt then
    let new := bitOf (byteAt bs 6) 2
    (new && !s.life.pilot && !(s.life.state == 2 && f.gate == 1)) || (!new && s.life.pilot && s.life.state != 5)
  else false

/-- A PROGRAM whose data is good goes ahead. -/
def State.symProceed (s : State) (f : Flight) : State :=
  let bs := Cells.take f.buf 0 0 (f.arg 5)
  (s.programLibrary f (f.arg 4) bs).complete f.id 0 0 (crc32c bs)

/-- SYMBOL_LOAD_DONE for descriptor f: the last byte is in (R253, R333, R413). -/
def State.symEnd (s : State) (f : Flight) : State :=
  let n := f.arg 5
  let bs := if symFromHost f then Cells.take f.buf 0 0 n else s.libBytes (f.arg 2) n
  let crc := crc32c bs
  if symProgram f then
    if crc ≠ f.arg 6 then s.complete f.id 5 2 crc
    else if s.pilotChange f bs then s.complete f.id 3 0 crc
    else if f.gate = 2 then s.awaitPilot f.id crc
    else s.symProceed f
  else
    let s1 := { s with comp := { s.comp with area := Cells.putMany s.comp.area 0 (f.arg 4) bs } }
    s1.complete f.id (if crc = f.arg 6 then 0 else 5) (if crc = f.arg 6 then 0 else 2) crc

/-- The descriptor of opcode op that is accepted, whose data is in, and which does not wait for a check value. -/
def State.atWork (s : State) (op : Nat) : Option Flight :=
  match s.ring.flights.find? (fun f => f.opcode == op && f.stage == .accepted && !f.ended) with
  | none => none
  | some f => if s.sft.pilotWait.any (fun w => w.1 == f.id) then none else s.dataIn f.id

/-- SYMBOL_LOAD_DONE. -/
def State.symbolLoaded (s : State) : State :=
  match s.atWork 5 with
  | none => s
  | some f => s.symEnd f

/-! ### ENVELOPE_LOAD (R115, R119, R329) -/

def envelopeLen : Nat := 1313284

/-- ENVELOPE_LOAD at issue. -/
def State.doEnvelopeLoad (s : State) (f : Flight) : State :=
  let l := s.life.state
  let gated := l = 2 ∨ l = 3
  let s1 := if gated ∧ s.isOn SFT_SESS_STAT_ACTIVE then s.sessUse else s
  if l = 0 ∨ l = 4 ∨ s.comp.taken then s1.endFlight f.id 4 0 0
  else if gated ∧ ¬ s.isOn SFT_SESS_STAT_ACTIVE then s1.endFlight f.id 3 0 0
  else if s.flashTested then s1.endFlight f.id 2 0 0
  else if f.arg64 1 % 64 ≠ 0 then s1.endFlight f.id 5 1 0
  else if f.arg 3 ≠ envelopeLen then s1.endFlight f.id 5 3 0
  else (s1.setFlight { f with stage := .accepted, gate := s.gateNow (decide gated), sess := s.sessNow }).startArgs f.id (f.arg64 1) envelopeLen

/-- The floor of tile t in an image, and the floor as a table (R119). -/
def envFloorOf (img : Cells) (t : Nat) : Nat := leNat (Cells.take img 0 (1310720 + 2 * t) 2)

/-- A tile's floor exceeds the maximum of a pixel of that tile (R115). -/
def badFloor (img : Cells) : Bool :=
  (List.range pixels).any (fun p => decide (envMax (Cells.get img 0 p) < envFloorOf img (tileOf p)))

/-- The image passes its checks (R119). -/
def goodEnvelope (img : Cells) : Bool :=
  crcOfCells img 1313280 == leNat (Cells.take img 0 1313280 4) && !badFloor img

/-- An image in the pond store, with its check value (R119). -/
def State.putEnvelope (s : State) (img : Cells) : State :=
  let s1 := { s with gko := { s.gko with
    env := { fill := 0, cells := img.filter (fun c => decide (c.1 < 1310720)) }
    floor := (List.range 1280).foldl (fun p t => p.put t (envFloorOf img t)) {} } }
  (s1.wr GKO_ENV_CRC_CRC (leNat (Cells.take img 0 1313280 4))).wr GKO_ENV_CTL_LOADED 1

/-- A good image goes into the commissioning area and the pond store (R119, R310, R335). -/
def State.envProceed (s : State) (f : Flight) : State :=
  let img := f.buf
  let before := match s.flash.env with
    | none => 0
    | some c => crcOfCells c 1313280
  let s1 := ({ s with flash := { s.flash with env := some img } }).putEnvelope img
  let s2 := { s1 with skink := { s1.skink with recheck := true } }
  let s3 := if 1 ≤ s.life.state ∧ s.life.state ≤ 4 then s2.changeBy f 5 before (crcOfCells img 1313280) else s2
  s3.complete f.id 0 0 0

/-- ENVELOPE_LOAD_DONE (R119, R333). -/
def State.envelopeLoaded (s : State) : State :=
  match s.atWork 8 with
  | none => s
  | some f =>
    if ¬ goodEnvelope f.buf then s.complete f.id 5 1 0
    else if f.gate = 2 then
      s.awaitPilot f.id (leNat (Cells.take f.buf 0 1313280 4))
    else s.envProceed f

/-! ### The check value of a pilot session (R333) -/

/-- The waiting descriptor is refused. -/
def State.pilotRefuse (s : State) (f : Flight) (crc : Nat) : State :=
  let s1 := s.dropWait f.id
  let s2 := if f.opcode = 9 then s1.setWrite none else s1
  s2.complete f.id 3 0 (if f.opcode = 5 then crc else 0)

/-- The waiting descriptor goes ahead. -/
def State.pilotGo (s : State) (f : Flight) : State :=
  let s1 := s.dropWait f.id
  if f.opcode = 5 then s1.symProceed f
  else if f.opcode = 8 then s1.envProceed f
  else
    match s1.cal.write with
    | none => s1
    | some w => s1.calProceed w f

/-- SFT_PILOT_CRC_WRITE (R333). -/
def State.pilotCrc (s : State) (v : Nat) : State :=
  match s.sft.pilotWait with
  | [] => s
  | (id, crc, _) :: _ =>
    match s.flight id with
    | none => s.dropWait id
    | some f => if v = crc then s.pilotGo f else s.pilotRefuse f crc

/-- PILOT_CONFIRM_TIMEOUT: nothing was written within 60 s (R333). -/
def State.pilotTimeout (s : State) : State :=
  match s.sft.pilotWait with
  | [] => s
  | (id, crc, t0) :: _ =>
    if s.sft.ms < t0 + 60000 then s
    else
      match s.flight id with
      | none => s.dropWait id
      | some f => s.pilotRefuse f crc

/-! ### The other opcodes -/

/-- BIST_RUN at issue (R252, R374). -/
def State.doBistRun (s : State) (f : Flight) : State :=
  let num := bitsOf (f.arg 1) 0 8
  match s.testRefusal num (f.arg64 2) false with
  | some (st, d) => s.endFlight f.id st d 0
  | none =>
    if f.arg 4 = 0 then s.endFlight f.id 5 4 0
    else (s.setFlight { f with stage := .accepted }).startTest num (f.arg64 2) (f.arg 4) (some f.id)

/-- RECORDER_READ at issue (R252, R253); ABORTED while the link is lost (R246). -/
def State.doRecorderRead (s : State) (f : Flight) : State :=
  if f.arg 2 = 0 ∨ 1152 < f.arg 2 then s.endFlight f.id 5 2 0
  else if f.arg64 3 % 32 ≠ 0 then s.endFlight f.id 5 3 0
  else if s.recorderTested then s.endFlight f.id 2 0 0
  else if s.isOn LNK_STAT_DOWN then s.endFlight f.id 8 0 0
  else s.setFlight { f with stage := .accepted }

/-- RECORDER_READ_DONE: the records still held are written to host memory (R253, R313, R361). -/
def State.recordsRead (s : State) : State :=
  match s.atWork 11 with
  | none => s
  | some f =>
    let recs := (List.range (f.arg 2)).filterMap (fun i => s.recordOf (f.arg 1 + i))
    let bytes := recs.flatMap Rec.bytes
    let s1 := s.hostWrite (f.arg64 3) ((List.range (8 * recs.length)).map (fun i => numAt bytes (4 * i) 4))
    let cause := s.sft.causeMsg.isNone && recs.any (fun r => r.number == s.rd SFT_LOCK_CAUSE_REC)
    let s2 := if cause then (s1.setSft { s1.sft with readAt := some s1.sft.ms }).wr SFT_LOCK_STAT_READ_OK 1 else s1
    s2.complete f.id 0 0 recs.length

/-- RECORDER_FREEZE (R368, R369). -/
def State.doRecorderFreeze (s : State) (f : Flight) : State :=
  if s.recorderTested then s.endFlight f.id 2 0 0
  else if bitOf (f.arg 1) 0 then
    if s.freezeRefused then s.endFlight f.id 4 0 0
    else (s.setRcd { s.rcd with frozenAt := some s.sft.ms, holdDrops := 0 }).endFlight f.id 0 0 0
  else if s.rcd.frozenAt.isNone then s.endFlight f.id 4 0 0
  else s.endFreeze.endFlight f.id 0 0 0

/-- SPACE of a CRC_RUN (R252). -/
def crcSpace (f : Flight) : Nat := bitsOf (f.arg 1) 4 2

/-- CRC_RUN at issue (R252, R253). -/
def State.doCrcRun (s : State) (f : Flight) : State :=
  let sp := crcSpace f
  let top := if sp = 1 then 0x4000000 else 0x1000000
  if sp = 3 then s.endFlight f.id 5 1 0
  else if sp = 2 ∧ f.arg 2 < 0x400000 then s.endFlight f.id 5 2 0
  else if f.arg 4 = 0 ∨ 67108864 < f.arg 4 ∨ (sp ≠ 0 ∧ top < f.arg 2 + f.arg 4) then s.endFlight f.id 5 4 0
  else if sp = 1 ∧ s.flashTested then s.endFlight f.id 2 0 0
  else
    let s1 := s.setFlight { f with stage := .accepted }
    if sp = 0 then s1.startArgs f.id (f.arg64 2) (f.arg 4) else s1

/-- The check value of a CRC_RUN over bytes bs (R253, R388). -/
def crcRunValue (f : Flight) (bs : List Nat) : Nat :=
  let a := Algo.numbered (bitsOf (f.arg 1) 0 2)
  if bitOf (f.arg 1) 8 then a.feedAll (f.arg 5 % 2 ^ a.width) bs else a.of bs

/-- CRC_RUN_DONE (R253). A check value over bytes the spec gives no contents for is a free value. -/
def State.crcRunDone (s : State) : State :=
  match s.atWork 13 with
  | none => s
  | some f =>
    let n := f.arg 4
    let bs := if crcSpace f = 0 then some (Cells.take f.buf 0 0 n)
      else bytesFrom (if crcSpace f = 1 then s.flashByte else s.pondByte) (f.arg 2) n
    match bs with
    | some l => s.complete f.id 0 0 (crcRunValue f l)
    | none =>
      let v := s.free
      v.2.complete f.id 0 0 (v.1 % 2 ^ (Algo.numbered (bitsOf (f.arg 1) 0 2)).width)

/-- STATUS_SNAPSHOT at issue (R252). -/
def State.doSnapshot (s : State) (f : Flight) : State :=
  if f.arg64 1 % 64 ≠ 0 then s.endFlight f.id 5 1 0 else s.setFlight { f with stage := .accepted }

/-- COMMIT at issue; once one has been taken the host-wait timer stops (R417). -/
def State.doCommitTaken (s : State) (f : Flight) : State :=
  let s1 := s.doCommit f
  if s1.comp.taken then s1.wr LCS_BOOT_HW_RUN 0 else s1

/-- COMMIT f waits: an earlier descriptor of its ring is not applied, which only background work can be by then (R74, R241;
log 216). -/
def State.awaitsEarlier (s : State) (f : Flight) : Bool :=
  s.ring.flights.any (fun g => g.ring == f.ring && decide (g.id < f.id) && isBackground g.opcode && !g.ended)

/-- COMMIT f, issued: taken, or refused, once every earlier descriptor of its ring is applied (R74). -/
def State.tryCommit (s : State) (f : Flight) : State := if s.awaitsEarlier f then s else s.doCommitTaken f

/-- The COMMIT of ring r that waits for earlier descriptors. -/
def State.waitingCommit (s : State) (r : Nat) : Option Flight :=
  s.ring.flights.find? (fun f => f.ring == r && f.opcode == 3 && f.stage == .working && !f.ended)

/-! ### Issue (R241, R251) -/

/-- Descriptor f is issued and does what its opcode says. -/
def State.runOpcode (s : State) (f : Flight) : State :=
  match f.opcode with
  | 1 => s.doSurfaceBind f
  | 2 => s.doLayerSet f
  | 3 => s.tryCommit f
  | 4 => s.doFadeLoad f
  | 5 => s.doSymbolLoad f
  | 6 => s.doObjectList f
  | 7 => s.doBudgetSet f
  | 8 => s.doEnvelopeLoad f
  | 9 => s.doCalUserWrite f
  | 10 => s.doBistRun f
  | 11 => s.doRecorderRead f
  | 12 => s.doRecorderFreeze f
  | 13 => s.doCrcRun f
  | 14 => s.doResume f
  | 15 => s.doSnapshot f
  | 16 => s.doEngineLoad f
  | _ => s.endFlight f.id 5 0 0

/-- Descriptor f is issued: the zero fields first, but for a SYMBOL_LOAD, whose checks have their own order (R253). -/
def State.issueOne (s : State) (f : Flight) : State :=
  let g : Flight := { f with stage := .working }
  let s1 := s.setFlight g
  if f.opcode = 5 ∨ f.opcode = 0 ∨ 16 < f.opcode then s1.runOpcode g
  else
    match g.zeroFault with
    | some w => s1.endFlight g.id 5 w 0
    | none => s1.runOpcode g

/-- The next descriptor of ring r to issue: the first fetched one, while none of the ring is held back or at work. -/
def State.issueNext (s : State) (r : Nat) : Option Flight :=
  if s.ring.flights.any (fun f => f.ring == r && !f.ended && (f.stage == .held || f.stage == .working)) then none
  else s.ring.flights.find? (fun f => f.ring == r && f.stage == .fetched && !f.ended)

/-- Descriptors of ring r are issued in slot order, at most n. -/
def State.issueRing (s : State) (r : Nat) : Nat → State
  | 0 => s
  | n + 1 =>
    match s.issueNext r with
    | none => s
    | some f => if s.holds f then s.setFlight { f with stage := .held } else (s.issueOne f).issueRing r n

/-- Ring r issues what it can; the completions written make a batch. A COMMIT that waited is taken first (R74). -/
def State.issue (s : State) (r : Nat) : State :=
  ((match s.waitingCommit r with
    | none => s
    | some f => s.tryCommit f).issueRing r 257).endBatch

/-- DESCRIPTOR_RELEASE of ring r: its held-back descriptor goes ahead once its cause has ended (R241), and so does a COMMIT
that waited for earlier descriptors (R74). -/
def State.release (s : State) (r : Nat) : State :=
  match s.ring.flights.find? (fun f => f.ring == r && f.stage == .held && !f.ended) with
  | none => if (s.waitingCommit r).isSome then s.issue r else s
  | some f => if s.holds f then s else (s.issueOne f).issue r

/-- A descriptor of opcode op has been fetched and is issued in its turn. -/
def State.takeDesc (s : State) (op : Nat) (d : Desc) : State :=
  (s.addFlight d.ring d.slot op d.rsvd d.fence d.hint d.cookie d.args).issue d.ring

/-! ### Host reads as they end (R239, R244, R278) -/

/-- Words as bytes (R8). -/
def wordBytes (ws : List Nat) : List Nat := ws.flatMap (leBytes 4)

/-- Every argument read of descriptor id has ended: a failed one ends it TIMEOUT (R244; in a second pass, log 227), an
immediate opcode finishes its work, an ENGINE_LOAD is checked (R94). -/
def State.argsEnded (s : State) (id : Nat) : State :=
  match s.flight id with
  | none => s
  | some f =>
    if f.todo ≠ [] ∨ f.waiting ≠ 0 ∨ f.ended then s
    else if f.failed then
      let s1 := if f.opcode = 9 then s.setWrite none else s
      (s1.endFlight id 7 0 0).issue f.ring
    else if f.opcode = 4 then (s.endFadeLoad f).issue f.ring
    else if f.opcode = 6 then (s.endObjectList f).issue f.ring
    else if f.opcode = 16 then (s.endEngineLoad f).issue f.ring
    else s

/-- Data of a load into the local area is written in place as it arrives (R253). -/
def State.writeInPlace (s : State) (f : Flight) (off : Nat) (bs : List Nat) : State :=
  if f.opcode = 5 ∧ ¬ symProgram f then
    { s with comp := { s.comp with area := Cells.putMany s.comp.area 0 (f.arg 4 + off) bs } }
  else s

/-- An argument read of descriptor id has ended: its bytes, or none where it failed. -/
def State.argRead (s : State) (id addr : Nat) (data : Option (List Nat)) : State :=
  match s.flight id with
  | none => s
  | some f =>
    let left := f.waiting - 1
    match data with
    | none => ((s.setFlight { f with waiting := left, todo := [], failed := true }).argsEnded id)
    | some bs =>
      let skip := f.base - addr
      let off := addr - f.base
      let now := bs.drop skip
      let s1 := s.setFlight { f with waiting := left, buf := Cells.putMany f.buf 0 off now }
      ((s1.writeInPlace f off now).pumpArgs 64).argsEnded id

/-- A batch of descriptors has arrived: each becomes a flight, and the write-back area follows; where the ring was disabled
meanwhile they end ABORTED (R236, R239, R245). -/
def State.descRead (s : State) (r first count : Nat) (ws : List Nat) : State :=
  let size := s.cmdSize r
  let s1 := upTo count (s.setRing r { s.ringAt r with fetching := false }) (fun a i =>
    let w := ws.drop (8 * i)
    let w0 := w.getD 0 0
    a.addFlight r ((first + i) % size) (w0 % 256) (bitsOf w0 10 6) (bitOf w0 8) (bitOf w0 9) (bitsOf w0 16 16)
      ((w.drop 1).take 7))
  let s2 := (s1.wr (RNG_CMD_CONS_INDEX r) (first + count)).writeBack
  if s2.isOn (RNG_CMD_CFG_EN r) then (s2.issue r).fetchRound
  else
    ((s2.ring.flights.foldl (fun a f => if f.ring = r ∧ ¬ f.ended ∧ f.stage = .fetched then a.endFlight f.id 8 0 0 else a)
      s2).drained r).endBatch

/-- The poll has brought the doorbell page: queued completions are written where there is room now, and descriptors are
fetched (R235, R237, R239, R243). -/
def State.pollRead (s : State) (ws : List Nat) : State :=
  ((upTo 8 (s.takeDoorbell ws) State.writeQueued).endBatch.fetchRound).pollEnded

/-- A host read has ended well, with its words. -/
def State.readDone (s : State) (u : TagUse) (ws : List Nat) : State :=
  match u.req with
  | .poll => s.pollRead ws
  | .desc r first count => s.descRead r first count ws
  | .arg id => s.argRead id u.addr (some (wordBytes ws))
  | .surf n => s.surfRead n u.addr u.words (some (wordBytes ws))

/-- A host read has failed (R62, R237, R244). -/
def State.readFailed (s : State) (u : TagUse) : State :=
  match u.req with
  | .poll => (s.bump RNG_CNT_POLL_FAIL).pollEnded
  | .desc r first _ =>
    (((s.setRing r { s.ringAt r with fetching := false }).haltRing r 2).send 0x09E 0x02 (r + 16 * (first % s.cmdSize r))).drained r
  | .arg id => s.argRead id u.addr none
  | .surf n => s.surfRead n u.addr u.words none

/-- A tag has become free: argument reads, fetch rounds and surface reads that waited for one go on (R239, R240). -/
def State.tagFreed (s : State) : State := ((s.pumpArgs 64).fetchMore).pumpSurf 256

/-- A malformed packet (R274): type and TAG or CODE. -/
def State.malformed (s : State) (type code : Nat) : State :=
  (s.bump LNK_PROTO_MALFORMED).send 0x091 0x01 (type + 256 * code)

/-- A tag the packet names is in use; otherwise the packet is late or malformed (R278). -/
def State.strayTag (s : State) (type t : Nat) : State :=
  if s.link.quarantine.contains t then s.bump LNK_TAGS_LATE else s.malformed type t

/-- HOST_READ_COMPLETION: a CPL for tag t with words ws at word offset off (R274, R278). -/
def State.cplArrives (s : State) (t off : Nat) (last : Bool) (ws : List Nat) : State :=
  match s.link.tags.find? (fun u => u.tag == t) with
  | none => s.strayTag 2 t
  | some u =>
    if ws = [] ∨ 64 < ws.length ∨ u.words < off + ws.length then s.malformed 2 t
    else
      let got := Cells.putMany u.got 0 off (ws.map (· + 1))
      let u' : TagUse := { u with got := got }
      if ¬ last then
        { s with link := { s.link with tags := s.link.tags.map (fun x => if x.tag = t then u' else x) } }
      else
        let s1 := s.freeTagUse t false
        (if got.length = u.words then s1.readDone u (got.map (fun c => c.2 - 1)) else s1.readFailed u).tagFreed

/-- HOST_READ_ERROR: a CPLE for tag t (R244, R278). -/
def State.cpleArrives (s : State) (t : Nat) : State :=
  match s.link.tags.find? (fun u => u.tag == t) with
  | none => s.strayTag 3 t
  | some u => ((s.freeTagUse t false).readFailed u).tagFreed

/-- HOST_READ_TIMEOUT: the read under tag t is given up (R244, R278). -/
def State.readTimeout (s : State) (t : Nat) : State :=
  match s.link.tags.find? (fun u => u.tag == t) with
  | none => s
  | some u => if u.req.byRings then ((s.freeTagUse t true).readFailed u).tagFreed else s

/-- TAG_QUARANTINE_END (R278). -/
def State.quarantineEnd (s : State) (t : Nat) : State :=
  ({ s with link := { s.link with quarantine := s.link.quarantine.filter (fun q => q != t) } }).tagFreed

/-- The event entries among packets (R250): single entries written into the event ring. -/
def State.eventWrites (s : State) (l : List UpPacket) : Nat :=
  let base := s.hostAddr RNG_EVT_BASE_LO_ADDR RNG_EVT_BASE_HI_ADDR
  l.countP (fun p => match p with
    | .write a w => w.length == 4 && decide (base ≤ a) && decide (a < base + 16 * s.evtSize)
    | _ => false)

/-- What the rings do at LINK_DOWN (R246): descriptors that wait on host reads, and a RECORDER_READ, end ABORTED; every
read is given up, its tag quarantined; every ring halts, the event ring among them; event entries that were not delivered are
dropped events. Descriptors behind an aborted one that do not depend on the host run on (R245). -/
def State.linkDownRings (s : State) : State :=
  let s1 := s.ring.flights.foldl (fun a f =>
    if ¬ f.ended ∧ (f.todo ≠ [] ∨ f.waiting ≠ 0 ∨ (f.opcode = 11 ∧ f.stage = .accepted)) then
      (if f.opcode = 9 then a.setWrite none else a).endFlight f.id 8 0 0
    else a) s
  let s2 := s1.link.tags.foldl (fun a u =>
    let b := a.freeTagUse u.tag true
    match u.req with
    | .surf n => b.surfRead n u.addr u.words none
    | .desc r _ _ => b.setRing r { b.ringAt r with fetching := false }
    | _ => b) s1
  let s3 := upTo 8 s2 (fun a r =>
    let b := a.ringAt r
    let c := b.queue.foldl (fun a q => (a.dropFlight q.id).drained q.ring) a
    (((c.setRing r { b with queue := [], fetching := false }).wr (RNG_CMD_STAT_CPL_FULL r) 0).drained r).haltRing r 3)
  let s4 := s3.loseEvents (s3.eventWrites (s3.link.upQueue ++ s3.link.unacked.map (fun u => u.2)))
  let s5 : State := { s4 with ring := { s4.ring with
    polling := false, pollAgain := false, tagWait := false, batch := 0, hintDue := false
    evtHalted := s4.ring.evtHalted || s4.isOn RNG_EVT_CFG_EN } }
  upTo 8 s5 State.issue

/-! ### STATUS_SNAPSHOT (R254) -/

/-- Four-byte words of a list of bytes. -/
def bytesWords (bs : List Nat) : List Nat := (List.range (bs.length / 4)).map (fun i => numAt bs (4 * i) 4)

/-- LIMP_N is asserted (R300). -/
def State.limpAsserted (s : State) : Bool := !s.sft.limpHigh

/-- Byte 21 of a snapshot, and the flags of R287 and R295: HBP, LBF, TWIN_OK. -/
def State.safetyFlags (s : State) : Nat :=
  flag s.gko.permit + 2 * s.rd SFT_INPUTS_LBF + 4 * flag (s.rd SFT_TWIN_STAT_STATE == 0)

/-- The fingerprint and epoch shown for system index i. -/
def State.peerFp (s : State) (i : Nat) : Nat := if i = s.ownIdx then s.rd SFT_FP_FP else (s.peer i).fp
def State.peerEpoch (s : State) (i : Nat) : Nat :=
  if i = s.ownIdx then s.rd SFT_COMM_EPOCH_EPOCH else if s.present i then (s.peer i).epoch else 0

/-- Bytes 0–123 of a snapshot. -/
def State.snapshotBytes (s : State) : List Nat :=
  let l0 := decide (s.rd LNK_STAT_STATE = 4)
  leBytes 8 s.tick.count ++ leBytes 4 (s.rd SFT_FP_FP) ++ leBytes 4 (s.rd SFT_COMM_EPOCH_EPOCH) ++
  leBytes 4 (s.rd CMP_EPOCH_ACTIVE_EPOCH) ++
  [s.life.state + 8 * s.rd SFT_MODE_MODE + 32 * s.source,
    s.safetyFlags + 8 * s.rd GKO_TB_STAT_STATE,
    s.rd TCK_SYNC_STAT_STATE + 16 * s.presentMask,
    s.rd FLT_STAT_MAXSEV] ++
  leBytes 4 (s.rd REC_MINUTES_MINUTES) ++ leBytes 4 (s.rd REC_CYCLES_CYCLES) ++ leBytes 4 (s.rcd.next - 1) ++
  leBytes 2 (s.rd FLT_STAT_UNACKED) ++ [s.rd TCK_OVR_CONSEC, 0] ++ leBytes 2 (s.rd TCK_SLACK_LAST_US) ++
  leBytes 2 (s.rd (SAL_DIE_PWR_PRED 0)) ++ leBytes 2 (s.rd (SAL_DIE_PWR_PRED 1)) ++ leBytes 2 (s.rd SAL_DRV_PRED_MW) ++
  leBytes 2 (s.rd THM_SUMMARY_SINK_T) ++ leBytes 2 (s.rd THM_SUMMARY_DRV_T) ++
  [s.rd SAL_STAT_CLASS_RED + 16 * (s.rd SAL_STAT_EMERG_A + 2 * s.rd SAL_STAT_EMERG_B + 4 * s.rd SAL_STAT_EMERG_PKG) +
      128 * s.rd SAL_GRANT_SYM, 0] ++
  leBytes 2 s.allDegraded ++ leBytes 4 s.allDead ++ leBytes 4 (s.rd GKO_LIST_LIST_ID) ++
  leBytes 4 (s.word GKO_LIST_STAT_HOST.off) ++
  [(if l0 then s.rd LNK_STAT_DL_ACTIVE + 16 * s.rd LNK_STAT_UL_ACTIVE else 0) + 64 * s.rd LNK_STAT_RATE, 0, 0, 0] ++
  (List.range 4).flatMap (fun i => leBytes 4 (s.peerFp i)) ++ (List.range 4).flatMap (fun i => leBytes 4 (s.peerEpoch i)) ++
  List.replicate 20 0

/-- STATUS_SNAPSHOT_WRITE at a boundary, after its transfers (R253, R254). -/
def State.takeSnapshots (s : State) : State :=
  s.ring.flights.foldl (fun a f =>
    if f.opcode = 15 ∧ f.stage = .accepted ∧ ¬ f.ended then
      let bs := a.snapshotBytes
      (a.hostWrite (f.arg64 1) (bytesWords (bs ++ leBytes 4 (crc32c bs)))).endFlight f.id 0 0 (a.rd SFT_FP_FP)
    else a) s

end Sys2Proof.Machine
end

