-- ==== Sys2Proof/Machine/Can.lean ====
section
/-! DEFINITION. The CAN FD controller: safety blocks (R293), limp commands (R294), the status frame (R295), error states
(R290, R296). -/

namespace Sys2Proof.Machine

def State.setCan (s : State) (x : CanBlock) : State := { s with can := x }

/-- CAN_CTL.MODE; 3 acts as 0 (R299). -/
def State.canMode (s : State) : Nat := if s.rd CAN_CTL_MODE = 3 then 0 else s.rd CAN_CTL_MODE

/-- The controller takes part on the bus: error active or passive (R296). -/
def State.canOn (s : State) : Bool := s.rd CAN_STAT_STATE == 0 || s.rd CAN_STAT_STATE == 1

/-- The error counters (R296), which stop at all ones and say so (R355, R356). REC shows up to 127. -/
def State.canCount (s : State) (tec rec' : Nat) : State :=
  ((s.setCan { s.can with recs := rec' }).wrCount CAN_STAT_TEC tec).wrCount CAN_STAT_REC rec'

/-- A mode set in CAN_CTL comes into effect: the controller starts error active, or is off (R290, R299). -/
def State.canModeSet (s : State) : State :=
  if s.canMode = 0 then s.wr CAN_STAT_STATE 3
  else if s.rd CAN_STAT_STATE = 3 then (s.wr CAN_STAT_STATE 0).canCount 0 0
  else s

/-- The assembly in progress, if any, is discarded (R293). -/
def State.dropAsm (s : State) : State :=
  if s.can.asm.isSome then (s.setCan { s.can with asm := none }).bump CAN_ERRCNT_ASM_DISCARD else s

/-- COPY_FORMAT of the CAN copy (R293, R297). -/
def State.canFormat (s : State) (seq8 : Nat) : State := (s.dropAsm.bump CAN_RXCNT_FORMAT).send 0x0A0 0x04 seq8

/-- Length of the block whose first bytes are bs (R283). -/
def blockLen (bs : List Nat) : Nat := 12 + 8 * (byteAt bs 3 % 32)

/-- The last part of a block has arrived: its length must agree with LAST (R293), then R283 applies. -/
def State.canBlock (s : State) (a : CanAsm) : State :=
  let s1 := s.setCan { s.can with asm := none }
  let n := blockLen a.bytes
  if ceilDiv n 62 ≠ a.last + 1 ∨ a.bytes.length < n then (s.setCan { s.can with asm := some a }).canFormat a.seq8
  else
    let bs := a.bytes.take n
    if badBlock bs then (s1.bump CAN_RXCNT_FORMAT).takeBlock 1 bs
    else if bitOf (byteAt bs 4) s1.ownIdx then ((s1.bump CAN_RXCNT_COPIES).wr CAN_LAST_SEQ (numAt bs 0 2)).takeBlock 1 bs
    else s1

/-- A frame under CAN_ID_SAFE, FD or classical, its data bytes (R293). -/
def State.canSafety (s : State) (fd : Bool) (data : List Nat) : State :=
  let part := byteAt data 0 % 4
  let last := bitsOf (byteAt data 0) 2 2
  let seq8 := byteAt data 1
  if ¬ fd then s.canFormat seq8
  else if part = 0 then
    let s1 := s.dropAsm
    let a : CanAsm := ⟨last, seq8, 1, data.drop 2⟩
    if last = 0 then s1.canBlock a else s1.setCan { s1.can with asm := some a }
  else
    match s.can.asm with
    | none => s.canFormat seq8
    | some a =>
      if a.next ≠ part ∨ a.seq8 ≠ seq8 ∨ a.last ≠ last then s.canFormat seq8
      else
        let b : CanAsm := { a with next := part + 1, bytes := a.bytes ++ data.drop 2 }
        if part = last then s.canBlock b else s.setCan { s.can with asm := some b }

/-- The identifier of CAN_ID_SAFE 0, CAN_ID_LIMP 1, CAN_ID_STAT 2: 11 bits of it without IDE (R292, R299). -/
def State.canId (s : State) (i : Nat) : Nat :=
  if s.isOn (CAN_ID_IDE i) then s.rd (CAN_ID_ID i) else s.rd (CAN_ID_ID i) % 2048

/-- The frame is under that identifier, in its format. -/
def State.canUnder (s : State) (i : Nat) (f : CanFrame) : Bool := f.id == s.canId i && f.ide == s.isOn (CAN_ID_IDE i)

/-- The 8 bytes of the status frame (R295). -/
def State.statusFrame (s : State) : List Nat :=
  let up := decide (s.rd LNK_STAT_STATE = 4)
  let bs := [s.ownIdx + 4 * s.rd SFT_MODE_MODE + 16 * s.rd FLT_STAT_MAXSEV,
    s.safetyFlags + 8 * flag up + 16 * flag s.limpAsserted] ++ leBytes 4 (s.rd SFT_FP_FP) ++ [s.tick.count % 256]
  bs ++ [Algo.of .crc8 bs]

/-- The classical frame that carries it, under CAN_ID_STAT (R292, R295). -/
def State.statusCan (s : State) : CanFrame :=
  { id := s.canId 2, ide := s.isOn (CAN_ID_IDE 2), data := s.statusFrame }

/-- A status frame falls due; one not sent yet is replaced (R295). A controller that does not send queues none. -/
def State.queueStatus (s : State) : State :=
  if s.canMode = 1 then s.setCan { s.can with status := some s.statusCan } else s

/-- A limp command with at least 8 data bytes is well formed (R294). -/
def limpOk (seen : Option Nat) (bs : List Nat) : Bool :=
  decide (8 ≤ bs.length) && Algo.of .crc8 (bs.take 7) == byteAt bs 7 && numAt bs 4 3 == 0 &&
    seen != some (numAt bs 2 2) && (byteAt bs 0 == 1 || byteAt bs 0 == 2)

/-- A limp command is accepted for this module, or discarded and counted: CMD 1 asks for the status frame, CMD 2 for the
fallback, which the island takes as a demand (R294, R320, R337). -/
def State.limpCommand (s : State) (bs : List Nat) : State :=
  if ¬ limpOk s.can.limpSeen bs then s.bump CAN_ERRCNT_IGNORED
  else if ¬ bitOf (byteAt bs 1) s.ownIdx then s
  else
    let s1 := (s.setCan { s.can with limpSeen := some (numAt bs 2 2) }).wr CAN_LAST_COUNTER (numAt bs 2 2)
    if byteAt bs 0 = 1 then s1.queueStatus else s1.demand 0x0D4 0x01 4

/-! ### The bus (R290, R292, R296) -/

/-- The controller goes bus-off (R296). -/
def State.busOff (s : State) : State :=
  if s.canOn then
    (((s.dropAsm.wr CAN_STAT_STATE 2).wrCount CAN_STAT_TEC 255).bump CAN_ERRCNT_BUS_OFF).send 0x0A0 0x02 0
  else s

/-- CAN_ERROR_PASSIVE: an error counter has passed 127 (R296). -/
def State.errorPassive (s : State) (tec rec' : Nat) : State :=
  if s.rd CAN_STAT_STATE = 0 then ((s.wr CAN_STAT_STATE 1).canCount tec rec').send 0x0A0 0x01 (min 255 tec) else s

/-- n errors are counted, each by 8 while the device sends, else by 1; the controller is error passive before it is bus-off
(R296, ISO 11898-1). -/
def State.canErrors (s : State) (sending : Bool) (n : Nat) : State :=
  let tec := s.rd CAN_STAT_TEC + (if sending then 8 * n else 0)
  let rec' := s.can.recs + (if sending then 0 else n)
  let at' := if sending && decide (s.rd CAN_STAT_TEC < 128) then s.rd CAN_STAT_TEC + 8 * ((135 - s.rd CAN_STAT_TEC) / 8)
    else s.rd CAN_STAT_TEC
  let s1 := if (127 < tec ∨ 127 < rec') ∧ s.rd CAN_STAT_STATE = 0 then s.errorPassive at' rec' else s
  if 255 < tec then s1.busOff else s1.canCount tec rec'

/-- Both counters at 127 or below end error passive (R296, ISO 11898-1). -/
def State.canActive (s : State) : State :=
  if s.rd CAN_STAT_STATE = 1 ∧ s.rd CAN_STAT_TEC < 128 ∧ s.can.recs < 128 then s.wr CAN_STAT_STATE 0 else s

/-- A frame has been received without error: REC falls by 1, or from above 127 to a value of 119–127 the standard leaves
open (R296, ISO 11898-1). -/
def State.canHeard (s : State) : State :=
  if 127 < s.can.recs then
    let v := s.free
    (v.2.canCount (v.2.rd CAN_STAT_TEC) (119 + v.1 % 9)).canActive
  else (s.canCount (s.rd CAN_STAT_TEC) (s.can.recs - 1)).canActive

/-- A frame leaves the receive buffer: a safety part or a limp command (R292–R294). -/
def State.canTake (s : State) (f : CanFrame) : State :=
  if s.canUnder 0 f then s.canSafety f.fd f.data else if s.canUnder 1 f then s.limpCommand f.data else s

/-- The receive buffer is emptied in order (R296). -/
def State.canDrain (s : State) : State := s.can.rx.foldl State.canTake (s.setCan { s.can with rx := [] })

/-- A frame goes into the receive buffer of 16, or is lost: RX_OVERRUN once per run (R296). -/
def State.canBuffer (s : State) (f : CanFrame) : State :=
  if s.can.rx.length < 16 then s.setCan { s.can with rx := s.can.rx ++ [f], overRun := false }
  else
    let s1 := s.bump CAN_ERRCNT_OVERRUN
    if s1.can.overRun then s1 else (s1.setCan { s1.can with overRun := true }).send 0x0A0 0x03 0

/-- A frame on the bus: under CAN_ID_SAFE or CAN_ID_LIMP it is accepted, other traffic ignored (R292). While the device is
busy, frames stay in the buffer (R296). -/
def State.canReceive (s : State) (f : CanFrame) (busy : Bool) : State :=
  if ¬ s.canOn then s
  else
    let s1 := s.canErrors false f.errs
    if ¬ s1.canOn then s1
    else
      let s2 := s1.canHeard
      let s3 := if s2.canUnder 0 f ∨ s2.canUnder 1 f then s2.canBuffer f else s2
      if busy then s3 else s3.canDrain

/-- CAN_REMOTE_FRAME (R290). -/
def State.remoteFrame (s : State) (errs : Nat) : State :=
  if s.canOn then ((s.canErrors false errs).canHeard).bump CAN_ERRCNT_IGNORED else s

/-- CAN_ASSEMBLY_TIMEOUT: 2 ms after part 0 (R293). -/
def State.canAsmTimeout (s : State) : State := s.canDrain.dropAsm

/-- CAN_STATUS_PERIOD: PERIOD_TICKS boundaries since the last one (R295). -/
def State.statusPeriod (s : State) : State :=
  if s.rd CAN_STAT_CFG_PERIOD_TICKS ≠ 0 ∧ s.rd CAN_STAT_CFG_PERIOD_TICKS ≤ s.can.statTicks then
    (s.setCan { s.can with statTicks := 0 }).queueStatus
  else s

/-- CAN_FRAME_SENT: the queued frame is out after errs failed attempts, at the given measured transmitter delay (R295, R296,
R299). A controller that has gone bus-off meanwhile has sent nothing. -/
def State.frameSent (s : State) (tdcv errs : Nat) : State :=
  if s.can.status.isNone ∨ ¬ s.canOn then s
  else
    let s0 := s.canErrors true errs
    if ¬ s0.canOn then s0
    else
      let s1 := (s0.setCan { s0.can with status := none }).canCount (s0.rd CAN_STAT_TEC - 1) s0.can.recs
      (if s1.isOn CAN_CTL_TDC_EN then s1.wr CAN_STAT_TDCV (min 255 tdcv) else s1).canActive

/-- CAN_BUS_OFF_RECOVERY: 128 × 11 recessive bits (R296). -/
def State.busOffRecovery (s : State) : State :=
  if s.rd CAN_STAT_STATE = 2 ∧ s.isOn CAN_CTL_AUTO_RECOVER then
    (s.wr CAN_STAT_STATE 0).canCount 0 0
  else s

end Sys2Proof.Machine
end

