-- ==== Sys2Proof/Machine/Link.lean ====
section
/-! DEFINITION. The Pelzon link: training and its states (R261–R270), power states (R271, R272, R448), sending,
acknowledgement and credits (R274, R276, R277), the latency echo (R281, R282), lane recalibration (R226). -/

namespace Sys2Proof.Machine

def State.setLink (s : State) (x : LinkBlock) : State := { s with link := x }

/-- Lanes 0–3 that p holds of. -/
def dlLanes (p : Nat → Bool) : List Nat := (List.range 4).filter p

/-- A set of lanes as a bit mask. -/
def laneMask (l : List Nat) : Nat := (l.map (fun i => 2 ^ i)).sum

/-- The link's training state (R298). -/
def State.linkState (s : State) : Nat := s.rd LNK_STAT_STATE

/-! ### Sending (R273–R277) -/

/-- Credit class of a packet: 0 posted, 1 non-posted, 2 completion (R276). -/
def packetClass : UpPacket → Nat
  | .write _ _ => 0 | .msg _ _ => 0 | .read _ _ _ => 1 | .cpl _ _ _ _ => 2 | .cple _ _ => 2

/-- Payload words of a packet (R273). -/
def packetPayload : UpPacket → Nat
  | .write _ w => w.length | .msg _ w => w.length | .read _ _ _ => 0 | .cpl _ _ _ w => w.length | .cple _ _ => 0

/-- Bytes of a packet on the wire (R273). -/
def packetSize (p : UpPacket) : Nat := 20 + 4 * packetPayload p

/-- The credit counters a packet draws on: header and data, with what it needs of each (R276). -/
def packetNeeds (p : UpPacket) : List (Nat × Nat) :=
  let d := ceilDiv (4 * packetPayload p) 16
  match packetClass p with
  | 0 => [(0, 1), (1, d)]
  | 1 => [(2, 1)]
  | _ => [(3, 1), (4, d)]

/-- Grants count modulo 256 for headers and 4,096 for data (R276). -/
def creditMod (i : Nat) : Nat := if i = 1 ∨ i = 4 then 4096 else 256

/-- There is credit for the packet. -/
def LinkBlock.credit (x : LinkBlock) (p : UpPacket) : Bool :=
  x.inf.getD (packetClass p) false ||
  (packetNeeds p).all (fun n =>
    let m := creditMod n.1
    decide (n.2 ≤ (x.granted.getD n.1 0 + m - x.used.getD n.1 0 % m) % m))

/-- Credit used by a packet. -/
def LinkBlock.draw (x : LinkBlock) (p : UpPacket) : LinkBlock :=
  if x.inf.getD (packetClass p) false then x
  else (packetNeeds p).foldl (fun y n => { y with used := y.used.set n.1 ((y.used.getD n.1 0 + n.2) % creditMod n.1) }) x

/-- The packet at the front is sent, where there is credit for it and room in the 16 KiB replay buffer (R276, R277). -/
def LinkBlock.sendOne (x : LinkBlock) : LinkBlock :=
  match x.upQueue with
  | [] => x
  | p :: rest =>
    if x.credit p ∧ (x.unacked.map (fun u => packetSize u.2)).sum + packetSize p ≤ 16384 then
      { x.draw p with upQueue := rest, unacked := x.unacked ++ [(x.seq, p)], seq := (x.seq + 1) % 4096 }
    else x

/-- Packets are sent while the uplink carries data (R271, R276). -/
def State.pump (s : State) : State :=
  if s.linkState = 4 ∧ ¬ s.isOn LNK_STAT_UL_L1 then
    s.setLink (s.link.upQueue.foldl (fun x _ => x.sendOne) s.link)
  else s

/-! ### Leaving L0 -/

/-- The downlink leaves L1: what its lanes measure is lost (R226). -/
def State.leaveL1 (s : State) : State :=
  s.link.recal.foldl (fun a l => a.bump (CAL_LANE_OFS_ABANDONED l)) (s.setLink { s.link with recal := [] })

/-- No lane carries data (R298). -/
def State.noData (s : State) : State := (s.wr LNK_STAT_DL_ACTIVE 0).wr LNK_STAT_UL_ACTIVE 0

/-- The link goes into RECOVERY (R267): why 0 loss of signal, 1 loss of lock, 2 replay limit, 3 RETRAIN. -/
def State.enterRecovery (s : State) (why : Nat) : State :=
  (((((s.leaveL1.noData.wr LNK_STAT_STATE 5).wr LNK_STAT_UL_L1 0).wr LNK_STAT_DL_L1 0).bump LNK_CNT_RECOVERIES).send
    0x090 0x04 why)

/-- The PHY default of a lane (R206, R265): the factory record's, or the generic setting where it failed. -/
def State.phyDefault (s : State) (lane field : Nat) : Nat :=
  match (if s.cal.bad.contains 9 then none else s.flash.factory.getD 9 none) with
  | none => Config.phyGeneric field
  | some c => Config.phyDefault (Cells.take c 0 0 1024) lane field

/-- The downlink receivers start from their PHY defaults (R265). -/
def State.phyStart (s : State) : State :=
  upTo 4 s (fun a l => (a.wr (LNK_DL_CTLE l) (a.phyDefault l 2)).wr (LNK_DFE_TAP l) (a.phyDefault l 3))

/-- What an attempt has learnt is forgotten; training runs at 2.5 Gb/s and carries no data (R267, R298). -/
def State.freshTraining (s : State) : State :=
  ((s.setLink { s.link with ts1 := [], ts2 := none, echoed := false, echoId := none, credited := false, l2Exit := false }).wr
    LNK_STAT_RATE 0).noData

/-- An attempt starts in DETECT, its receivers at their PHY defaults; a DL lane that has signal takes it to POLL (R265,
R267). -/
def State.startAttempt (s : State) (n : Nat) : State :=
  let s1 := s.freshTraining.phyStart.wr LNK_STAT_ATTEMPT n
  s1.wr LNK_STAT_STATE (flag (s.isOn LNK_CTL_EN && (dlLanes (fun l => !s.isOn (LNK_DL_LOS l))) != []))

/-- The highest common rate (R267); none where the host lists none the device may use. -/
def State.chosenRate (s : State) : Option Nat :=
  ((List.range 4).reverse).find? (fun r => bitOf s.link.rates r && decide (r ≤ s.rd LNK_CTL_MAX_RATE) &&
    (match s.link.cap with
      | none => true
      | some c => decide (r ≤ c)))

/-- The attempt fails (R267); in RATE it sets the step-down cap (R268). -/
def State.failAttempt (s : State) : State :=
  let st := s.linkState
  let s1 :=
    if st = 2 then (s.setLink { s.link with failState := st, cap := some (s.chosenRate.getD 0 - 1) }).wr LNK_STAT_RATE_CAPPED 1
    else s.setLink { s.link with failState := st }
  s1.freshTraining.wr LNK_STAT_STATE 7

/-- No DL lane holds block lock: the host-loss timer starts in L0 and RECOVERY; electrical idle in L1 does not start it
(R270). -/
def State.lossWatch (s : State) : State :=
  let none' := (dlLanes (fun l => s.isOn (LNK_DL_LOCK l))).isEmpty
  if none' ∧ (s.linkState = 4 ∨ s.linkState = 5) ∧ ¬ s.isOn LNK_STAT_DL_L1 then
    s.setLink { s.link with hostLoss := true }
  else s

/-! ### Lane events (R259, R261, R266) -/

/-- The loss-of-signal detector may report loss at an amplitude of mv mV: never above 175 mV (R433). -/
def mayBeLost (mv : Nat) : Bool := decide (mv ≤ 175)

/-- The loss-of-signal detector may report a signal at an amplitude of mv mV: never below 65 mV (R433). -/
def mayBeThere (mv : Nat) : Bool := decide (65 ≤ mv)

/-- LANE_SIGNAL_DETECT: lanes 0–3 DL, 4 SL_RX, the amplitude at mv mV (R266, R267). -/
def State.signalDetect (s : State) (l mv : Nat) : State :=
  if ¬ mayBeThere mv then s
  else if l = 4 then s.wr LNK_SL_STAT_LOS 0
  else
    let s1 := s.wr (LNK_DL_LOS l) 0
    if s1.linkState = 0 ∧ s1.isOn LNK_CTL_EN then
      (if s1.rd LNK_STAT_ATTEMPT = 0 then s1.wr LNK_STAT_ATTEMPT 1 else s1).wr LNK_STAT_STATE 1
    else s1

/-- LANE_LOSS_OF_SIGNAL of DL l, its amplitude at mv mV (R266, R267). Electrical idle in L1 and L2 is none. -/
def State.signalLost (s : State) (l mv : Nat) : State :=
  if ¬ mayBeLost mv ∨ s.isOn LNK_STAT_DL_L1 ∨ s.linkState = 6 ∨ s.isOn (LNK_DL_LOS l) then s
  else
    let s1 := ((((s.wr (LNK_DL_LOS l) 1).wr (LNK_DL_LOCK l) 0).bump LNK_LANECNT_LOS).send (0x080 + l) 0x01 0).lossWatch
    let st := s1.linkState
    if st = 4 ∧ bitOf (s1.rd LNK_STAT_DL_ACTIVE) l then (s1.enterRecovery 0).lossWatch
    else if (st = 1 ∨ st = 2 ∨ st = 3) ∧ (dlLanes (fun k => !s1.isOn (LNK_DL_LOS k))).isEmpty then s1.failAttempt
    else s1

/-- BLOCK_LOCK_ACQUIRED: lanes 0–3 DL, 4 SL_RX; polarity and deskew as the lane found them (R259, R261, R262). -/
def State.lockAcquired (s : State) (l : Nat) (inverted : Bool) (deskew : Nat) : State :=
  if l = 4 then s.wr LNK_SL_STAT_LOCK 1
  else
    (((s.setLink { s.link with hostLoss := false }).wr (LNK_DL_LOCK l) 1).wr (LNK_DL_INVERTED l) (flag inverted)).wr
      (LNK_DL_DESKEW_UI l) (min 127 deskew)

/-- BLOCK_LOCK_LOST of DL l (R261, R266, R267). -/
def State.lockLost (s : State) (l : Nat) : State :=
  if ¬ s.isOn (LNK_DL_LOCK l) then s
  else
    let s1 := (((s.wr (LNK_DL_LOCK l) 0).bump LNK_LANECNT_LOL).send (0x080 + l) 0x02 0).lossWatch
    if s1.linkState = 4 ∧ bitOf (s1.rd LNK_STAT_DL_ACTIVE) l then (s1.enterRecovery 1).lossWatch else s1

/-! ### Training (R264, R267–R270) -/

/-- Fill bytes of a control block from byte i on (R264). -/
def fillOk (bs : List Nat) (i v : Nat) : Bool := (bs.drop i).all (fun b => b == v)

/-- A TS1, TS2 or SKP block, by its fill bytes (R264). -/
def trainingOk (bs : List Nat) : Bool :=
  (byteAt bs 0 == 0x1E && fillOk bs 5 0x4A) || (byteAt bs 0 == 0x2D && fillOk bs 6 0x45) || (byteAt bs 0 == 0x33 && fillOk bs 1 0xAA)

/-- A control block that breaks R264 is discarded and counted. -/
def State.countBad (s : State) (ok : Bool) : State := if ok then s else s.bump LNK_PROTO_MALFORMED

/-- TRAINING_BLOCK: two consecutive blocks of 16 bytes on lane l (R264). A TS1 or TS2 is used where both are the same. -/
def State.trainingBlock (s : State) (l : Nat) (bs second : List Nat) : State :=
  let b (i : Nat) : Nat := byteAt bs i
  let s1 := (s.countBad (trainingOk bs)).countBad (trainingOk second)
  if bs ≠ second ∨ ¬ trainingOk bs then s1
  else if b 0 = 0x1E then
    s1.setLink { s1.link with
      rates := b 2 % 16, hostLocked := b 4
      ts1 := if s1.link.ts1.contains l then s1.link.ts1 else s1.link.ts1 ++ [l] }
  else if b 0 = 0x2D then s1.setLink { s1.link with hostLocked := b 4, ts2 := some (b 2 % 16, b 3, b 5) }
  else s1

/-- The copy of an LLC, PM or ECHO block that is used: the first in lane order whose CRC holds (R264). -/
def goodCopy (copies : List (List Nat)) : Option (List Nat) :=
  copies.find? (fun bs => Algo.of .crc16 (bs.take 14) == numAt bs 14 2)

/-- A control block of this type arrives: act on the copy that is used. -/
def State.controlBlock (s : State) (type : Nat) (copies : List (List Nat)) (act : List Nat → State → State) : State :=
  match goodCopy copies with
  | none => s
  | some bs => if byteAt bs 0 = type then act bs s else s.countBad false

/-- The largest of 4, 2 and 1 that exceeds neither limit; 0 where none does (R269). -/
def widthOf (a b : Nat) : Nat :=
  if 4 ≤ a ∧ 4 ≤ b then 4 else if 2 ≤ a ∧ 2 ≤ b then 2 else if 1 ≤ a ∧ 1 ≤ b then 1 else 0

/-- Downlink lanes that count as locked: lock, at most 64 UI of deskew, not under LANE_LOOP (R262, R381). -/
def State.dlLocked (s : State) : List Nat :=
  dlLanes (fun l => s.isOn (LNK_DL_LOCK l) && decide (s.rd (LNK_DL_DESKEW_UI l) ≤ 64) && !s.laneTested l)

/-- Uplink lanes the host holds lock on. -/
def State.ulLocked (s : State) : List Nat := (List.range 2).filter (fun u => bitOf s.link.hostLocked u)

/-- MAX_WIDTH in lanes; 3 acts as 2 (R298). -/
def State.maxWidth (s : State) : Nat := if s.rd LNK_CTL_MAX_WIDTH = 0 then 1 else if s.rd LNK_CTL_MAX_WIDTH = 1 then 2 else 4

/-- Active lanes of the downlink and of the uplink by R269. -/
def State.dlActive (s : State) : List Nat := s.dlLocked.take (widthOf s.maxWidth s.dlLocked.length)
def State.ulActive (s : State) : List Nat := s.ulLocked.take (widthOf 2 s.ulLocked.length)

/-- Receive lanes in block lock, as the device reports them in LOCKED (R264). -/
def State.lockedMask (s : State) : Nat := laneMask (dlLanes (fun l => s.isOn (LNK_DL_LOCK l)))

/-- The TS1 and the TS2 the device sends on UL u (R264). -/
def State.ts1Sent (s : State) (u : Nat) : List Nat :=
  [0x1E, u, 0xF, s.rd LNK_STAT_ATTEMPT % 16, s.lockedMask] ++ List.replicate 11 0x4A

def State.ts2Sent (s : State) (u : Nat) : List Nat :=
  [0x2D, u, 2 ^ s.chosenRate.getD 0, s.ulActive.length, s.lockedMask, laneMask s.ulActive] ++ List.replicate 10 0x45

/-- What UL u carries while the link trains: TS1 in DETECT, POLL and BACKOFF, TS2 in RATE and CONFIG (R267). -/
def State.trainingSent (s : State) (u : Nat) : Option (List Nat) :=
  if [0, 1, 7].contains s.linkState then some (s.ts1Sent u)
  else if s.linkState = 2 ∨ s.linkState = 3 then some (s.ts2Sent u)
  else none

/-- Lanes in use and absent are shown; report sends LANE_ABSENT for each absent lane (R269). -/
def State.putWidth (s : State) (report : Bool) : State :=
  let n := s.rd LNK_STAT_ATTEMPT
  let dlAbs := dlLanes (fun l => !s.dlLocked.contains l)
  let ulAbs := (List.range 2).filter (fun u => !s.ulLocked.contains u)
  let s1 := (((s.wr LNK_STAT_DL_ACTIVE (laneMask s.dlActive)).wr LNK_STAT_UL_ACTIVE (laneMask s.ulActive)).wr
    LNK_STAT_DL_ABSENT (laneMask dlAbs)).wr LNK_STAT_UL_ABSENT (laneMask ulAbs)
  let s2 := upTo 4 s1 (fun a l =>
    let b := a.wr (LNK_DL_ABSENT l) (flag (dlAbs.contains l))
    if report ∧ dlAbs.contains l then b.send (0x080 + l) 0x03 n else b)
  upTo 2 s2 (fun a u =>
    let b := a.wr (LNK_UL_ABSENT u) (flag (ulAbs.contains u))
    if report ∧ ulAbs.contains u then b.send (0x088 + u) 0x03 n else b)

/-- Lanes set in a mask of 4. -/
def countLanes (m : Nat) : Nat := ((List.range 4).filter (fun i => bitOf m i)).length

/-- Width and rate as LINK_DEGRADED and LINK_RESTORED carry them (R297). -/
def State.linkShape (s : State) : Nat :=
  countLanes (s.rd LNK_STAT_DL_ACTIVE) + 16 * countLanes (s.rd LNK_STAT_UL_ACTIVE) + 256 * s.rd LNK_STAT_RATE

/-- Rate r in units of 100 Mb/s. -/
def rateOf (r : Nat) : Nat := if r = 0 then 25 else if r = 1 then 50 else if r = 2 then 100 else 160

/-- LEAD_NS at uplink width w and rate r (R281). -/
def leadNs (w r : Nat) : Nat := ceilDiv ((ceilDiv 276 (16 * w) + 2) * 130 * 10) (rateOf r)

/-- UP_NS (R282), held at 0 and at the field's end. -/
def State.setUpNs (s : State) : State :=
  let u : Int := s.rd LNK_TM_LEAD_NS + ((s.rd LNK_ECHO_RTT_NS : Int) - s.rd LNK_ECHO_TURN_NS) / 2 + s.rdI LNK_TM_HOST_ADJ_NS
  s.wr GKO_TB_DLY_UP_NS (held 0 (2 ^ 20 - 1) u).toNat

/-- Every unacknowledged packet is replayed (R277). -/
def State.replay (s : State) : State :=
  if s.link.unacked = [] ∨ s.linkState ≠ 4 then s
  else if 4 ≤ s.link.replays then
    ((s.setLink { s.link with replays := 0 }).send 0x091 0x02 0).enterRecovery 2
  else (s.setLink { s.link with replays := s.link.replays + 1 }).bump LNK_ERR_REPLAYS

/-- The link enters L0 (R267, R269, R270, R281): the host-loss timer stops, a loss is over, replay continues. -/
def State.enterL0 (s : State) : State :=
  let s1 := ((s.wr LNK_STAT_STATE 4).wr LNK_STAT_ATTEMPT 0).setLink
    { s.link with everL0 := true, hostLoss := false, l2Exit := false, ts1 := [], ts2 := none, echoed := false }
  let s2 := (s1.wr LNK_TM_LEAD_NS (leadNs (max 1 (countLanes (s1.rd LNK_STAT_UL_ACTIVE))) (s1.rd LNK_STAT_RATE))).setUpNs
  let s3 := if s2.isOn LNK_STAT_DOWN then (s2.wr LNK_STAT_DOWN 0).send 0x090 0x03 s2.linkShape else s2
  let low := decide (countLanes (s3.rd LNK_STAT_DL_ACTIVE) < s3.maxWidth) || decide (countLanes (s3.rd LNK_STAT_UL_ACTIVE) < 2) ||
    decide (s3.rd LNK_STAT_RATE < s3.rd LNK_CTL_MAX_RATE)
  ((if low then s3.send 0x090 0x02 s3.linkShape else s3).replay).pump

/-- Equalisation settings in force are shown (R265). -/
def State.putEq (s : State) (eq : List LaneEq) : State :=
  eq.foldl (fun a e =>
    if e.lane < 4 then ((a.wr (LNK_DL_EYE_MV e.lane) e.eye).wr (LNK_DL_CTLE e.lane) e.ctle).wr (LNK_DFE_TAP e.lane) e.taps
    else a) s

/-- Adaptation goes on in L0; in L1 the settings are held (R265). -/
def State.adaptEq (s : State) (eq : List LaneEq) : State :=
  if s.linkState = 4 ∧ ¬ s.isOn LNK_STAT_DL_L1 then s.putEq eq else s

/-- POLL is complete (R267). -/
def State.pollPhase (s : State) : State :=
  if s.link.ts1.any (fun l => s.isOn (LNK_DL_LOCK l)) then s.wr LNK_STAT_STATE 2 else s

/-- The LLC block that tells the host what has arrived and what it may send (R264, R276, R277): 32 posted headers, 256 data
credits and 16 non-posted headers beyond what the device has taken, completions without limit. -/
def State.llcOut (s : State) : List Nat :=
  let t (i : Nat) : Nat := s.link.took.getD i 0
  let bs := [0x4B, flag s.link.nak] ++ leBytes 2 (s.link.rxSeq % 4096) ++ [(32 + t 0) % 256] ++ leBytes 2 ((256 + t 1) % 4096) ++
    [(16 + t 2) % 256, 0, 0, 0, 4, 0, 0]
  bs ++ leBytes 2 (Algo.of .crc16 bs)

/-- The device sends its LLC block (R276, R277); data blocks after it are taken again after a framing error (R273). -/
def State.sendLlc (s : State) : State := s.setLink { s.link with llcSent := s.llcOut, deaf := false }

/-- RATE is complete: the chosen rate is in use; CONFIG starts with an ECHO request under an ID the spec leaves open, and
the device grants its credit (R267, R276, R282; log 157). -/
def State.ratePhase (s : State) : State :=
  match s.chosenRate with
  | none => s
  | some r =>
    if (dlLanes (fun l => s.isOn (LNK_DL_LOCK l))) = [] then s
    else
      let v := s.free
      (((v.2.setLink { v.2.link with echoId := some (v.1 % 2 ^ 32), echoed := false, credited := false }).wr LNK_STAT_RATE r).wr
        LNK_STAT_STATE 3).sendLlc

/-- CONFIG is complete: both ends agree on rate, width and lanes, the echo is back and the host's credits are known (R267,
R269). -/
def State.configPhase (s : State) : State :=
  match s.link.ts2 with
  | none => s
  | some (rate, width, active) =>
    if ¬ s.link.echoed ∨ ¬ s.link.credited ∨ s.dlActive = [] ∨ s.ulActive = [] then s
    else if rate ≠ 2 ^ s.rd LNK_STAT_RATE ∨ width ≠ s.dlActive.length ∨ active ≠ laneMask s.dlActive then s.failAttempt
    else ((s.putWidth true).bump LNK_CNT_TRAINS).enterL0

/-- RECOVERY is complete: the width is chosen again (R267). -/
def State.recoveryPhase (s : State) : State :=
  if s.dlActive = [] ∨ s.ulActive = [] then s else (s.putWidth false).enterL0

/-- TRAINING_PHASE_DONE: the phase the link is in completes; eq are the settings training found, us the duration of an
L2 exit, shown once it has reached L0 (R265, R267, R272, R447). -/
def State.phaseDone (s : State) (us : Nat) (eq : List LaneEq) : State :=
  let s1 := if s.linkState = 4 ∨ (s.linkState = 6 ∧ ¬ s.link.l2Exit) then s else s.putEq eq
  match s1.linkState with
  | 1 => s1.pollPhase
  | 2 => s1.ratePhase
  | 3 => s1.configPhase
  | 5 => s1.recoveryPhase
  | 6 =>
    if ¬ s1.link.l2Exit ∨ s1.dlActive = [] ∨ s1.ulActive = [] then s1
    else (s1.wr LNK_PM_L2_EXIT_US (min 65535 us)).recoveryPhase
  | _ => s1

/-- TRAINING_ATTEMPT_TIMEOUT: 50 ms without L0 (R267). -/
def State.attemptTimeout (s : State) : State := if s.linkState ≤ 3 ∧ s.isOn LNK_CTL_EN then s.failAttempt else s

/-- LINK_DOWN, once per loss (R246, R270, R334, R385); st is the state the loss was found in. -/
def State.linkDown (s : State) (st : Nat) : State :=
  if s.isOn LNK_STAT_DOWN then s
  else
    let s1 := ((s.wr LNK_STAT_DOWN 1).send 0x090 0x01 st).linkDownRings
    let s2 := s1.setLink { s1.link with upQueue := [], unacked := [], replays := 0, hostLoss := false }
    (s2.cutShort 3 (fun t => t.desc.isSome)).closeSession

/-- BACKOFF_ELAPSED (R267, R270). -/
def State.backoffElapsed (s : State) : State :=
  if s.linkState ≠ 7 ∨ ¬ s.isOn LNK_CTL_EN then s
  else if s.rd LNK_STAT_ATTEMPT < 8 then s.startAttempt (s.rd LNK_STAT_ATTEMPT + 1)
  else (s.wr LNK_STAT_STATE 8).linkDown s.link.failState

/-- LINK_DOWN_RETRY: from DOWN training starts again (R267). -/
def State.downRetry (s : State) : State := if s.linkState = 8 ∧ s.isOn LNK_CTL_EN then s.startAttempt 1 else s

/-- RECOVERY_TIMEOUT: 2 ms without L0 (R267). -/
def State.recoveryTimeout (s : State) : State := if s.linkState = 5 then s.startAttempt 1 else s

/-- HOST_LOSS_TIMEOUT (R270). -/
def State.hostLossTimeout (s : State) : State :=
  if s.link.hostLoss ∧ s.link.everL0 then (s.setLink { s.link with hostLoss := false }).linkDown s.linkState else s

/-- LNK_RETRAIN: RETRAIN written (R267, R268). -/
def State.retrainLink (s : State) : State :=
  let s1 := (s.setLink { s.link with cap := none }).wr LNK_STAT_RATE_CAPPED 0
  if s1.linkState = 4 then s1.enterRecovery 3 else s1

/-- LNK_CTL has been written, EN having been `was` (R267, R298): EN set starts training, EN cleared ends training that has
not reached L0. -/
def State.linkEnabled (s : State) (was : Bool) : State :=
  if ¬ was ∧ s.isOn LNK_CTL_EN ∧ s.linkState = 0 then s.startAttempt 1
  else if ¬ s.isOn LNK_CTL_EN ∧ [1, 2, 3, 7, 8].contains s.linkState then
    (s.freshTraining.wr LNK_STAT_ATTEMPT 0).wr LNK_STAT_STATE 0
  else s

/-! ### Power states (R271, R272) -/

/-- UPLINK_L1_IDLE (R271). -/
def State.uplinkIdle (s : State) : State :=
  let s1 := s.pump
  if s1.linkState = 4 ∧ s1.link.upQueue = [] ∧ s1.rd LNK_PM_L1_IDLE_US ≠ 0 then
    (s1.wr LNK_STAT_UL_L1 1).setLink { s1.link with pmSent := 1 }
  else s1

/-- UPLINK_L1_EXIT (R271). -/
def State.uplinkExit (s : State) : State := (s.wr LNK_STAT_UL_L1 0).pump

/-- PM_L1_ENTRY: the host idles the downlink (R271). -/
def State.downlinkL1 (s : State) : State := if s.linkState = 4 then s.wr LNK_STAT_DL_L1 1 else s

/-- DOWNLINK_L1_EXIT (R226, R271). -/
def State.downlinkExit (s : State) : State := s.leaveL1.wr LNK_STAT_DL_L1 0

/-- PLL and CDR are off: no lane of either direction holds lock (R272). -/
def State.lanesOff (s : State) : State :=
  (upTo 4 (s.setLink { s.link with hostLocked := 0, ts1 := [], ts2 := none }) (fun a l => a.wr (LNK_DL_LOCK l) 0)).noData

/-- PM_L2_REQUEST: accepted while the ring engine is off and L2 allowed, else refused (R272). -/
def State.l2Request (s : State) : State :=
  if s.linkState ≠ 4 then s
  else if ¬ s.isOn RNG_CTL_EN ∧ s.isOn LNK_CTL_L2_ALLOW then
    ((((s.leaveL1).setLink { s.leaveL1.link with pmSent := 3, l2Exit := false }).lanesOff.wr LNK_STAT_STATE 6).wr LNK_STAT_UL_L1 0).wr
      LNK_STAT_DL_L1 0
  else s.setLink { s.link with pmSent := 4 }

/-- A PM block (R264): 1 the host's downlink enters L1, 2 it requests L2. -/
def State.pmBlock (s : State) (copies : List (List Nat)) : State :=
  s.controlBlock 0x55 copies (fun bs a =>
    if byteAt bs 1 = 1 then a.downlinkL1 else if byteAt bs 1 = 2 then a.l2Request else a)

/-- L2_EXIT starts (R272); its lanes train again. -/
def State.l2ExitStart (s : State) : State :=
  if s.linkState = 6 then s.setLink { s.link with l2Exit := true } else s

/-- L2_EXIT_TIMEOUT (R448). -/
def State.l2ExitTimeout (s : State) : State := if s.linkState = 6 ∧ s.link.l2Exit then s.startAttempt 1 else s

/-- L1_RECAL_START of DL l (R226). -/
def State.recalStart (s : State) (l : Nat) : State :=
  if s.isOn LNK_STAT_DL_L1 ∧ bitOf (s.rd CAL_CTL_L1_RECAL) l ∧ ¬ s.link.recal.contains l then
    s.setLink { s.link with recal := s.link.recal ++ [l] }
  else s

/-- A comparator offset that needs more than its trim range is set to the nearest end (R224). -/
def trimRange (x : Int) : Int := held (-32) 31 x

/-- A tap of lane l is at an end code, and ENDSTOP is set (R224, R228). -/
def State.tapEnd (s : State) (l : Nat) : Bool :=
  s.isOn (CAL_LANE_OFS_ENDSTOP l) && (List.range 6).any (fun k =>
    bitsOf (s.rd (CAL_LANE_TAP_TAP l)) (5 * k) 5 == 0 || bitsOf (s.rd (CAL_LANE_TAP_TAP l)) (5 * k) 5 == 31)

/-- L1_RECAL_DONE of DL l with the offsets measured, data and error comparator (R224, R226): of a lane that has left L1
nothing is left to apply. -/
def State.recalDone (s : State) (l : Nat) (data err : Int) : State :=
  if ¬ s.link.recal.contains l then s
  else
    let s1 := s.setLink { s.link with recal := s.link.recal.filter (fun r => r != l) }
    let far := [data, err].map (fun x => trimRange x != x)
    let s2 := (((s1.wrI (CAL_LANE_OFS_OFS_DATA l) (trimRange data)).wrI (CAL_LANE_OFS_OFS_ERR l) (trimRange err)).wr
      (CAL_LANE_OFS_ENDSTOP l) (flag (far.any id || s.tapEnd l))).bump (CAL_LANE_OFS_RECALS l)
    upTo 2 s2 (fun a i => if far.getD i false then a.send (0x080 + l) 0x30 i else a)

/-! ### Echo, acknowledgement, credits -/

/-- The ECHO request that is out, as UL u carries it (R264, R282). -/
def State.echoSent (s : State) : Option (List Nat) :=
  s.link.echoId.map (fun i =>
    let bs := [0x66, 0] ++ leBytes 4 i ++ List.replicate 8 0
    bs ++ leBytes 2 (Algo.of .crc16 bs))

/-- ECHO_RETURN in CONFIG: the return of the request that is out gives the host's turnaround; rtt is the round trip in ns
(R264, R282). -/
def State.echoReturn (s : State) (copies : List (List Nat)) (rtt : Nat) : State :=
  s.controlBlock 0x66 copies (fun bs a =>
    if a.linkState = 3 ∧ byteAt bs 1 = 1 ∧ a.link.echoId = some (numAt bs 2 4) then
      (((a.setLink { a.link with echoed := true, echoId := none }).wr LNK_ECHO_RTT_NS (min 65535 rtt)).wr LNK_ECHO_TURN_NS
        (min 65535 (numAt bs 6 4))).setUpNs
    else a)

/-- Packets up to SEQ seq are acknowledged (R277). -/
def State.ackTo (s : State) (seq : Nat) : State :=
  let x := s.link
  if x.unacked.any (fun u => u.1 == seq) then
    let left := (x.unacked.dropWhile (fun u => u.1 != seq)).drop 1
    s.setLink { x with unacked := left, replays := 0 }
  else s

/-- LLC_BLOCK: its copies (R264, R276, R277). -/
def State.llcBlock (s : State) (copies : List (List Nat)) : State :=
  s.controlBlock 0x4B copies (fun bs s =>
    let s1 := s.ackTo (numAt bs 2 2 % 4096)
    let inf := byteAt bs 11
    let x := { s1.link with
      granted := [byteAt bs 4, numAt bs 5 2 % 4096, byteAt bs 7, byteAt bs 8, numAt bs 9 2 % 4096]
      inf := [bitOf inf 0, bitOf inf 1, bitOf inf 2]
      credited := true }
    let s2 := (((s1.setLink x).wr LNK_CREDIT_P_HDR (if bitOf inf 0 then 0xFF else byteAt bs 4)).wr LNK_CREDIT_NP_HDR
      (if bitOf inf 1 then 0xFF else byteAt bs 7)).wr LNK_CREDIT_P_DATA (if bitOf inf 0 then 0xFFFF else numAt bs 5 2 % 4096)
    (if bitOf (byteAt bs 1) 0 then s2.replay else s2).pump)

/-- A packet of the host arrives where data is taken: intact and in order it is carried out and its credit (posted,
non-posted headers, payload words of a posted one) returned, otherwise it is discarded and the device sends a NAK;
check-value and framing errors are counted, and after a framing error data is discarded (R273, R276, R277). -/
def State.takePacket (s : State) (w : Wire) (posted nonPosted words : Nat) (act : State → State) : State :=
  match w with
  | .intact =>
    let t (i : Nat) : Nat := s.link.took.getD i 0
    (act (s.setLink { s.link with
      rxSeq := (s.link.rxSeq + 1) % 4096, nak := false
      took := [(t 0 + posted) % 256, (t 1 + ceilDiv (4 * words) 16) % 4096, (t 2 + nonPosted) % 256] })).sendLlc
  | .gap => (s.setLink { s.link with nak := true }).sendLlc
  | .crc => ((s.setLink { s.link with nak := true }).bump LNK_ERR_CRC_ERR).sendLlc
  | .framing =>
    let s1 := ((s.setLink { s.link with nak := true }).bump LNK_ERR_CRC_ERR).sendLlc
    s1.setLink { s1.link with deaf := true }

/-- A packet of the host arrives. After a framing error it is discarded, unless the device has sent its next LLC block by
then: at what instant it sends one the spec leaves open (R273, R276; log 20). -/
def State.received (s : State) (w : Wire) (posted nonPosted words : Nat) (act : State → State) : State :=
  if s.link.deaf then
    let v := s.free
    if v.1 % 2 = 0 then v.2 else v.2.sendLlc.takePacket w posted nonPosted words act
  else s.takePacket w posted nonPosted words act

/-- A packet whose header is as R274 and R280 lay down is carried out; another is malformed. -/
def State.headed (s : State) (h : Head) (type code : Nat) (act : State → State) : State :=
  match h.type with
  | some t => s.malformed t code
  | none =>
    match (if type = 4 then h.code else none) with
    | some c => s.malformed 4 c
    | none => if h.stray then s.malformed type code else act s

/-- TICK_MARK of the host: TICK_LO and H_ARR (R104, R280). -/
def State.markArrives (s : State) (words : List Nat) : State :=
  if words.length ≠ 3 then s.malformed 4 2 else s.tickMark (words.getD 0 0) (words.getD 1 0 + 2 ^ 32 * words.getD 2 0)

/-- SAFETY_COPY: the message's payload words (R280, R283). -/
def State.safetyCopy (s : State) (words : List Nat) : State :=
  let n := words.length
  if n < 3 ∨ 35 < n ∨ n % 2 = 0 then s.malformed 4 3 else s.takeBlock 0 (wordBytes words)

/-- DOORBELL_HINT: its payload word (R237, R280). -/
def State.hintArrives (s : State) (words : List Nat) : State :=
  if words.length = 1 ∧ words.getD 0 0 < 256 then s.doorbellHint (words.getD 0 0) else s.malformed 4 1

/-- HOST_READ_ERROR: ERR 1 UNSUPPORTED, 2 ABORT, 3 REFUSED (R274). -/
def State.errorArrives (s : State) (tag err : Nat) : State :=
  if err = 1 ∨ err = 2 ∨ err = 3 then s.cpleArrives tag else s.malformed 3 tag

end Sys2Proof.Machine
end

