-- ==== Sys2Proof/Machine/TestAccess.lean ====
section
/-! DEFINITION. The general check-value units, the test multiplexers and what JTAG is allowed (R388–R396). -/

namespace Sys2Proof.Machine

/-- The algorithm unit u is set to (R388). -/
def State.crcAlgo (s : State) (u : Nat) : Algo := Algo.numbered (s.rd (CRC_CTL_ALGO u))

def State.crcQueue (s : State) (u : Nat) : List (List Nat) := s.crc.queues.getD u []

def State.setCrcQueue (s : State) (u : Nat) (q : List (List Nat)) : State :=
  { s with crc := { s.crc with queues := s.crc.queues.set u q } }

/-- Bytes are folded into unit u's VALUE (R389, R390): the low bits of the algorithm's width. -/
def State.crcFold (s : State) (u : Nat) (bs : List Nat) : State :=
  let a := s.crcAlgo u
  s.wr (CRC_VALUE_VALUE u) (a.feedAll (s.rd (CRC_VALUE_VALUE u) % 2 ^ a.width) bs)

/-- Every data write that waits at unit u is folded in (R389). -/
def State.crcDrain (s : State) (u : Nat) : State :=
  ((s.crcQueue u).foldl (fun x bs => x.crcFold u bs) s).setCrcQueue u []

/-- All four units have had time to fold in what waits. -/
def State.crcDrainAll (s : State) : State := upTo 4 s (fun x u => x.crcDrain u)

/-- CRC_DATA_WRITE: n bytes of word v join the two-entry queue of unit u; a write that finds it full waits until the
oldest has been folded in (R389). -/
def State.crcData (s : State) (u n v : Nat) : State :=
  match s.crcQueue u with
  | a :: b :: rest => (s.crcFold u a).setCrcQueue u (b :: rest ++ [leBytes n v])
  | q => s.setCrcQueue u (q ++ [leBytes n v])

/-- A write of CRC_u_CTL (R390): ALGO, and with START the algorithm's initial value. -/
def State.crcCtl (s : State) (u v : Nat) : State :=
  let s1 := (s.crcDrain u).wr (CRC_CTL_ALGO u) (v % 4)
  if bitOf v 2 then s1.wr (CRC_VALUE_VALUE u) (s1.crcAlgo u).init else s1

/-- CRC_VALUE_WRITE (R389, R390). -/
def State.crcPut (s : State) (u v : Nat) : State := (s.crcDrain u).wr (CRC_VALUE_VALUE u) v

/-- VALUE as it reads: the low bits of the algorithm's width (R390). -/
def State.crcValue (s : State) (u : Nat) : Nat := s.rd (CRC_VALUE_VALUE u) % 2 ^ (s.crcAlgo u).width

/-- RESULT: VALUE after the final XOR (R390). -/
def State.crcResult (s : State) (u : Nat) : Nat := (s.crcAlgo u).final (s.crcValue u)

/-- CRC_READ: VALUE, or RESULT, of unit u, after the earlier data writes have been folded in (R389, R390). -/
def State.crcRead (s : State) (u : Nat) (result : Bool) : State :=
  let s1 := s.crcDrain u
  { s1 with data := if result then s1.crcResult u else s1.crcValue u }

/-- An analogue signal of R391. -/
def analogue (n : Nat) : Bool := decide (1 ≤ n) && decide (n < 0x50)

/-- The debug pins are held low (R392). -/
def State.gated (s : State) : Bool := !(s.isOn DBG_CTL_EN && fullState s.life.state)

/-- The PWM output of the first pixel of tile t (R391): settled where the pixel is off, or on, in every slot of the sub-period
that runs (R136); in any other sub-period it depends on the slot. -/
def State.tileOutput (s : State) (t : Nat) : Option Bool :=
  let lit := s.slotsLit (pixAddr (t % 64 * 32) (t / 64 * 32)) s.scn.sub
  if lit = 0 then some false else if 256 ≤ lit then some true else none

/-- The digital signal n of R391 where the state settles its level; none for a strobe, a clock or a pulse, whose level
depends on the moment it is looked at. The order inside a range is that in which R391 names its signals. -/
def State.signal (s : State) (n : Nat) : Option Bool :=
  if n = 0 ∨ (0x50 ≤ n ∧ n < 0x80) then some false
  else if n = 0x88 then some (s.isOn TCK_ROWPOS_BASK)
  else if n = 0x8A then some s.comp.ready
  else if n = 0x8B then some (s.isOn CMP_COMMIT_ARMED)
  else if n = 0x8C then some (bitOf (s.rd SFT_MODE_MODE) 0)
  else if n = 0x8D then some (bitOf (s.rd SFT_MODE_MODE) 1)
  else if n = 0x8E then some (!s.faultLow s.life.setUp)
  else if n = 0x8F then some s.sft.limpHigh
  else if n = 0x92 then some (!s.sft.pllBad)
  else if 0x95 ≤ n ∧ n < 0x99 then some (s.isOn (LNK_DL_LOCK (n - 0x95)))
  else if 0x99 ≤ n ∧ n < 0x9B then some (bitOf s.link.hostLocked (n - 0x99))
  else if n = 0x9B then some (s.isOn LNK_SL_STAT_LOCK)
  else if n = 0x9C then some (s.rd CAN_STAT_STATE == 2)
  else if 0xA0 ≤ n ∧ n < 0xA8 then some (bitOf (s.rd (SCN_BUS_LANES ((n - 0xA0) / 4))) ((n - 0xA0) % 4))
  else if 0xA8 ≤ n ∧ n < 0xE0 then s.tileOutput ((n - 0xA8) * 23)
  else if 0xE0 ≤ n ∧ n < 0x100 then some (s.running (n - 0xE0))
  else none

/-- The signal a debug pin shows: TMUX0 and TMUX1 are pins 0 and 1, TDBG0–TDBG7 pins 2–9. A gated pin shows constant 0
(R391, R392). -/
def State.pinSelect (s : State) (pin : Nat) : Nat :=
  if s.gated then 0
  else if pin = 0 then s.rd DBG_TMUX_SEL0
  else if pin = 1 then s.rd DBG_TMUX_SEL1
  else if pin < 6 then bitsOf (s.rd DBG_TDBG_LO_SEL) (8 * (pin - 2)) 8
  else bitsOf (s.rd DBG_TDBG_HI_SEL) (8 * (pin - 6)) 8

/-- The level of a debug pin (R391, R392); none where it carries an analogue signal, is not driven (R404), or the state does not
settle it. -/
def State.debugPin (s : State) (pin : Nat) : Option Bool :=
  let n := s.pinSelect pin
  if s.unpowered then none
  else if analogue n then (if pin < 2 then none else some false) else s.signal n

/-- A select word written for TDBG pins (R391): an analogue signal sets BAD_SEL. In SEALED and COMMISSIONED every
selection acts as 0x00 (R392). -/
def State.badSelect (s : State) (w : Nat) : State :=
  if (fullState s.life.state ∨ s.life.state = 4) ∧ (List.range 4).any (fun j => analogue (bitsOf w (8 * j) 8)) then
    s.wr DBG_STAT_BAD_SEL 1
  else s

/-- What R393 allows in this state: 0 full, 1 SEALED or COMMISSIONED, 2 FIELD. -/
def State.jtagLevel (s : State) : Nat :=
  if fullState s.life.state then 0 else if s.life.state = 4 then 2 else 1

/-- JTAG may write register off (R393). -/
def State.jtagWrites (s : State) (off : Nat) : Bool :=
  s.jtagLevel == 0 || (s.jtagLevel == 1 && off != 0x3E0004)

/-- The instruction R393 carries out for i: a refused one is BYPASS. -/
def State.jtagTaken (s : State) (i : JtagOp) : JtagOp :=
  match i with
  | .idcode => .idcode
  | .bypass => .bypass
  | .read off => .read off
  | .write off v => if s.jtagWrites off then .write off v else .bypass
  | .sample => if s.jtagLevel = 0 then .sample else .bypass
  | .extest l => if s.jtagLevel = 0 then .extest l else .bypass
  | .scan c => if s.jtagLevel = 0 ∧ s.rd SCN_CTL_SOURCE = 2 then .scan c else .bypass

/-- JTAG_TAP_RESET: TRST_J_N low holds the TAP in reset, high lets it go (R393). -/
def State.tapReset (s : State) (low : Bool) : State :=
  if low then { s with jtag := { held := true } } else { s with jtag := { s.jtag with held := false } }

end Sys2Proof.Machine
end

