-- ==== Sys2Proof/Machine/Registers.lean ====
section
/-! DEFINITION. The register window: what a field shows, a write under its access type, the registers with a behaviour
of their own, the broadcast aliases, and who may make an access (R6–R9, R24–R30, R84, R93, R230, R275, R381, R393). -/

namespace Sys2Proof.Machine

/-! ### Reading -/

/-- Numbers of a list that p holds of, as a bit mask. -/
def maskOf (n : Nat) (p : Nat → Bool) : Nat := ((List.range n).map (fun i => if p i then 2 ^ i else 0)).sum

/-- What a field of the start-up, life-cycle, tick or ring blocks shows where the state behind it gives its value. -/
def State.showFront (s : State) (f : Fld) : Nat :=
  let r := min 7 ((f.off - 0x20100) / 0x20)
  if f.key = LCS_STATE_STATE.key then s.life.state
  else if f.key = LCS_STATE_PENDING.key then s.life.pending
  else if f.key = LCS_STATE_PILOT_COMPAT.key then flag s.life.pilot
  else if f.key = LCS_CHALLENGE_LO_CHAL.key then s.life.challenge % 2 ^ 32
  else if f.key = LCS_CHALLENGE_HI_CHAL.key then s.life.challenge / 2 ^ 32 % 2 ^ 32
  else if f.key = TCK_COUNT_LO_COUNT.key then s.tick.count % 2 ^ 32
  else if f.key = TCK_SYNC_STAT_ELIGIBLE.key then flag s.eligibleNow
  else if f.key = TCK_SYNC_STAT_PRESENT.key then s.presentMask
  else if f.key = TCK_SYNC_STAT_PERIOD_DIFF.key then flag s.periodDiff
  else if f.key = RNG_STAT_INFLIGHT.key then s.inFlight
  else if f.key = RNG_STAT_TAGS_USED.key then s.link.tags.countP (fun u => u.req.byRings)
  else if f.key = RNG_STAT_HALTED.key then maskOf 8 (fun i => s.isOn (RNG_CMD_STAT_HALTED i))
  else if f.key = RNG_EVT_LOST_FULL.key then flag s.evtFull
  else if f.key = (RNG_CMD_STAT_CPL_FULL r).key then flag (s.cplFull r)
  else if f.key = (RNG_CMD_STAT_HELD r).key then flag (s.hasHeld r)
  else if f.key = (RNG_CMD_STAT_INFLIGHT r).key then s.flightsOf (fun k => k == r)
  else if f.key = LNK_TAGS_OUTSTANDING.key then s.link.tags.length
  else if f.key = LNK_TAGS_QUARANTINED.key then min 127 s.link.quarantine.length
  else s.rd f

/-- The same for the blocks above them. -/
def State.showBack (s : State) (f : Fld) : Nat :=
  let n := min 63 ((f.off - 0x200000) / 0x1000)
  let u := min 3 ((f.off - 0x3E1000) / 0x20)
  if f.key = (PXD_STAT_DEAD n).key then s.regionDead n
  else if f.key = (PXD_STAT_DEG_TILES n).key then s.regionDegraded n
  else if f.key = (PXD_STAT_PEND n).key then s.pendCount n
  else if f.key = AXL_HPORT_QUEUED.key then s.pix.queue.length
  else if f.key = AXL_HDATA_WORD.key then s.hdataValue
  else if f.key = AXL_DEAD_TOTAL.key then s.allDead
  else if f.key = AXL_TILES_DEGRADED.key then s.allDegraded
  else if f.key = FLT_INJ_SRC_REACT.key then (if s.life.state = 4 then 0 else s.rd f)
  else if f.key = REC_STAT_FROZEN.key then flag s.rcd.frozenAt.isSome
  else if f.key = REC_STAT_FLUSHING.key then flag s.rcd.flushing
  else if f.key = REC_STAT_BUFFERED.key then s.rcd.buffer.length
  else if f.key = REC_STAT_HELD.key then s.rcd.hold.length
  else if f.key = REC_NEXT_NUMBER.key then s.rcd.next
  else if f.key = REC_OLDEST_NUMBER.key then s.heldRecs.getLast?.getD 0
  else if f.key = REC_KEEP_USED.key then (s.flashRecs.filter (fun r => decide (r.number < 128))).length
  else if f.key = (CRC_CTL_BUSY u).key then flag (s.crcQueue u != [])
  else if f.key = (CRC_VALUE_VALUE u).key then s.crcValue u
  else if f.key = (CRC_RESULT_RESULT u).key then s.crcResult u
  else if f.key = DBG_STAT_GATED.key then flag s.gated
  else if f.key = DBG_JTAG_LEVEL.key then s.jtagLevel
  else s.rd f

/-- What field f reads as (R9): a write-only field reads 0. -/
def State.showField (s : State) (f : Fld) : Nat :=
  if f.acc = .wo then 0 else if f.off < 0x100000 then s.showFront f else s.showBack f

/-- The words of the severity table, FLT_SEVw (R371). -/
def sevIndex (off : Nat) : Option Nat :=
  if 0x3A1000 ≤ off ∧ off < 0x3A1200 then some ((off - 0x3A1000) / 4) else none

/-- The word at an aligned register offset below the pond-store window, without any effect of the read; Axolotl's result
buffer is at AXL_ 0x4_0000 (R165). -/
def State.showWord (s : State) (off : Nat) : Nat :=
  match sevIndex off with
  | some w => s.sevWord w
  | none =>
    if 0x2C0000 ≤ off ∧ off < 0x2E8000 then
      Cells.get (s.half ((off - 0x2C0000) / 0x14000)) 0 ((off - 0x2C0000) % 0x14000 / 4)
    else ((regFields off).map (fun f => s.showField f % 2 ^ f.width * 2 ^ f.lo)).sum

/-- RC fields of a word clear when it is read (R9). -/
def State.clearRead (s : State) (off : Nat) : State :=
  (regFields off).foldl (fun x f => if f.acc = .rc then x.wr f 0 else x) s

/-- A word of the pond-store window (R84). What the spec gives no contents for reads as a free value. -/
def State.pondWord (s : State) (a : Nat) : Nat × State :=
  match bytesFrom s.pondByte a 4 with
  | some bs => (leNat bs, s)
  | none => let (v, s1) := s.free; (v % 2 ^ 32, s1)

/-! ### Broadcast aliases -/

/-- The members of alias page k, and its number in TCK_BCAST_MIXED (R24, R27, R30); none for a page that is no alias. -/
def State.aliasOf (s : State) (k : Nat) : Option (Nat × List Nat) :=
  if k = 0 then some (0x00, List.range 64)
  else if k = 1 then some (0x01, List.range 32)
  else if k = 2 then some (0x02, (List.range 32).map (fun i => 32 + i))
  else if 8 ≤ k ∧ k < 16 then
    some (0x08 + k, regionsOf (s.rd (TCK_GRP_LO_MEMBERS (k - 8)) + 2 ^ 32 * s.rd (TCK_GRP_HI_MEMBERS (k - 8))))
  else none

/-- A broadcast flag is set, with the access that set it (R30). -/
def State.bcastFlag (s : State) (f : Fld) (ali off : Nat) : State :=
  ((s.wr f 1).wr TCK_BCAST_MIXED_ALIAS ali).wr TCK_BCAST_MIXED_OFFSET off

/-- The window offset of offset off of alias page k (R24). -/
def aliasAt (k off : Nat) : Nat := 0x240000 + k * 0x1000 + off

/-- Offset off of region n's PXD_ block. -/
def pxdAt (n off : Nat) : Nat := 0x200000 + 0x1000 * n + off

/-- BROADCAST_READ of offset off through alias page k (R26, R28): the lowest member's value, no side effect on any. -/
def State.aliasRead (s : State) (k off : Nat) : Nat × State :=
  match s.aliasOf k with
  | none => (0, s)
  | some (ali, []) => (0, s.bcastFlag TCK_BCAST_MIXED_EMPTY ali off)
  | some (ali, n :: rest) =>
    let v := s.showWord (pxdAt n off)
    (v, if rest.all (fun i => s.showWord (pxdAt i off) == v) then s else s.bcastFlag TCK_BCAST_MIXED_MIXED ali off)

/-! ### Reads -/

/-- Reads that do more than show and clear (R50, R158, R389). -/
def State.readEffect (s : State) (off : Nat) : State :=
  if off = TCK_COUNT_LO_COUNT.off then s.tckCountLoRead
  else if off = AXL_HDATA_WORD.off then s.hdataRead
  else if 0x3E1000 ≤ off ∧ off < 0x3E1080 then s.crcDrain ((off - 0x3E1000) / 0x20)
  else s.clearRead off

/-- VALUE and RESULT of a check-value unit are read after its queue (R389); BUSY shows the queue as it stands. -/
def State.readReady (s : State) (off : Nat) : State :=
  if 0x3E1000 ≤ off ∧ off < 0x3E1080 ∧ 0x10 ≤ off % 0x20 then s.crcDrain ((off - 0x3E1000) / 0x20) else s

/-- An aligned read of the window: what it answers, and the state after it (R7, R9, R26, R84). -/
def State.windowRead (s : State) (off : Nat) : Nat × State :=
  if 0x400000 ≤ off then s.pondWord off
  else if 0x240000 ≤ off ∧ off < 0x250000 then s.aliasRead ((off - 0x240000) / 0x1000) (off % 0x1000)
  else
    let s1 := s.readReady off
    (s1.showWord off, s1.readEffect off)

/-- An access that is no aligned word is refused and counted (R6). -/
def State.unaligned (s : State) : State := s.bump LNK_PROTO_REFUSED

/-- A register read by the host (R6, R7, R230). -/
def State.hostRegRead (s : State) (off : Nat) : Nat × State :=
  if off % 4 ≠ 0 then (0, s.unaligned) else s.windowRead off

/-- What an EXT engine may read in the register window (R84, R93): the side plane of the front buffer, and the tile sums of
the frame in it. -/
def State.extReads (s : State) (off : Nat) : Bool :=
  let side := 0x900000 + 0xA0000 * s.rd CMP_STAT_FRONT
  (decide (side ≤ off) && decide (off < side + 0xA0000)) || (decide (0xE8D400 ≤ off) && decide (off < 0xE8FC00))

/-- A register read by whom (R6, R93, R230, R393). An engine that may not, or JTAG in reset, gets nothing. -/
def State.regRead (s : State) (acc : Accessor) (off : Nat) : State :=
  match acc with
  | .host => let (v, s1) := s.hostRegRead off; { s1 with data := v }
  | .jtag => if s.jtag.held then s else let (v, s1) := s.hostRegRead off; { s1 with data := v }
  | .engine e =>
    if s.isVendor e ∨ (s.isExt e ∧ s.extReads off) then let (v, s1) := s.hostRegRead off; { s1 with data := v }
    else s.engViolation e off

/-! ### Writing under the access types -/

/-- A value held at the nearest limit, in the fields whose table says so. -/
def clampField (f : Fld) (v : Nat) : Nat :=
  let r := min 7 ((f.off - 0x20100) / 0x20)
  if f.key = TCK_CLKMON_TOL_PCT.key then heldN 3 20 v
  else if f.key = SCN_PRECHG_CYC.key then heldN 160 640 v
  else if 0x200000 ≤ f.off ∧ f.off < 0x240000 then
    (if f.off % 0x1000 = 0x18 ∧ f.lo = 0 then heldN 5 100 v else v)
  else if f.key = AXL_CFG_ISENSE.key then heldN 0x08 0xC8 v
  else if f.key = AXL_CFG_CONFIRM.key then heldN 2 8 v
  else if f.key = SAL_CFG_TOL_PCT.key then heldN 1 50 v
  else if f.key = THM_CFG_NDIFF.key then heldN 4 60 v
  else if f.key = THM_CFG_RATE.key then heldN 5 100 v
  else if f.key = RNG_CFG_TAGS.key then heldN 8 64 v
  else if f.key = RNG_EVT_CFG_SIZE_LOG2.key then heldN 4 12 v
  else if f.key = (RNG_CMD_CFG_SIZE_LOG2 r).key then heldN 4 12 v
  else if f.key = (RNG_CMD_CFG_CPL_SIZE_LOG2 r).key then heldN 4 12 v
  else if f.key = LNK_TRAIN_CFG_BACKOFF_MS.key then heldN 1 64 v
  else if f.key = LNK_TRAIN_CFG_HOSTLOSS_MS.key then heldN 10 1000 v
  else if f.key = SFT_DISC_CFG_T_MS.key then heldN 4 200 v
  else if f.key = REC_PF_PF_MV.key then heldN 2800 5000 v
  else v

/-- A write-once field takes its first write after reset (R9). -/
def State.setLck (s : State) (f : Fld) (v : Nat) : State :=
  if Cells.get s.locked 0 f.key = 0 then { s.wr f (clampField f v) with locked := Cells.put s.locked 0 f.key 1 } else s

/-- Value v is written to field f under its access type (R9). -/
def State.writeFld (s : State) (f : Fld) (v : Nat) : State :=
  match f.acc with
  | .rw => s.wr f (clampField f v)
  | .rws => s.wr f (clampField f v)
  | .w1c => s.wr f (s.rd f - Nat.land (s.rd f) v)
  | .lck => s.setLck f v
  | .ro => s
  | .rc => s
  | .wo => s

/-- Word v is written to the fields of offset off that p picks. -/
def State.writeSome (s : State) (p : Fld → Bool) (off v : Nat) : State :=
  (regFields off).foldl (fun x f => if p f then x.writeFld f (bitsOf v f.lo f.width) else x) s

/-- REGISTER_WRITE of a register without behaviour of its own (R7, R9). -/
def State.writeWord (s : State) (off v : Nat) : State := s.writeSome (fun _ => true) off v

/-! ### Registers with a behaviour of their own -/

/-- A set-up write to fields of ring r that may not change now is discarded (R245). -/
def State.ringSetup (s : State) (closed : Bool) (off v : Nat) : State :=
  (regFields off).foldl (fun x f =>
    let w := bitsOf v f.lo f.width
    if closed then x.wr RNG_STAT_CFG_ERR 1 else x.writeFld f w) s

/-- A self-test whose descriptor came from ring r is cut short when the ring is disabled (R385). -/
def State.cutRingTests (s : State) (r : Nat) : State :=
  s.cutShort 2 (fun t =>
    match t.desc with
    | none => false
    | some id => match s.flight id with | none => false | some f => f.ring == r)

/-- RING_ENABLE and RING_DISABLE as writes of EN (R245). -/
def State.ringEn (s : State) (r : Nat) (en : Bool) : State :=
  if en then s.ringEnable r
  else if s.isOn (RNG_CMD_CFG_EN r) then (s.cutRingTests r).ringDisable r
  else s

/-- A write of RNG_CMDr_CFG (R245): its size fields are discarded with CFG_ERR while EN or DRAINING is set. -/
def State.ringCfg (s : State) (r v : Nat) : State :=
  let closed := s.isOn (RNG_CMD_CFG_EN r) || s.isOn (RNG_CMD_STAT_DRAINING r)
  let size (x : State) (f : Fld) : State := x.wr f (clampField f (bitsOf v f.lo f.width))
  let s1 := if closed then s.wr RNG_STAT_CFG_ERR 1 else size (size s (RNG_CMD_CFG_SIZE_LOG2 r)) (RNG_CMD_CFG_CPL_SIZE_LOG2 r)
  (s1.wr (RNG_CMD_CFG_PRIO r) (bitsOf v 8 3)).ringEn r (bitOf v 16)

/-- EVENT_RING_ENABLE and EVENT_RING_DISABLE as writes of EN (R245). -/
def State.evtEn (s : State) (en : Bool) : State :=
  if en then s.evtEnable else s.evtDisable

/-- A write of RNG_EVT_CFG (R245). -/
def State.evtCfg (s : State) (v : Nat) : State :=
  let s1 := if s.isOn RNG_EVT_CFG_EN then s.wr RNG_STAT_CFG_ERR 1 else s.wr RNG_EVT_CFG_SIZE_LOG2 (heldN 4 12 (v % 16))
  s1.evtEn (bitOf v 4)

/-- A write in the ring block (R245, R256). -/
def State.writeRng (s : State) (off v : Nat) : State :=
  let r := (off - 0x20100) / 0x20
  if off = 0x20020 ∨ off = 0x20024 then s.ringSetup (s.isOn RNG_EVT_CFG_EN) off v
  else if off = 0x20028 then s.evtCfg v
  else if 0x20100 ≤ off ∧ off < 0x20200 then
    (if off % 0x20 < 0x10 then s.ringSetup (s.isOn (RNG_CMD_CFG_EN r) || s.isOn (RNG_CMD_STAT_DRAINING r)) off v
     else if off % 0x20 = 0x10 then s.ringCfg r v
     else s)
  else s.writeWord off v

/-- A write of SFT_SESS_CTL: OPEN, then CLOSE, then SET_PW (R331, R333, R334). -/
def State.sessCtl (s : State) (v : Nat) : State :=
  let len := bitsOf v 8 6
  let s1 := if bitOf v 0 then (if bitOf v 2 then s.openPilot else s.openPassword len) else s.sessUse
  let s2 := if bitOf v 1 then s1.sessionClose else s1
  if bitOf v 3 then s2.setPassword len else s2

/-- A write of FLT_ACK_CTL (R346). -/
def State.ackCtl (s : State) (v : Nat) : State :=
  let s1 := s.writeWord FLT_ACK_CTL_ERR.off v
  let s2 := if bitOf v 0 then s1.ackWhere (fun e => e.sev == 2) else s1
  if bitOf v 1 then s2.ackWhere (fun e => e.injected) else s2

/-- A write of TCK_CTL: SYNC_ROLE 3 is ignored (R50). -/
def State.tckCtl (s : State) (v : Nat) : State :=
  s.writeSome (fun f => f.key != TCK_CTL_SYNC_ROLE.key || v % 4 != 3) 0x10000 v

/-- A write of AXL_CTL, AXL_CFG or AXL_CFG2 (R178): discarded in FIELD; an enable bit takes a 0 in BLANK, FACTORY and
RETURNED only. -/
def State.axlSetup (s : State) (off v : Nat) : State :=
  if s.life.state = 4 then s
  else if off = AXL_CTL_SWEEP_EN.off ∧ ¬ (s.life.state = 0 ∨ s.life.state = 1 ∨ s.life.state = 5) then
    s.writeWord off (Nat.lor v (s.showWord off))
  else s.writeWord off v

/-- A write of LNK_CTL: EN, then RETRAIN (R267, R298). -/
def State.linkCtl (s : State) (v : Nat) : State :=
  let s1 := (s.writeWord LNK_CTL_EN.off v).linkEnabled (s.isOn LNK_CTL_EN)
  if bitOf v 5 then s1.retrainLink else s1

/-- A write of CAN_CTL: a mode that is set comes into effect (R290). -/
def State.canCtl (s : State) (v : Nat) : State :=
  let first := Cells.get s.locked 0 CAN_CTL_MODE.key == 0
  let s1 := s.writeWord 0x40000 v
  if first then s1.canModeSet else s1

/-- A write in the self-test, check-value and debug block (R375, R385, R389–R396). -/
def State.writeBst (s : State) (off v : Nat) : State :=
  let u := (off - 0x3E1000) / 0x20
  if off = BST_CTL_ABORT.off then (if bitOf v 0 then s.bstAbort else s)
  else if off = BST_START_TEST.off then (if bitOf v 8 then s.bstGo (v % 256) else s.writeWord off v)
  else if 0x3E1000 ≤ off ∧ off < 0x3E1080 then
    (if off % 0x20 = 0x00 then s.crcCtl u v
     else if off % 0x20 = 0x04 then s.crcData u 1 (v % 256)
     else if off % 0x20 = 0x08 then s.crcData u 2 (v % 65536)
     else if off % 0x20 = 0x0C then s.crcData u 4 v
     else if off % 0x20 = 0x10 then s.crcPut u v
     else s)
  else if off = DBG_TDBG_LO_SEL.off ∨ off = DBG_TDBG_HI_SEL.off then (s.writeWord off v).badSelect v
  else s.writeWord off v

/-- A write in the collector's block (R345, R346, R351). -/
def State.writeFlt (s : State) (off v : Nat) : State :=
  match sevIndex off with
  | some w => s.sevWrite w v
  | none =>
    if off = FLT_ACK_RECORD.off then s.fltAck v
    else if off = FLT_ACK_CTL_ERR.off then s.ackCtl v
    else if off = FLT_INJ_GO_GO.off then (if bitOf v 0 then s.inject else s)
    else s.writeWord off v

/-- A write in the safety island's block (R301, R331–R334). -/
def State.writeSft (s : State) (off v : Nat) : State :=
  if off = SFT_FEAT_FEAT_OFF.off then s.featWrite (v % 16)
  else if off = 0x380060 then s.sessCtl v
  else if 0x380064 ≤ off ∧ off < 0x380070 then (s.writeWord off v).sessUse
  else if 0x380070 ≤ off ∧ off < 0x380090 then
    s.setSft { s.sft with pw := Cells.put s.sft.pw 0 ((off - 0x380070) / 4) v }
  else if off = SFT_PILOT_CRC_CRC.off then s.pilotCrc v
  else s.writeWord off v

/-- A write in the life-cycle block (R328, R330). -/
def State.writeLcs (s : State) (off v : Nat) : State :=
  if off = LCS_ADVANCE_TARGET.off then s.lcsAdvance (v % 8) (bitsOf v 16 16)
  else if 0x40 ≤ off ∧ off < 0x80 then
    s.setSft { s.sft with token := Cells.put s.sft.token 0 ((off - 0x40) / 4) v }
  else if off = LCS_RETURN_GO.off then (if bitOf v 0 then s.lcsReturn else s)
  else s.writeWord off v

/-- A write in a region's own PXD_ block: discarded while the region is under test (R381). -/
def State.writePxd (s : State) (off v : Nat) : State :=
  if s.regionTested ((off - 0x200000) / 0x1000) then s.refusedWrite off else s.writeWord off v

/-- BROADCAST_WRITE of offset off through alias page k (R25, R28, R29; on A1 R453). -/
def State.aliasWrite (s : State) (k off v : Nat) : State :=
  match s.aliasOf k with
  | none => s
  | some (ali, []) =>
    let s1 := s.bcastFlag TCK_BCAST_MIXED_EMPTY ali off
    if s.isA1 then s1.bcastFlag TCK_BCAST_MIXED_MIXED ali off else s1
  | some (ali, ms) =>
    let s1 := ms.foldl (fun x n => if s.regionTested n then x else x.writeWord (pxdAt n off) v) s
    if ms.any s.regionTested then s1.bcastFlag TCK_BCAST_MIXED_SKIPPED ali off else s1

/-- An aligned write of word v to the window below the pond store, the life-cycle block aside. -/
def State.windowRest (s : State) (byEngine : Bool) (off v : Nat) : State :=
  if off = 0x10000 then s.tckCtl v
  else if off = 0x1000C then s.tckApplyGo v
  else if 0x20000 ≤ off ∧ off < 0x30000 then s.writeRng off v
  else if off = LNK_CTL_EN.off then s.linkCtl v
  else if off = 0x40000 then s.canCtl v
  else if off = 0x100000 then (s.writeSome (fun f => f.key != SCN_CTL_SEED.key) off v).seedWrite (bitsOf v 4 4)
  else if 0x200000 ≤ off ∧ off < 0x240000 then s.writePxd off v
  else if 0x240000 ≤ off ∧ off < 0x250000 then s.aliasWrite ((off - 0x240000) / 0x1000) (off % 0x1000) v
  else if 0x280000 ≤ off ∧ off < 0x28000C then s.axlSetup off v
  else if off = AXL_HDATA_WORD.off then s.hdataWrite byEngine (v % 65536)
  else if off = AXL_SAVE_GO.off then
    let s1 := s.writeWord off v
    if bitOf v 0 then s1.saveGo else s1
  else if 0x380000 ≤ off ∧ off < 0x3A0000 then s.writeSft off v
  else if 0x3A0000 ≤ off ∧ off < 0x3C0000 then s.writeFlt off v
  else if off = REC_CTL_MODE.off then
    (if s.recorderTested then s.refusedWrite off else s.recMode (v % 2))
  else if 0x3E0000 ≤ off ∧ off < 0x400000 then s.writeBst off v
  else if 0x400000 ≤ off then s
  else s.writeWord off v

/-- An aligned write of word v to the window below the pond store. Only the life-cycle block's registers reach the
life-cycle state (R328, R330). -/
def State.windowWrite (s : State) (byEngine : Bool) (off v : Nat) : State :=
  if off < 0x10000 then s.writeLcs off v else { s.windowRest byEngine off v with life := s.life }

/-! ### Who writes -/

/-- A VENDOR engine's write to the tile temperature table: two entries of the word (R93, R160). -/
def State.tgainWrite (s : State) (off v : Nat) : State :=
  let t := (off - 0xE8C000) / 2
  { s with pix := { s.pix with tgain := (s.pix.tgain.put t (v % 65536)).put (t + 1) (v / 65536 % 65536) } }

/-- The registers a VENDOR engine may write (R93): NWT_, PXD_ and their aliases, AXL_, SAL_ and THM_. -/
def vendorWrites (off : Nat) : Bool :=
  (decide (0xC0000 ≤ off) && decide (off < 0xE0000)) || (decide (0x200000 ≤ off) && decide (off < 0x250000)) ||
    (decide (0x280000 ≤ off) && decide (off < 0x340000))

/-- A write of word v by engine e (R93, R160); one that is misaligned and forbidden too halts an EXT engine and counts a VENDOR
engine's (log 204). -/
def State.engineWrite (s : State) (e off v : Nat) : State :=
  if ¬ s.isVendor e then s.engViolation e off
  else if off % 4 ≠ 0 then s.unaligned
  else if vendorWrites off then s.windowWrite true off v
  else if 0xE8C000 ≤ off ∧ off < 0xE8CA00 then s.tgainWrite off v
  else if 0xE8CA00 ≤ off ∧ off < 0xE8D400 then s
  else s.engViolation e off

/-- A register write by the host (R6, R7, R230). -/
def State.hostWriteReg (s : State) (off v : Nat) : State :=
  if off % 4 ≠ 0 then s.unaligned else s.windowWrite false off v

/-- A register write by whom (R6, R93, R230, R393). -/
def State.regWrite (s : State) (acc : Accessor) (off v : Nat) : State :=
  match acc with
  | .host => s.hostWriteReg off v
  | .jtag => if s.jtag.held ∨ ¬ s.jtagWrites off then s else s.hostWriteReg off v
  | .engine e => { s.engineWrite e off v with life := s.life }

/-! ### Requests of the host over the link, and JTAG -/

/-- Words answered in completions of at most 64, from word offset k (R274). -/
def cplPackets (tag k : Nat) : List (List Nat) → List UpPacket
  | [] => []
  | [p] => [.cpl tag k true p]
  | p :: rest => .cpl tag k false p :: cplPackets tag (k + p.length) rest

/-- LINK_READ_REQUEST: an MRD of len words at addr under tag (R274, R275). -/
def State.linkRead (s : State) (tag addr len : Nat) : State :=
  if len = 0 ∨ 1024 < len ∨ addr % 4 ≠ 0 ∨ 4096 < addr % 4096 + 4 * len then s.malformed 0 tag
  else if 0x1000000 ≤ addr then (s.bump LNK_PROTO_REFUSED).emit (.cple tag 1)
  else if len ≠ 1 then
    (cplPackets tag 0 (payloads (len + 1) (List.replicate len 0))).foldl State.emit (s.bump LNK_PROTO_REFUSED)
  else let (v, s1) := s.hostRegRead addr; ({ s1 with data := v }).emit (.cpl tag 0 true [v])

/-- LINK_WRITE_REQUEST: an MWR of words at addr (R274, R275); code is the byte of its header that carries no tag. -/
def State.linkWrite (s : State) (addr : Nat) (words : List Nat) : State :=
  if words.length = 0 ∨ 64 < words.length ∨ addr % 4 ≠ 0 then s.malformed 1 0
  else if 0x1000000 ≤ addr ∨ words.length ≠ 1 then s.bump LNK_PROTO_REFUSED
  else s.hostWriteReg addr (words.headD 0)

/-- JTAG_INSTRUCTION (R230, R393). What a function shifts out that the spec gives no value for is a free value; one
that is not EXTEST lets the lands go. -/
def State.jtagDo (s : State) (i : JtagOp) : State :=
  if s.jtag.held then s
  else
    let taken := s.jtagTaken i
    let put (x : State) (o l : Option Nat) : State := { x with jtag := { held := false, op := some taken, out := o, lands := l } }
    match taken with
    | .idcode => put s (some (Config.idcode % 2 ^ 32)) none
    | .bypass => put s none none
    | .read off => let (v, s1) := s.hostRegRead off; put { s1 with data := v, life := s.life } (some v) none
    | .write off v => put (s.hostWriteReg off v) none none
    | .sample => let (v, s1) := s.free; put s1 (some v) none
    | .extest l => let (v, s1) := s.free; put s1 (some v) (some l)
    | .scan _ => let (v, s1) := s.free; put s1 (some v) none

end Sys2Proof.Machine
end

