-- ==== Sys2Proof/Machine/AccessCommands.lean ====
section
/-! DEFINITION. Accesses to the register window (R6, R9, R24–R30), and the writes and reads with an effect of their own: the meaning of each. -/

namespace Sys2Proof.Machine

/-- REGISTER_WRITE (R9). -/
def execRegisterWrite (acc : Accessor) (off : Nat) (v : Nat) (s : State) : Host.Outcome State Fault Refusal :=
  advances (Instr.registerWrite acc off v).wf s (s.regWrite acc off v)

/-- READ_CLEAR (R9). -/
def execReadClear (acc : Accessor) (off : Nat) (s : State) : Host.Outcome State Fault Refusal :=
  runs (Instr.readClear acc off).wf s (s.regRead acc off)

/-- BROADCAST_WRITE (R25). -/
def execBroadcastWrite (acc : Accessor) (page : Nat) (off : Nat) (v : Nat) (s : State) : Host.Outcome State Fault Refusal :=
  advances (Instr.broadcastWrite acc page off v).wf s (s.regWrite acc (aliasAt page off) v)

/-- BROADCAST_READ (R26). -/
def execBroadcastRead (acc : Accessor) (page : Nat) (off : Nat) (s : State) : Host.Outcome State Fault Refusal :=
  runs (Instr.broadcastRead acc page off).wf s (s.regRead acc (aliasAt page off))

/-- TCK_COUNT_LO_READ (R50). -/
def execTckCountLoRead (s : State) : Host.Outcome State Fault Refusal :=
  runs Instr.tckCountLoRead.wf s s.countLoRead

/-- TCK_APPLY_GO (R33). -/
def execTckApplyGo (v : Nat) (s : State) : Host.Outcome State Fault Refusal :=
  runs (Instr.tckApplyGo v).wf s (s.tckApplyGo v)

/-- SEED_WRITE (R136). -/
def execSeedWrite (v : Nat) (s : State) : Host.Outcome State Fault Refusal :=
  runs (Instr.seedWrite v).wf s (s.seedWrite v)

/-- AXL_HDATA_WRITE (R158). -/
def execAxlHdataWrite (byEngine : Bool) (v : Nat) (s : State) : Host.Outcome State Fault Refusal :=
  runs (Instr.axlHdataWrite byEngine v).wf s (s.hdataWrite byEngine v)

/-- AXL_HDATA_READ (R158). -/
def execAxlHdataRead (s : State) : Host.Outcome State Fault Refusal :=
  runs Instr.axlHdataRead.wf s s.hdataAnswer

/-- AXL_SAVE_GO (R161). -/
def execAxlSaveGo (s : State) : Host.Outcome State Fault Refusal :=
  runs Instr.axlSaveGo.wf s s.saveGo

/-- RING_ENABLE (R245). -/
def execRingEnable (r : Nat) (s : State) : Host.Outcome State Fault Refusal :=
  runs (Instr.ringEnable r).wf s (s.ringEn r true)

/-- RING_DISABLE (R245). -/
def execRingDisable (r : Nat) (s : State) : Host.Outcome State Fault Refusal :=
  runs (Instr.ringDisable r).wf s (s.ringEn r false)

/-- EVENT_RING_ENABLE (R245). -/
def execEventRingEnable (s : State) : Host.Outcome State Fault Refusal :=
  runs Instr.eventRingEnable.wf s (s.evtEn true)

/-- EVENT_RING_DISABLE (R245). -/
def execEventRingDisable (s : State) : Host.Outcome State Fault Refusal :=
  runs Instr.eventRingDisable.wf s (s.evtEn false)

/-- FLT_ACK (R346). -/
def execFltAck (n : Nat) (s : State) : Host.Outcome State Fault Refusal :=
  runs (Instr.fltAck n).wf s (s.fltAck n)

/-- FLT_ACK_ALL_S2 (R346). -/
def execFltAckAllS2 (s : State) : Host.Outcome State Fault Refusal :=
  runs Instr.fltAckAllS2.wf s (s.ackWhere (fun e => e.sev == 2))

/-- FLT_ACK_ALL_INJ (R346). -/
def execFltAckAllInj (s : State) : Host.Outcome State Fault Refusal :=
  runs Instr.fltAckAllInj.wf s (s.ackWhere (fun e => e.injected))

/-- FLT_INJ_GO (R351). -/
def execFltInjGo (s : State) : Host.Outcome State Fault Refusal :=
  runs Instr.fltInjGo.wf s s.inject

/-- FLT_SEV_WRITE (R345). -/
def execFltSevWrite (i : Nat) (v : Nat) (s : State) : Host.Outcome State Fault Refusal :=
  runs (Instr.fltSevWrite i v).wf s (s.sevWrite i v)

/-- LCS_ADVANCE (R328). -/
def execLcsAdvance (target : Nat) (key : Nat) (s : State) : Host.Outcome State Fault Refusal :=
  advances (Instr.lcsAdvance target key).wf s (s.lcsAdvance target key)

/-- LCS_RETURN (R330). -/
def execLcsReturn (s : State) : Host.Outcome State Fault Refusal :=
  advances Instr.lcsReturn.wf s s.lcsReturn

/-- SESSION_OPEN_PASSWORD (R331). -/
def execSessionOpenPassword (len : Nat) (s : State) : Host.Outcome State Fault Refusal :=
  programs (Instr.sessionOpenPassword len).wf s (s.openPassword len)

/-- SESSION_OPEN_PILOT (R333). -/
def execSessionOpenPilot (s : State) : Host.Outcome State Fault Refusal :=
  runs Instr.sessionOpenPilot.wf s s.openPilot

/-- SESSION_CLOSE (R334). -/
def execSessionClose (s : State) : Host.Outcome State Fault Refusal :=
  programs Instr.sessionClose.wf s s.sessionClose

/-- SESSION_SET_PASSWORD (R331). -/
def execSessionSetPassword (len : Nat) (s : State) : Host.Outcome State Fault Refusal :=
  programs (Instr.sessionSetPassword len).wf s (s.setPassword len)

/-- SFT_PILOT_CRC_WRITE (R333). -/
def execSftPilotCrcWrite (v : Nat) (s : State) : Host.Outcome State Fault Refusal :=
  programs (Instr.sftPilotCrcWrite v).wf s (s.pilotCrc v)

/-- SFT_FEAT_WRITE (R301). -/
def execSftFeatWrite (v : Nat) (s : State) : Host.Outcome State Fault Refusal :=
  runs (Instr.sftFeatWrite v).wf s (s.featWrite v)

/-- BST_ABORT (R385). -/
def execBstAbort (s : State) : Host.Outcome State Fault Refusal :=
  runs Instr.bstAbort.wf s s.bstAbort

/-- BST_START_GO (R375). -/
def execBstStartGo (num : Nat) (s : State) : Host.Outcome State Fault Refusal :=
  runs (Instr.bstStartGo num).wf s (s.bstGo num)

/-- CRC_START (R390). -/
def execCrcStart (u : Nat) (v : Nat) (s : State) : Host.Outcome State Fault Refusal :=
  runs (Instr.crcStart u v).wf s (s.crcCtl u (Nat.lor v 4))

/-- CRC_DATA_WRITE (R389). -/
def execCrcDataWrite (u : Nat) (n : Nat) (v : Nat) (s : State) : Host.Outcome State Fault Refusal :=
  runs (Instr.crcDataWrite u n v).wf s (s.crcData u n v)

/-- CRC_VALUE_WRITE (R390). -/
def execCrcValueWrite (u : Nat) (v : Nat) (s : State) : Host.Outcome State Fault Refusal :=
  runs (Instr.crcValueWrite u v).wf s (s.crcPut u v)

/-- CRC_READ (R389). -/
def execCrcRead (u : Nat) (result : Bool) (s : State) : Host.Outcome State Fault Refusal :=
  runs (Instr.crcRead u result).wf s (s.crcRead u result)

/-- LNK_RETRAIN (R267). -/
def execLnkRetrain (s : State) : Host.Outcome State Fault Refusal :=
  runs Instr.lnkRetrain.wf s s.retrainLink

end Sys2Proof.Machine
end

