-- ==== Sys2Proof/Machine/Startup.lean ====
section
/-! DEFINITION. Resets and the start-up sequence (R397–R414), with the factory records (R206, R207, R210) and power-up
calibration (R222–R225). -/

namespace Sys2Proof.Machine

/-! ### Resets -/

/-- Fields a reset keeps: RWS and the power-up calibration results over a warm one; the recorder's counts over all but a
VSAFE power-on (R9, R402). -/
def keepsField (cold : Bool) (cause : Nat) (k : Nat) : Bool :=
  let off := k / 32
  (cause != 1 && (k == REC_MINUTES_MINUTES.key || k == REC_CYCLES_CYCLES.key)) ||
  (!cold && !(decide (0x340060 ≤ off) && decide (off < 0x340098) && off % 8 == 0 && decide (16 ≤ k % 32)) &&
    (k == CAL_CTL_L1_RECAL.key || k == REC_CTL_MODE.key || k == REC_PF_PF_MV.key ||
    (decide (0x340060 ≤ off) && decide (off < 0x3400A0)) || off == 0x340008 ||
    k == CAL_STAT_PUC_SKIP_A.key || k == CAL_STAT_PUC_SKIP_B.key ||
    (decide (0x340100 ≤ off) && decide (off < 0x340200)) || (decide (0x341000 ≤ off) && decide (off < 0x342000)) ||
    k == TCK_CROAK_LAT_A.key || k == TCK_CROAK_LAT_B.key))

/-- Reset is asserted: cause as in R401. A session that is open closes (R334), a freeze ends (R369); the state is that after
reset, but for what R402 keeps. A pending life-cycle state comes into force (R328). Until T0 a further cause leaves a cold
reset cold, and the one with the lower code is shown. TRST_J_N holds the TAP as before (R393). -/
def State.assertReset (s0 : State) (colder : Bool) (later : Nat) : State :=
  let s := s0.endSession
  let cold := colder || (!s.life.released && !s.isOn LCS_RESET_WARM)
  let cause := if s.life.released then later else min later (s.rd LCS_RESET_CAUSE)
  let r0 : State := {
    pending := s.pending
    regs := s.regs.filter (fun c => keepsField cold cause c.1)
    flash := s.flash
    rcd := s.rcd
    life := { state := s.life.pending, pending := s.life.pending, low := if cause = 1 then [1, 2, 3, 4, 5] else s.life.low }
    pix := if cold then {} else { health := s.pix.health }
    cal := if cold then {} else { busTrim := s.cal.busTrim }
    jtag := { held := s.jtag.held }
    freeCtr := s.freeCtr }
  let r := s.resetRecorder r0
  (r.wr LCS_RESET_CAUSE cause).wr LCS_RESET_WARM (flag !cold)

/-- A threshold of a rail in mV, with its tolerance: 10 mV for VDD_CORE, VDD_PIX and VDD_PHY, 2 % for the others (R423).
Rails in the order of R370; mV are whole, so 2 % is cut to whole mV. -/
def limitAt (rail mv : Nat) : Nat × Nat := (mv, if 1 ≤ rail ∧ rail ≤ 4 then 10 else mv / 50)

/-- A rail's reset threshold, falling, and its release threshold, rising, each with its tolerance (R423). -/
def resetLimit (rail : Nat) : Nat × Nat := limitAt rail ([2500, 700, 840, 840, 1120, 1600].getD rail 0)
def releaseLimit (rail : Nat) : Nat × Nat := limitAt rail ([2600, 710, 855, 855, 1140, 1660].getD rail 0)

/-- A rail at mv mV may have fallen below its reset threshold, may still be above it, may have risen through its release
threshold (R423). -/
def belowReset (rail mv : Nat) : Bool := decide (mv ≤ (resetLimit rail).1 + (resetLimit rail).2)
def aboveReset (rail mv : Nat) : Bool := decide ((resetLimit rail).1 < mv + (resetLimit rail).2)
def aboveRelease (rail mv : Nat) : Bool := decide ((releaseLimit rail).1 ≤ mv + (releaseLimit rail).2)

/-- Every rail is above its reset threshold: one that fell below has risen through its release threshold since (R398,
R423). -/
def State.railsUp (s : State) (mv : List Nat) : Bool :=
  !s.unpowered &&
  (List.range 6).all (fun i => if s.life.low.contains i then aboveRelease i (mv.getD i 0) else aboveReset i (mv.getD i 0))

/-- VSAFE_POWER_ON: VSAFE rises through its release threshold, at mv mV (R401, R423). -/
def State.powerOn (s : State) (mv : Nat) : State := if aboveRelease 0 mv then s.assertReset true 1 else s

/-- Rail falls below its reset threshold. -/
def State.railFalls (s : State) (rail : Nat) : State :=
  { s with life := { s.life with low := if s.life.low.contains rail then s.life.low else rail :: s.life.low } }

/-- RAIL_BELOW_RESET: another rail falls below its reset threshold, at mv mV, while VSAFE stays up (R401, R423). -/
def State.railReset (s : State) (rail mv : Nat) : State :=
  if belowReset rail mv ∧ ¬ s.unpowered then (s.railFalls rail).assertReset true 2 else s

/-- RESET_N_PULSE of ns nanoseconds; choice settles a pulse whose effect R401 leaves open: that it resets at all, or that
the reset is cold. -/
def State.resetPulse (s : State) (ns : Nat) (choice : Bool) : State :=
  if ns < 500 ∨ s.unpowered then s
  else if ns < 2000 then (if choice then s.assertReset false 4 else s)
  else if ns < 19000000 then s.assertReset false 4
  else if ns ≤ 21000000 then (if choice then s.assertReset true 3 else s.assertReset false 4)
  else s.assertReset true 3

/-! ### Reading the flash -/

/-- Item i of start-up failed to read (R405, R414). -/
def startFailed (x : StartIn) (i : Nat) : Bool := x.fails.any (fun p => p.1 == i)

/-- FLASH_READ for every read of items lo … hi-1 that failed three times (R405, R419). -/
def State.flashReads (s : State) (x : StartIn) (lo hi : Nat) : State :=
  (x.fails.filter (fun p => decide (lo ≤ p.1) && decide (p.1 < hi))).foldl (fun a p => a.send 0x0E1 0x01 p.2) s

/-- The essential factory records (R206). -/
def essentialRec (i : Nat) : Bool := [3, 4, 5, 6, 7, 8].contains i

/-- Factory record i as loaded: none where it failed (R206). -/
def State.fact (s : State) (i : Nat) : Option Cells :=
  if s.cal.bad.contains i then none else s.flash.factory.getD i none

/-- n bytes of factory record i from offset k; zeros where it failed. -/
def State.factBytes (s : State) (i k n : Nat) : List Nat :=
  match s.fact i with
  | none => List.replicate n 0
  | some c => Cells.take c 0 k n

def State.factNum (s : State) (i k n : Nat) : Nat := leNat (s.factBytes i k n)

/-- Bytes of each factory record (R206). -/
def factSize (i : Nat) : Nat := [64, 1310720, 1310720, 256, 65536, 2849, 128, 80, 16, 1024, 64].getD i 0

/-- Factory record i is there and passes the CRC-32C it ends with (R206). -/
def State.factGood (s : State) (i : Nat) : Bool :=
  match s.flash.factory.getD i none with
  | none => false
  | some c => crcOfCells c (factSize i) == leNat (Cells.take c 0 (factSize i) 4)

/-- Each factory record is checked (R206, R207). -/
def State.checkFactory (s : State) (x : StartIn) : State :=
  let bad := (List.range 11).filter (fun i => startFailed x i || !s.factGood i)
  let s1 := { s with cal := { s.cal with bad := bad } }
  let s2 := bad.foldl (fun a i => (a.flashReads x i (i + 1)).send 0x0E4 (if essentialRec i then 0x01 else 0x02) i) s1
  (s2.wr CAL_STAT_FACT_OK (flag !(bad.any essentialRec))).wr CAL_STAT_FACT_MINOR (flag (bad.any (fun i => !essentialRec i)))

/-- A write-once field is written by Tadpole. -/
def State.lockTo (s : State) (f : Fld) (v : Nat) : State := s.setLck f (v % 2 ^ f.width)

/-- The factory records are loaded (R153, R206, R207); without the identity record LCS_ID stays that of an A1. -/
def State.loadFactory (s : State) : State :=
  let s0 := upTo 3 s (fun a i => a.wr (CAL_SERIAL_CHARS i) (a.factNum 0 (4 * i) 4))
  let s1 := if (s0.fact 0).isNone then s0 else s0.wr LCS_ID_STEPPING (s0.factNum 0 12 1 % 16)
  let part (i n : Nat) : Cells := ((s1.fact i).getD []).filter (fun q => decide (q.1 < n))
  let s2 := { s1 with pix := { s1.pix with
    fGain := if (s1.fact 1).isNone then { fill := 128 } else { fill := 0, cells := part 1 1310720 }
    dacLin := part 4 65536
    refVals := part 6 128 } }
  let s3 := upTo 64 s2 (fun a n =>
    (((a.wr (PXD_IREF_TRIM_EIGHTH n) (a.factNum 3 (4 * n) 1)).wr (PXD_IREF_TRIM_QUARTER n) (a.factNum 3 (4 * n + 1) 1)).wr
      (PXD_IREF_TRIM_HALF n) (a.factNum 3 (4 * n + 2) 1)).wr (PXD_IREF_TRIM_FULL n) (a.factNum 3 (4 * n + 3) 1))
  let s4 :=
    if (s3.fact 8).isNone then s3
    else
      let d := s3.factNum 8 0 4
      let c := s3.factNum 8 4 4
      (((s3.lockTo SAL_DRV_CFG_BASE_MW (bitsOf d 0 13)).lockTo SAL_DRV_CFG_E_PJ (bitsOf d 16 8)).lockTo
        SAL_BASK_COST_SWEEP_MW (bitsOf c 0 8)).lockTo SAL_BASK_COST_NEIGH_MW (bitsOf c 8 8)
  let s5 := upTo 2 s4.phyStart (fun a u =>
    (a.wr (LNK_UL_SWING u) (a.phyDefault (4 + u) 0)).wr (LNK_UL_DEEMPH u) (a.phyDefault (4 + u) 1))
  { s5 with eng := { s5.eng with key0 := (s5.fact 10).map (fun c => beNat (Cells.take c 0 0 64)) } }

/-- The sensor offsets, and the temperature-coefficient tables, as loaded (R206, R210). -/
def State.sensorOffsets (s : State) : List Nat := (List.range 40).map (fun i => s.factNum 7 (2 * i) 2)
def State.tempTables (s : State) : List Nat := s.factBytes 5 0 2849
def State.irefTrims (s : State) : List Nat :=
  (List.range 64).flatMap (fun n => [s.rd (PXD_IREF_TRIM_EIGHTH n), s.rd (PXD_IREF_TRIM_QUARTER n),
    s.rd (PXD_IREF_TRIM_HALF n), s.rd (PXD_IREF_TRIM_FULL n)])

/-- At a boundary the emitter dies take the column-DAC offsets, and the reference trims with the corrections in force (R202,
R225). -/
def State.dieTrims (s : State) : State :=
  let trims := s.irefTrims
  { s with pix := { s.pix with
    dieOfs := s.regs.filter (fun c => decide (0x341000 * 32 ≤ c.1) && decide (c.1 < 0x342000 * 32))
    dieTrim := (List.range 256).map (fun k => (held 0 255 ((trims.getD k 0 : Int) + s.thm.corr.getD k 0)).toNat) } }

/-! ### The set-up record -/

def setUpAt : Nat := 0xB90000

/-- Word i of the CAN part of the set-up record, and the bits its register has. -/
def canMask (i : Nat) : Nat := [0xF, 0x7FFFFFF, 0x1FFFFFF, 0x3FFFFFFF, 0x3FFFFFFF, 0x3FFFFFFF, 0xFF].getD i 0

/-- The set-up record passes the checks of R413: MAGIC, VERSION, zero fields, the range R412 gives, CRC. -/
def goodSetUp (bs : List Nat) : Bool :=
  numAt bs 0 4 == 0x50555453 && numAt bs 4 2 == 1 && decide (byteAt bs 6 < 32) && byteAt bs 7 == 0 &&
  decide (100 ≤ numAt bs 8 2) && decide (numAt bs 8 2 ≤ 2000) &&
  Nat.land (numAt bs 12 4) 0xFF00000E == 0 && decide (numAt bs 16 4 < 65536) &&
  (List.range 7).all (fun i => Nat.land (numAt bs (20 + 4 * i) 4) (canMask i) == numAt bs (20 + 4 * i) 4) &&
  numAt bs 48 16 == 0 && numAt bs 768 60 == 0 && numAt bs 828 4 == crc32c (bs.take 828)

/-- Tadpole writes the LCK fields of a set-up register at offset off, locking them. -/
def State.setUpWord (s : State) (off v : Nat) : State :=
  (regFields off).foldl (fun a f => if f.acc = .lck then a.setLck f (bitsOf v f.lo f.width) else a) s

/-- A register's word as it stands, for a record that is not used. -/
def State.setUpReg (s : State) (good : Bool) (off v : Nat) : State := s.setUpWord off (if good then v else s.word off)

/-- The set-up record is loaded, or found bad; its LCK fields are locked either way, the CAN controller starts, the
severity table is written and PILOT_COMPAT taken (R345, R412, R413). -/
def State.loadSetUp (s : State) (x : StartIn) : State :=
  let bs := (List.range 832).map (fun i => s.libByte (setUpAt + i))
  let absent := bs.all (fun b => b == 0xFF)
  let good := !startFailed x 11 && goodSetUp bs
  let s0 := s.flashReads x 11 12
  let s1 := if good then s0.wr LCS_BOOT_SETUP_OK 1 else s0.send 0x0E3 0x01 (if absent ∧ ¬ startFailed x 11 then 1 else 2)
  let s2 := ((s1.setUpReg good SFT_HOSTWAIT_MS.off (numAt bs 8 2)).setUpReg good SFT_DISC_CFG_T_MS.off (byteAt bs 10)).setUpReg
    good SFT_SK_CFG_BLANK_MAX.off (byteAt bs 11)
  let s3 := (s2.setUpReg good SFT_TWIN_CFG_EN.off (numAt bs 12 4)).setUpReg good THM_NTC_CFG_ROLE.off (numAt bs 16 4)
  let s4 := upTo 7 s3 (fun a i => a.setUpReg good (0x40000 + 4 * i) (numAt bs (20 + 4 * i) 4))
  let s5 := upTo 64 s4.canModeSet (fun a n => a.setUpReg good (PXD_SKNOM_LEVEL n).off (numAt bs (64 + 2 * n) 2))
  let s6 := if good then (s5.wr TCK_SYNC_STAT_OWN_IDX (byteAt bs 6 % 4)).wr TCK_SYNC_STAT_MASTER_IDX (byteAt bs 6 % 4) else s5
  let sev : Cells :=
    if good ∧ bitOf (byteAt bs 6) 4 then (List.range 128).foldl (fun c w => putSevWord c w (numAt bs (256 + 4 * w) 4)) []
    else []
  { s6 with
    flt := { s6.flt with sevW := sev, sevNow := sev }
    eng := { s6.eng with key1 := if good ∧ bitOf (byteAt bs 6) 3 then some (beNat ((bs.drop 192).take 64)) else none }
    life := { s6.life with pilot := good && bitOf (byteAt bs 6) 2, setUp := true } }

/-! ### User calibration, health, envelope -/

/-- Two copies of n bytes without those whose read or CRC failed (R161, R221). -/
def readable (x : StartIn) (item n : Nat) (l : List (Option Copy)) : List (Option Copy) :=
  (List.range 2).map (fun i => if startFailed x (item + i) then none else (l.getD i none).filter (Copy.good n))

/-- The user calibration blocks are loaded from the copies that read (R221). -/
def State.startUser (s0 : State) (x : StartIn) : State :=
  let s := s0.flashReads x 12 16
  let fl := s.flash
  { ({ s with flash := { fl with trim := readable x 12 1310720 fl.trim, map := readable x 14 8024 fl.map } }).loadUser with flash := fl }

/-- Numbers without repeats. -/
def nodupNat (l : List Nat) : List Nat := l.foldr (fun a acc => if acc.contains a then acc else a :: acc) []

/-- The pixels whose F is 0 (R153). -/
def State.factoryDead (s : State) : List Nat :=
  if s.pix.fGain.fill = 0 then (List.range pixels).filter (fun p => s.pix.fGain.get p == 0)
  else (s.pix.fGain.cells.filter (fun c => c.2 == 0 && decide (c.1 < pixels))).map (fun c => c.1)

/-- The health word of pixel p at power-up: STATE and AGE from the saved copy, DV0 and the factory marks from the factory
area (R159, R161). -/
def State.startWord (s : State) (copy : Option Cells) (p : Nat) : Nat :=
  let low := match copy with
    | none => 0
    | some c => Cells.get c 0 p % 256
  let st := if s.pix.fGain.get p = 0 then (if low % 8 < 6 then low - low % 8 + 6 else low) else low
  st + 256 * (match s.fact 2 with
    | none => 0
    | some c => Cells.get c 0 p % 256)

/-- Every kill bit is written, and the tiles' dead counts follow (R159, R175). -/
def State.writeKills (s : State) : State :=
  let dead := ((s.pix.health.cells.filter (fun c => decide (3 ≤ c.2 % 8))).map (fun c => c.1))
  let s1 := { s with pix := { s.pix with kill := dead.foldl (fun k p => Cells.put k 0 p 1) [] } }
  (nodupNat (dead.map tileOf)).foldl (fun a t => a.setTileDead true t (dead.filter (fun p => tileOf p == t)).length) s1

/-- The health memory is restored after a cold reset, kept over a warm one (R159, R161, R402; log 196). -/
def State.startHealth (s0 : State) (x : StartIn) (cold : Bool) : State :=
  if ¬ cold then s0.writeKills
  else
    let s := s0.flashReads x 16 18
    let l := readable x 16 1310720 s.flash.health
    let bad := ((List.range 2).filter (fun i => s.flash.healthEver.getD i false && (l.getD i none).isNone)).length
    let newest := newestHealth l (flag Config.healthTie)
    let copy := newest.map (fun c => c.2.bytes)
    let s1 := if bad = 0 then s else s.send 0x06D 0x09 (if newest.isNone then 0 else 1)
    let keys := s1.factoryDead ++ (match copy with
        | none => []
        | some c => c.map (fun q => q.1)) ++ (match s1.fact 2 with
        | none => []
        | some c => c.map (fun q => q.1))
    let h : Plane := (keys.filter (fun p => decide (p < pixels))).foldl (fun a p => a.put p (s1.startWord copy p)) {}
    let s2 := ({ s1 with pix := { s1.pix with health := h } }).writeKills
    match newest with
    | none => s2
    | some c => (s2.wr AXL_SAVE_SEQ c.2.seq).wr AXL_SAVE_COPY c.1

/-- The envelope image is loaded and checked (R119, R414). -/
def State.startEnvelope (s0 : State) (x : StartIn) : State :=
  let s := s0.flashReads x 18 19
  match s.flash.env with
  | none => if s.life.state = 3 ∨ s.life.state = 4 then s.send 0x0E3 0x02 1 else s
  | some img =>
    if ¬ startFailed x 18 ∧ goodEnvelope img then (s.putEnvelope img).wr LCS_BOOT_ENV_OK 1 else s.send 0x0E3 0x02 2

/-! ### Firmware images -/

/-- What a firmware image fails: 1 layout, 2 signature, 3 role table (R89, R409, R419); none where it passes. -/
def imageFault (c : Cells) : Option Nat :=
  let head := Cells.take c 0 0 128
  let len := numAt head 12 4
  let roles := (head.drop 32).take 32
  if numAt head 0 4 ≠ 0x574D4947 ∨ numAt head 4 2 ≠ 1 ∨ numAt head 6 2 ≠ 0 ∨ len < 64 ∨ 8388480 < len ∨
      numAt head 16 16 ≠ 0 ∨ roles.any (fun b => decide (4 ≤ b)) then some 1
  else if ¬ ecdsaOk Config.firmwareKey (sha256 (head.take 64 ++ Cells.take c 0 128 len))
      (beNat ((head.drop 64).take 32)) (beNat ((head.drop 96).take 32)) then some 2
  else if roles.contains 3 ∨ 8 < (roles.filter (fun b => b == 2)).length then some 3
  else none

/-- Image i fails: IMAGE_BAD (R411, R419). -/
def State.imageBad (s : State) (i why : Nat) : State :=
  (s.send 0x0E2 0x01 (i + 2 * why)).wr (if i = 0 then LCS_BOOT_IMG0_BAD else LCS_BOOT_IMG1_BAD) 1

/-- The flash address of firmware image i (R408). -/
def imageAt (i : Nat) : Nat := 0x2000000 + 0x800000 * i

/-- SEQ of image i, where its 128-byte header reads: none of the reads that failed lies there (R409, R411). -/
def State.imageSeq (s : State) (x : StartIn) (i : Nat) : Option Nat :=
  if x.fails.any (fun p => p.1 == 19 + i && decide (imageAt i ≤ p.2) && decide (p.2 < imageAt i + 128)) then none
  else (s.flash.images.getD i none).map (fun c => leNat (Cells.take c 0 8 4))

/-- What image i fails, if anything. -/
def State.imageCheck (s : State) (x : StartIn) (i : Nat) : Option Nat :=
  if startFailed x (19 + i) then some 4
  else match s.flash.images.getD i none with
    | none => some 1
    | some c => imageFault c

/-- The work items of engine e in the image with body digest d (R91). -/
def itemsIn (d e : Nat) : List WorkItem :=
  (List.range 32).filterMap (fun i =>
    let n := Config.firmwareItem d e i
    if n = 0 then none else some { slot := (n - 1) % 4, allowance := (n - 1) / 8, essential := bitOf (n - 1) 2 })

/-- VENDOR engine e with its work items and its SRAMs filled from the image with digest d (R88, R91, R405; logs 73, 229). -/
def imageIn (d e : Nat) (x : Engine) : Engine :=
  { x with
    items := itemsIn d e
    code := Cells.putMany [] 0 0 (((Config.firmwareCode d e).take 65536).map (fun b => b % 256))
    data := Cells.putMany [] 0 0 (((Config.firmwareData d e).take 131072).map (fun b => b % 256)) }

/-- Image i runs: roles are written and locked, VENDOR engines start, the sources of EXT engines take S2 (R89, R345,
R411; log 193). -/
def State.runImage (s : State) (i : Nat) (c : Cells) : State :=
  let head := Cells.take c 0 0 64
  let d := sha256 (head ++ Cells.take c 0 128 (numAt head 12 4))
  let s1 := (s.wr LCS_BOOT_IMAGE (i + 1)).wr LCS_IMAGE_SEQ (numAt head 8 4)
  upTo 32 s1 (fun a e =>
    let role := byteAt head (32 + e)
    let b := (a.lockTo (NWT_CTL_ROLE e) role)
    if role = 1 then (b.setEngine e (imageIn d e (b.engine e))).wr (NWT_STAT_STATE e) 2
    else if role = 2 then
      b.setFlt { b.flt with sevW := putSev b.flt.sevW (0x040 + e) 2, sevNow := putSev b.flt.sevNow (0x040 + e) 2 }
    else b)

/-- The firmware images: the one with the greater SEQ is checked first (R411). Where none passes every engine stays OFF. -/
def State.startImages (s0 : State) (x : StartIn) : State :=
  let s := s0.flashReads x 19 21
  let order : List Nat := match s.imageSeq x 0, s.imageSeq x 1 with
    | some a, some b => if a < b then [1, 0] else [0, 1]
    | none, some _ => [1, 0]
    | _, _ => [0, 1]
  let r := order.foldl (fun (q : State × Bool) i =>
    if q.2 then q
    else match q.1.imageCheck x i, q.1.flash.images.getD i none with
      | none, some c => (q.1.runImage i c, true)
      | some why, _ => (q.1.imageBad i why, false)
      | none, none => q) (s, false)
  if r.2 then r.1 else upTo 32 (r.1.send 0x0E2 0x02 0) (fun a e => a.lockTo (NWT_CTL_ROLE e) 0)

/-- A programmed copy of n bytes that fails its CRC. -/
def badCopy (n : Nat) (c : Option Copy) : Bool := c.any (fun x => !x.good n)

/-- Patterns of FLASH_VERIFY that fail by what the flash holds, in the order of R373: factory records, images, both copies of
the trim block, the map block and the health save, envelope, set-up record, Skink image, symbol-library directory. An area never
written reads erased. -/
def State.flashFails (s : State) : List Nat :=
  let lib (at' n : Nat) : Bool :=
    let bs := (List.range n).map (fun i => s.libByte (at' + i))
    bs.any (fun b => b != 0xFF) && leNat (bs.drop (n - 4)) != crc32c (bs.take (n - 4))
  let copies (l : List (Option Copy)) (n i : Nat) : Bool := badCopy n (l.getD i none)
  (List.range 23).filter (fun i =>
    if i < 11 then (s.flash.factory.getD i none).isSome && !s.factGood i
    else if i < 13 then (s.flash.images.getD (i - 11) none).any (fun c => (imageFault c).any (fun w => w == 1 || w == 2))
    else if i < 15 then copies s.flash.trim 1310720 (i - 13)
    else if i < 17 then copies s.flash.map 8024 (i - 15)
    else if i < 19 then copies s.flash.health 1310720 (i - 17)
    else if i = 19 then s.flash.env.any (fun c => crcOfCells c 1313280 != leNat (Cells.take c 0 1313280 4))
    else if i = 20 then lib setUpAt 832
    else if i = 21 then lib skinkAt skinkLen
    else s.flash.library != [] && Config.badDirectory s.flash.library)

/-! ### Power-up calibration -/

/-- The fault source of lane l of R228, and the kind and address of its LANE_CAL for item i (R224, R227). -/
def State.laneCalFault (s : State) (l i : Nat) : State :=
  if l < 4 then s.send (0x080 + l) 0x30 i
  else if l = 4 then s.send 0x201 0x30 i
  else if l < 7 then s.send (dieSource (l - 5)) 0x0A (3 + 4 * i)
  else s.send (dieSource ((l - 7) / 3)) 0x0A ((l - 7) % 3 + 4 * i)

/-- A lane's trims take the measured values, held to their range (R222, R224). -/
def State.laneCal (s : State) (q : LaneCal) : State :=
  let taps := (List.range 6).map (fun k => held 0 31 (q.taps.getD k 0))
  let far := [trimRange q.data != q.data, trimRange q.err != q.err] ++
    (List.range 6).map (fun k => held 0 31 (q.taps.getD k 0) != q.taps.getD k 0)
  let word := ((List.range 6).map (fun k => (taps.getD k 0).toNat * 2 ^ (5 * k))).sum
  let s1 :=
    if q.lane < 7 then
      (((s.wrI (CAL_LANE_OFS_OFS_DATA q.lane) (trimRange q.data)).wrI (CAL_LANE_OFS_OFS_ERR q.lane)
        (trimRange q.err)).wr (CAL_LANE_OFS_ENDSTOP q.lane) (flag (far.any id))).wr (CAL_LANE_TAP_TAP q.lane) word
    else { s with cal := { s.cal with busTrim := Keyed.put s.cal.busTrim q.lane ⟨q.lane, trimRange q.data, trimRange q.err, taps⟩ } }
  upTo 8 s1 (fun a i => if far.getD i false then a.laneCalFault q.lane i else a)

/-- A column's DAC offset trim (R222, R224): k is 64 * region + column. -/
def State.dacCal (s : State) (k : Nat) (v : Int) : State :=
  let n := k / 64
  let c := k % 64
  let t := trimRange v
  let b := unsigned 6 t + 64 * flag (t != v)
  let f := CAL_DACOFS_COLS (16 * n + c / 4)
  let w := s.rd f
  let s1 := s.wr f (w - bitsOf w (8 * (c % 4)) 8 * 2 ^ (8 * (c % 4)) + b * 2 ^ (8 * (c % 4)))
  if t != v then s1.send n 0x30 (c % 32 + 1024 * (c / 32)) else s1

/-- A region's cross-check, in 0.01 % (R223). -/
def State.irefCross (s : State) (n : Nat) (bg nb : Int) : State :=
  let bad := decide (300 < bg.natAbs) || decide (200 < nb.natAbs)
  let s1 := ((s.wrI (CAL_IREF_XC_BG n) (held (-32768) 32767 bg)).wrI (CAL_IREF_XC_NB n) (held (-2048) 2047 nb)).wr
    (CAL_IREF_XC_FAIL n) (flag bad)
  if bad then s1.send n 0x31 0 else s1

/-- A die's pixel bus after its training: up, or down on the lane that failed (R142, R224). -/
def State.startBus (s : State) (d : Nat) (failed : Option Nat) : State :=
  match failed with
  | none => (s.wr (SCN_BUS_UP d) 1).wr (SCN_BUS_LANES d) 0xF
  | some l => (s.wr (if d = 0 then CAL_STAT_PUC_SKIP_A else CAL_STAT_PUC_SKIP_B) 1).busDown d l

/-- Pixel-bus attempts of a calibration: all four where a die failed (R222, R224). -/
def busTries (x : StartIn) : Nat := if x.busA.isSome ∨ x.busB.isSome then 4 else x.tries

/-- Power-up calibration (R222–R225): measured after a cold reset, its results reused after a warm one. It takes 30.0 ms
with one pixel-bus attempt and 6.0 ms more for each further one. The lanes are measured before a pixel bus is trained. -/
def State.calibrate (s : State) (x : StartIn) (cold : Bool) : State :=
  let up (d : Nat) : Bool := if d = 0 then x.busA.isNone else x.busB.isNone
  let s0 := if cold then x.lanes.foldl State.laneCal s else s
  let s1 := (s0.startBus 0 x.busA).startBus 1 x.busB
  if ¬ cold then (s1.wr CAL_STAT_PUC_WARM 1).wr CAL_STAT_PUC_DONE 1  -- a die skipped at the cold reset still reads as skipped
  else
    let s3 := x.xc.foldl (fun a q => if up (q.1 / 32) then a.irefCross q.1 q.2.1 q.2.2 else a) s1
    let s4 := x.dac.foldl (fun a q => if up (q.1 / 2048) then a.dacCal q.1 q.2 else a) s3
    let s5 := if up 0 then s4.wr TCK_CROAK_LAT_A x.latA else s4
    let s6 := if up 1 then s5.wr TCK_CROAK_LAT_B x.latB else s5
    ((s6.wr CAL_PUC_TIME_TOTAL (240 + 60 * busTries x)).wr CAL_PUC_TIME_PIXBUS_TRIES (busTries x)).wr CAL_STAT_PUC_DONE 1

/-! ### The sequence -/

/-- The Skink image is read, checked and locked; in COMMISSIONED and FIELD not without a set-up record (R308, R413). -/
def State.startSkink (s : State) (x : StartIn) : State :=
  if (s.life.state = 3 ∨ s.life.state = 4) ∧ ¬ s.isOn LCS_BOOT_SETUP_OK then s
  else if startFailed x 21 then (s.flashReads x 21 22).skinkInvalid 2
  else s.skinkLoad

/-- What the commissioning area says of passwords and the epoch is shown (R327, R331, R332). -/
def State.startSession (s : State) : State :=
  ((((s.wr SFT_SESS_STAT_PW_SET (flag s.flash.pwHash.isSome)).wr SFT_SESS_STAT_FAILS s.flash.pwFails).wr
    SFT_SESS_STAT_LOCKED (flag s.flash.lockEnd.isSome)).lockMinutes).wr SFT_COMM_EPOCH_EPOCH s.flash.epoch

/-- Boundary 0: the tick timer runs at the default period, the limits and grants of the first tick are derived, readings are
taken in its bask, no step of Axolotl runs before the buses are trained, the first frame starts composing (R31, R162, R184,
R194, R196, R405). -/
def State.boundaryZero (s : State) (sensors : List Int) : State :=
  let s1 := (((((s.wr TCK_ROWPOS_BASK 1).wr SFT_MODE_LIMP 1).phaseStart).sampleSetup).readbackStart).dieTrims
  let s2 := (s1.takeReadings s1.sensorOffsets sensors).setLimits.spendEnergy
  let s3 := ((s2.grants none).1.bump AXL_SKIP_SWEEP).bump AXL_SKIP_NEIGH
  (((s3.refreshPackage).showBudget).openTick).startGecko.startComposition

/-- RESET_RELEASE: T0, with every rail above its threshold (R398), and the whole sequence of R405. -/
def State.release0 (s : State) (x : StartIn) : State :=
  if s.life.released ∨ ¬ s.railsUp x.rails then s
  else
    let cold := !s.isOn LCS_RESET_WARM
    let c := s.free
    let s1 := { c.2 with life := { c.2.life with released := true, low := [], challenge := c.1 % 2 ^ 64 } }
    let s2 := ((s1.wr LCS_RESET_EARLY x.early).wr LCS_BOOT_HW_RUN 1).recorderStart (s.rd LCS_RESET_CAUSE)
    let s3 := if x.early % 64 = 0 then s2 else s2.send 0x0C2 0x03 (x.early % 64)
    let s4 := ((s3.checkFactory x).loadFactory).loadSetUp x
    let s5 := (((s4.startUser x).calibrate x cold).setLaunch).startHealth x cold
    let s6 := ((s5.startEnvelope x).startImages x).startSkink x
    ((s6.startSession.showHealth).boundaryZero x.sensors).startAttempt 1

/-- VSAFE_BELOW_RESET, VSAFE at mv mV (R423): the flush and all activity of the island end, the device is held in reset, no
pin is driven, the inputs read as their biased levels: HBP not permitted, LBF asserted (R365, R398, R402, R404, R429). -/
def State.vsafeDown (s : State) (mv : Nat) : State :=
  if ¬ belowReset 0 mv then s
  else
    let s1 := s.vsafeLost
    let s2 : State := { s1 with
      fifo := [], flt := { sent := s1.flt.sent }, life := { s1.life with released := false, low := [0, 1, 2, 3, 4, 5] }
      sft := { s1.sft with limpHigh := false } }
    (((s2.wr SFT_INPUTS_PINS 6).wr SFT_INPUTS_HBP 0).wr SFT_INPUTS_LBF 1).showPermit

end Sys2Proof.Machine
end

