-- ==== Sys2Proof/Machine/BackgroundCommands.lean ====
section
/-! DEFINITION. Background work that ends (R251): the meaning of each. -/

namespace Sys2Proof.Machine

/-- SYMBOL_LOAD_DONE (R253). -/
def execSymbolLoadDone (s : State) : Host.Outcome State Fault Refusal :=
  programs Instr.symbolLoadDone.wf s s.symbolLoaded

/-- ENVELOPE_LOAD_DONE (R119). -/
def execEnvelopeLoadDone (s : State) : Host.Outcome State Fault Refusal :=
  programs Instr.envelopeLoadDone.wf s s.envelopeLoaded

/-- CAL_FIRST_PASS_DONE (R216). -/
def execCalFirstPassDone (s : State) : Host.Outcome State Fault Refusal :=
  runs Instr.calFirstPassDone.wf s s.calFirstPass

/-- CAL_SECOND_PASS_DONE (R219). -/
def execCalSecondPassDone (s : State) : Host.Outcome State Fault Refusal :=
  runs Instr.calSecondPassDone.wf s s.calSecondPass

/-- CAL_PROGRAM_DONE (R220). -/
def execCalProgramDone (ok : Bool) (s : State) : Host.Outcome State Fault Refusal :=
  programs (Instr.calProgramDone ok).wf s (s.calProgrammed ok)

/-- ENGINE_IMAGE_VERIFIED (R97). -/
def execEngineImageVerified (e : Nat) (s : State) : Host.Outcome State Fault Refusal :=
  runs (Instr.engineImageVerified e).wf s (s.imageVerified e)

/-- BIST_TEST_END (R384). -/
def execBistTestEnd (fails : List (Nat × Nat)) (s : State) : Host.Outcome State Fault Refusal :=
  runs (Instr.bistTestEnd fails).wf s (s.testEnd fails s.flashFails)

/-- RECORDER_READ_DONE (R253). -/
def execRecorderReadDone (s : State) : Host.Outcome State Fault Refusal :=
  runs Instr.recorderReadDone.wf s s.recordsRead

/-- CRC_RUN_DONE (R253). -/
def execCrcRunDone (s : State) : Host.Outcome State Fault Refusal :=
  runs Instr.crcRunDone.wf s s.crcRunDone

/-- HEALTH_SAVE_DONE (R161). -/
def execHealthSaveDone (ok : Bool) (s : State) : Host.Outcome State Fault Refusal :=
  programs (Instr.healthSaveDone ok).wf s (s.healthSaved ok)

end Sys2Proof.Machine
end

