-- ==== Sys2Proof/Machine/CanCommands.lean ====
section
/-! DEFINITION. CAN FD (R290–R296): the meaning of each. -/

namespace Sys2Proof.Machine

/-- CAN_SAFETY_PART (R293): a frame the bus brings, carried out by its identifier (R292). -/
def execCanSafetyPart (f : CanFrame) (busy : Bool) (s : State) : Host.Outcome State Fault Refusal :=
  runs (Instr.canSafetyPart f busy).wf s (s.canReceive f busy)

/-- CAN_ASSEMBLY_TIMEOUT (R293). -/
def execCanAssemblyTimeout (s : State) : Host.Outcome State Fault Refusal :=
  runs Instr.canAssemblyTimeout.wf s s.canAsmTimeout

/-- CAN_STATUS_REQUEST (R294): a frame the bus brings; its CMD says what it asks for. -/
def execCanStatusRequest (f : CanFrame) (busy : Bool) (s : State) : Host.Outcome State Fault Refusal :=
  runs (Instr.canStatusRequest f busy).wf s (s.canReceive f busy)

/-- CAN_FALLBACK_REQUEST (R294): a frame the bus brings; its CMD says what it asks for. -/
def execCanFallbackRequest (f : CanFrame) (busy : Bool) (s : State) : Host.Outcome State Fault Refusal :=
  runs (Instr.canFallbackRequest f busy).wf s (s.canReceive f busy)

/-- CAN_REMOTE_FRAME (R290). -/
def execCanRemoteFrame (errs : Nat) (s : State) : Host.Outcome State Fault Refusal :=
  runs (Instr.canRemoteFrame errs).wf s (s.remoteFrame errs)

/-- CAN_STATUS_PERIOD (R295). -/
def execCanStatusPeriod (s : State) : Host.Outcome State Fault Refusal :=
  runs Instr.canStatusPeriod.wf s s.statusPeriod

/-- CAN_ERROR_PASSIVE (R296). -/
def execCanErrorPassive (tec : Nat) (rc : Nat) (s : State) : Host.Outcome State Fault Refusal :=
  runs (Instr.canErrorPassive tec rc).wf s (s.errorPassive tec rc)

/-- CAN_BUS_OFF (R296). -/
def execCanBusOff (s : State) : Host.Outcome State Fault Refusal :=
  runs Instr.canBusOff.wf s s.busOff

/-- CAN_BUS_OFF_RECOVERY (R296). -/
def execCanBusOffRecovery (s : State) : Host.Outcome State Fault Refusal :=
  runs Instr.canBusOffRecovery.wf s s.busOffRecovery

end Sys2Proof.Machine
end

