-- ==== Sys2Proof/Machine/DescriptorCommands.lean ====
section
/-! DEFINITION. Descriptors, as the ring engine fetches and issues them (R251): the meaning of each. -/

namespace Sys2Proof.Machine

/-- SURFACE_BIND (R55). -/
def execSurfaceBind (d : Desc) (s : State) : Host.Outcome State Fault Refusal :=
  runs (Instr.surfaceBind d).wf s (s.takeDesc 1 d)

/-- LAYER_SET (R253). -/
def execLayerSet (d : Desc) (s : State) : Host.Outcome State Fault Refusal :=
  runs (Instr.layerSet d).wf s (s.takeDesc 2 d)

/-- COMMIT (R74). -/
def execCommit (d : Desc) (s : State) : Host.Outcome State Fault Refusal :=
  runs (Instr.commit d).wf s (s.takeDesc 3 d)

/-- FADE_LOAD (R71). -/
def execFadeLoad (d : Desc) (s : State) : Host.Outcome State Fault Refusal :=
  runs (Instr.fadeLoad d).wf s (s.takeDesc 4 d)

/-- SYMBOL_LOAD (R253). -/
def execSymbolLoad (d : Desc) (s : State) : Host.Outcome State Fault Refusal :=
  runs (Instr.symbolLoad d).wf s (s.takeDesc 5 d)

/-- OBJECT_LIST (R101). -/
def execObjectList (d : Desc) (s : State) : Host.Outcome State Fault Refusal :=
  runs (Instr.objectList d).wf s (s.takeDesc 6 d)

/-- BUDGET_SET (R192). -/
def execBudgetSet (d : Desc) (s : State) : Host.Outcome State Fault Refusal :=
  runs (Instr.budgetSet d).wf s (s.takeDesc 7 d)

/-- ENVELOPE_LOAD (R119). -/
def execEnvelopeLoad (d : Desc) (s : State) : Host.Outcome State Fault Refusal :=
  runs (Instr.envelopeLoad d).wf s (s.takeDesc 8 d)

/-- CAL_USER_WRITE (R216). -/
def execCalUserWrite (d : Desc) (s : State) : Host.Outcome State Fault Refusal :=
  runs (Instr.calUserWrite d).wf s (s.takeDesc 9 d)

/-- BIST_RUN (R374). -/
def execBistRun (d : Desc) (s : State) : Host.Outcome State Fault Refusal :=
  runs (Instr.bistRun d).wf s (s.takeDesc 10 d)

/-- RECORDER_READ (R253). -/
def execRecorderRead (d : Desc) (s : State) : Host.Outcome State Fault Refusal :=
  runs (Instr.recorderRead d).wf s (s.takeDesc 11 d)

/-- RECORDER_FREEZE (R368). -/
def execRecorderFreeze (d : Desc) (s : State) : Host.Outcome State Fault Refusal :=
  runs (Instr.recorderFreeze d).wf s (s.takeDesc 12 d)

/-- CRC_RUN (R253). -/
def execCrcRun (d : Desc) (s : State) : Host.Outcome State Fault Refusal :=
  runs (Instr.crcRun d).wf s (s.takeDesc 13 d)

/-- RESUME (R314). -/
def execResume (d : Desc) (s : State) : Host.Outcome State Fault Refusal :=
  runs (Instr.resume d).wf s (s.takeDesc 14 d)

/-- STATUS_SNAPSHOT (R254). -/
def execStatusSnapshot (d : Desc) (s : State) : Host.Outcome State Fault Refusal :=
  runs (Instr.statusSnapshot d).wf s (s.takeDesc 15 d)

/-- ENGINE_LOAD (R94). -/
def execEngineLoad (d : Desc) (s : State) : Host.Outcome State Fault Refusal :=
  runs (Instr.engineLoad d).wf s (s.takeDesc 16 d)

/-- UNKNOWN_OPCODE (R251). -/
def execUnknownOpcode (op : Nat) (d : Desc) (s : State) : Host.Outcome State Fault Refusal :=
  runs (Instr.unknownOpcode op d).wf s (s.takeDesc op d)

end Sys2Proof.Machine
end

