-- ==== Sys2Proof/Machine/EngineCommands.lean ====
section
/-! DEFINITION. What the Newt engines do between boundaries (R88–R99, R121, R250): the meaning of each. -/

namespace Sys2Proof.Machine

/-- ENGINE_ITEM_PREEMPT (R92). -/
def execEngineItemPreempt (e : Nat) (i : Nat) (s : State) : Host.Outcome State Fault Refusal :=
  runs (Instr.engineItemPreempt e i).wf s (s.engPreempt e i)

/-- ENGINE_WATCHDOG (R92). -/
def execEngineWatchdog (e : Nat) (pc : Nat) (s : State) : Host.Outcome State Fault Refusal :=
  runs (Instr.engineWatchdog e pc).wf s (s.engWatchdog e pc)

/-- ENGINE_ACCESS_VIOLATION (R93). -/
def execEngineAccessViolation (e : Nat) (addr : Nat) (s : State) : Host.Outcome State Fault Refusal :=
  runs (Instr.engineAccessViolation e addr).wf s (s.engViolation e addr)

/-- ENGINE_ECC_ERROR (R88). -/
def execEngineEccError (e : Nat) (double : Bool) (data : Bool) (addr : Nat) (s : State) : Host.Outcome State Fault Refusal :=
  runs (Instr.engineEccError e double data addr).wf s (s.engEcc e double data addr)

/-- ENGINE_ILLEGAL_OP (R121). -/
def execEngineIllegalOp (e : Nat) (pc : Nat) (s : State) : Host.Outcome State Fault Refusal :=
  runs (Instr.engineIllegalOp e pc).wf s (s.engIllegal e pc)

/-- ENGINE_EVENT_POST (R250). -/
def execEngineEventPost (e : Nat) (w1 : Nat) (lo : Nat) (hi : Nat) (s : State) : Host.Outcome State Fault Refusal :=
  runs (Instr.engineEventPost e w1 lo hi).wf s (s.engPost e w1 lo hi)

/-- EXT_TABLE_HOLD_EXPIRY (R99). -/
def execExtTableHoldExpiry (e : Nat) (s : State) : Host.Outcome State Fault Refusal :=
  runs (Instr.extTableHoldExpiry e).wf s (s.holdExpiry e)

end Sys2Proof.Machine
end

