-- ==== Sys2Proof/Machine/FaultCommands.lean ====
section
/-! DEFINITION. The fault collector and the recorder (R341–R369): the meaning of each. -/

namespace Sys2Proof.Machine

/-- FAULT_MESSAGE (R344). -/
def execFaultMessage (outside : List (Nat × Nat × Nat)) (s : State) : Host.Outcome State Fault Refusal :=
  runs (Instr.faultMessage outside).wf s (s.faultMessage outside)

/-- GRACE_EXPIRY (R347). -/
def execGraceExpiry (s : State) : Host.Outcome State Fault Refusal :=
  runs Instr.graceExpiry.wf s s.graceExpiry

/-- COLLECTOR_SELF_FAULT (R353). -/
def execCollectorSelfFault (kind : Nat) (addr : Nat) (s : State) : Host.Outcome State Fault Refusal :=
  runs (Instr.collectorSelfFault kind addr).wf s (s.selfFault kind addr)

/-- RECORD_PROGRAMMED (R362). -/
def execRecordProgrammed (ok : Bool) (s : State) : Host.Outcome State Fault Refusal :=
  holds (Instr.recordProgrammed ok).wf s (s.recordProgrammed ok)

/-- BLOCK_ERASE_DONE (R360). -/
def execBlockEraseDone (s : State) : Host.Outcome State Fault Refusal :=
  holds Instr.blockEraseDone.wf s s.blockErased

/-- FREEZE_TIMEOUT (R369). -/
def execFreezeTimeout (s : State) : Host.Outcome State Fault Refusal :=
  runs Instr.freezeTimeout.wf s s.freezeTimeout

/-- POWERED_MINUTE (R367). -/
def execPoweredMinute (s : State) : Host.Outcome State Fault Refusal :=
  runs Instr.poweredMinute.wf s s.poweredMinute.lockMinutes

end Sys2Proof.Machine
end

