-- ==== Sys2Proof/Machine/SystemLink.lean ====
section
/-! DEFINITION. The system link: frames and their path delay (R284–R289), steering onto the master (R46–R48), the
release of a commit epoch (R79, R288). -/

namespace Sys2Proof.Machine

/-- The wait for the next transmit block boundary, in SCA cycles: a block lasts 13 ns, 4.16 cycles, and the spec gives no
phase, so the wait is a free value of 0–4 (R285). -/
def State.txWait (s : State) : Nat × State :=
  let v := s.free
  (v.1 % 5, v.2)

/-- A frame goes out on SL_TX (R284). -/
def State.slSend (s : State) (bs : List Nat) : State :=
  if s.isOn LNK_SL_CTL_EN then s.setLink { s.link with slSent := s.link.slSent ++ [bs] } else s

/-- The first 60 bytes with the frame's check value (R287). -/
def slFrame (body : List Nat) : List Nat := body ++ leBytes 4 (Algo.of .crc32 body)

/-- Boundaries until a period change of this module, 0 none, and its period (R33, R288); only a master announces one. -/
def State.periodAhead (s : State) : Nat × Nat :=
  match s.tick.change with
  | none => (0, 0)
  | some (p, _, at') => if s.sync = .master ∧ s.tick.count < at' then (min 3 (at' - s.tick.count), p) else (0, 0)

/-- The armed epoch a module reports at boundary k (R79). -/
def State.armedReport (s : State) (k : Nat) : Option Nat :=
  match s.comp.armed with
  | none => none
  | some a => if a.due ≤ k then some a.epoch else none

/-- The fault summary of R287, bytes 32–35: the source is that of the highest severity, 0x3FF if there is none. -/
def State.faultSummary (s : State) : Nat :=
  let top := s.rd FLT_STAT_MAXSEV
  let src := match s.flt.table.find? (fun e => e.2.sev == top) with
    | none => 0x3FF
    | some e => e.2.source
  s.rd SFT_MODE_MODE + 4 * top + 32 * flag s.limpAsserted + 64 * src + 65536 * s.rd FLT_STAT_UNACKED

/-- A frame of this module, type 0 BOUNDARY, 1 ECHO, with what stands at boundary k and its path delay (R287, R288). -/
def State.ownFrame (s : State) (type k path : Nat) : List Nat :=
  let rep := s.armedReport k
  let ahead := s.periodAhead
  let rel := s.link.release
  let master := if s.sync = .solo ∨ s.sync = .master then s.ownIdx else s.rd TCK_SYNC_STAT_MASTER_IDX
  slFrame ([s.ownIdx + 4 * master + 16 * s.rd TCK_SYNC_STAT_STATE + 128 * flag s.eligibleNow,
      type + 16 * ahead.1 + 64 * flag rep.isSome + 128 * flag rel.isSome] ++
    leBytes 2 s.period ++ leBytes 2 ahead.2 ++ [(match rel with | none => 0 | some (_, b) => k - b), 0] ++
    leBytes 4 s.tick.count ++ leBytes 4 (path % 2 ^ 24) ++ leBytes 4 (rep.getD 0) ++
    leBytes 4 (match rel with | none => 0 | some (e, _) => e) ++ leBytes 4 (s.rd SFT_FP_FP) ++
    leBytes 4 (s.rd SFT_COMM_EPOCH_EPOCH) ++ leBytes 4 s.faultSummary ++ [s.safetyFlags] ++ List.replicate 23 0)

/-- The master's check of R79 at boundary k: its own report and the last report of every other present module name one
epoch, which it releases for the next boundary; a release leaves the frames after three boundaries (R288). -/
def State.masterRelease (s : State) (k : Nat) : State :=
  let old := match s.link.release with
    | none => s
    | some (_, b) => if b + 3 ≤ k then s.setLink { s.link with release := none } else s
  match old.comp.armed, old.armedReport k with
  | some a, some e =>
    if old.sync = .master ∧ a.released = none ∧
        (List.range 4).all (fun i => i == old.ownIdx || !old.present i || (old.peer i).armed == some e) then
      ({ old with
        comp := { old.comp with armed := some { a with released := some (tickAfter k 1) } },
        link := { old.link with release := some (e, k) } }).showArmed
    else old
  | _, _ => old

/-- This module's BOUNDARY frame goes out at boundary k (R285, R287). -/
def State.sendBoundary (s : State) (k : Nat) : State :=
  let s1 := s.setLink { s.link with slSent := [] }
  if s1.isOn LNK_SL_CTL_EN ∧ s1.link.slSending then
    let w := s1.txWait
    w.2.slSend (w.2.ownFrame 0 k w.1)
  else s1

/-! ### Frames received -/

/-- The own boundary nearest to the frame's is the one still to come, at the end of the tick now running (R46). -/
def State.beforeOwn (s : State) (at' path : Nat) : Bool := decide (s.tickLength < 2 * (at' - path))

/-- The error of R46 in SCA cycles: the own nearest boundary less the arrival corrected for the path, wrapped into half a
period; positive when the own boundary is late. at' is the arrival after the own last boundary. -/
def State.syncError (s : State) (at' path : Nat) : Int :=
  let p : Int := 320 * s.tick.run
  let d : Int := (path : Int) - at' + (if s.beforeOwn at' path then s.tickLength else 0)
  (d + p / 2) % p - p / 2

/-- The one step of R46, per the master's period in µs: where the own boundary that answers to the frame's has fallen, the
next one falls with the master's next, path cycles on the way deducted; where it is late, it falls at once and the one after
it with the master's next, so that every boundary of the master has one of its own. -/
def State.oneStep (s : State) (at' path per : Nat) : State :=
  let p := 320 * max 1 per
  let rest := p - path % p
  let own : Int := 320 * (s.tick.run : Int) + s.tick.applied
  let (fall, after) : Nat × Option Nat := if s.beforeOwn at' path then (at', some rest) else (at' + rest, none)
  { s with tick := { s.tick with step := fall - own, stepTo := after, corr := 0, lastCorr := 0 } }

/-- A correction is applied to the first bask that has not ended (R46), or, before any light, to the next boundary, per the
master's period. -/
def State.correct (s : State) (e : Int) (at' path per : Nat) : State :=
  if ¬ s.tick.lit then s.oneStep at' path per
  else
    let lim : Int := 320 * (s.rd TCK_SYNC_CFG_PULLIN_US : Int)
    let c := held (-lim) lim (-e)
    if s.isOn TCK_ROWPOS_BASK then
      let b := held 32000 256000 ((s.tick.bask : Int) + c)
      let sum := s.tick.applied + (b - s.tick.bask)
      { s with tick := { s.tick with bask := b.toNat, applied := sum, lastCorr := sum } }
    else { s with tick := { s.tick with corr := c, lastCorr := c } }

/-- The sync state after a frame of the master with error e (R48). -/
def State.frameState (s : State) (e : Int) : State :=
  let inside := decide (e.natAbs ≤ 640)
  let idx := s.rd TCK_SYNC_STAT_MASTER_IDX
  match s.sync with
  | .acquire =>
    let n := if inside then s.tick.inRun + 1 else 0
    if 8 ≤ n then s.setSync .locked idx else { s with tick := { s.tick with inRun := n } }
  | .locked =>
    let n := if inside then 0 else s.tick.outRun + 1
    if 3 ≤ n then (s.syncLost 0).setSync .acquire idx else { s with tick := { s.tick with outRun := n } }
  | .holdover => s.setSync .acquire idx
  | _ => s

/-- The period a follower takes from a frame: that in force at the master, or the one it counts down to (R47, R288). Where
the frame comes ahead of the own boundary that answers to it, that boundary is counted as well. -/
def State.takePeriod (s : State) (now next cd : Nat) (ahead : Bool) : State :=
  { s with tick := { s.tick with
      masterPer := some now
      announced := if cd ≠ 0 then some (next, if ahead then cd + 1 else cd) else if now = s.period then none else some (now, 1) } }

/-- A release the master sends (R79, R288): in force at the boundary after the one it was sent at, which a frame ahead of the
own boundary that answers to it finds still to come. -/
def State.takeRelease (s : State) (e age : Nat) (ahead : Bool) : State :=
  match s.comp.armed with
  | none => s
  | some a =>
    if a.epoch = e ∧ a.released = none ∧ s.epochSync then
      let s1 := ({ s with comp := { s.comp with armed := some { a with released := some (tickAfter s.tick.count (if ahead then 2 else 1)) } } }).showArmed
      if 0 < age then s1.bump LNK_SL_CNT_REL_LATE else s1
    else s

/-- A Croak frame of the module's master (R46–R48). -/
def State.masterFrame (s : State) (bs : List Nat) (at' path : Nat) : State :=
  let e := s.syncError at' path
  let ahead := s.beforeOwn at' path
  let s1 := { s with tick := { s.tick with heard := true } }
  let s2 := s1.wrI TCK_SYNC_ERR_LAST (held (-32767) 32767 e)
  let s3 := s2.keepMax TCK_SYNC_ERR_PEAK (min 65535 e.natAbs)
  let s4 := ((s3.correct e at' path (numAt bs 2 2 % 8192)).frameState e).takePeriod (numAt bs 2 2 % 8192) (numAt bs 4 2 % 8192)
    (bitsOf (byteAt bs 1) 4 2) ahead
  if bitOf (byteAt bs 1) 7 then s4.takeRelease (numAt bs 20 4) (byteAt bs 6 % 4) ahead else s4

/-- What a module keeps of another's BOUNDARY frame (R44, R45, R79, R287). -/
def peerOf (p : Peer) (bs : List Nat) (e : Int) : Peer :=
  { p with
    age := some 0
    told := true
    mode := syncOf (bitsOf (byteAt bs 0) 4 3)
    eligible := bitOf (byteAt bs 0) 7
    master := bitsOf (byteAt bs 0) 2 2
    armed := if bitOf (byteAt bs 1) 6 then some (numAt bs 16 4) else none
    err := some e
    fp := numAt bs 24 4
    epoch := numAt bs 28 4
    faults := numAt bs 32 4 }

/-- The frame is forwarded: its path delay, own wait included, HOPS and check value renewed (R285, R286). -/
def State.forward (s : State) (bs : List Nat) (path : Nat) : State :=
  let w := s.txWait
  let b1 := byteAt bs 1
  let hops := (bitsOf b1 2 2 + 1) % 4
  let body := [byteAt bs 0, b1 - 4 * bitsOf b1 2 2 + 4 * hops] ++ (bs.drop 2).take 10 ++
    leBytes 4 (min (2 ^ 24 - 1) (path + w.1)) ++ (bs.drop 16).take 44
  w.2.slSend (slFrame body)

/-- SL_FRAME_RECEIVED: 64 bytes, the first of which arrived at' SCA cycles after the own last boundary (R286). -/
def State.slReceive (s : State) (bs : List Nat) (at' : Nat) : State :=
  if ¬ s.isOn LNK_SL_CTL_EN then s
  else if Algo.of .crc32 (bs.take 60) ≠ numAt bs 60 4 then
    (s.bump LNK_SL_CNT_CRC_ERR).send 0x201 0x02 (byteAt bs 0 % 4)
  else
    let i := byteAt bs 0 % 4
    let echo := byteAt bs 1 % 4 = 1
    if i = s.ownIdx then s
    else
      let sent := numAt bs 12 4 % 2 ^ 24
      let path := if echo then sent else sent + s.rd TCK_SL_HOPDLY_DELAY
      let s1 := s.forward bs path
      let e := s.syncError at' path
      let told := decide (byteAt bs 1 % 4 = 0)
      let s2 := s1.setPeer i (if told then peerOf (s1.peer i) bs e else { s1.peer i with age := some 0 })
      let s3 := { s2 with tick := { s2.tick with heardAny := true } }
      if told ∧ isFollower s3.sync ∧ s3.rd TCK_SYNC_STAT_MASTER_IDX = i ∧ s3.rd TCK_CTL_SYNC_ROLE ≠ 2 then
        s3.masterFrame bs at' path
      else s3

/-! ### Echo, loss, presence (R285, R289) -/

/-- SL_ECHO_SEND: an ECHO frame goes out while SL_RX holds lock and no echo has returned (R285), with what stood at the last
boundary (R287). -/
def State.slEchoSend (s : State) : State :=
  if s.isOn LNK_SL_CTL_EN ∧ s.isOn LNK_SL_STAT_LOCK ∧ ¬ s.isOn LNK_SL_STAT_TRAINED then
    let w := s.txWait
    let s1 := w.2.slSend (w.2.ownFrame 1 w.2.tick.count w.1)
    s1.setLink { s1.link with slEcho := true }
  else s

/-- SL_ECHO_RETURN: the echo is back rt SCA cycles after its reference instant, with HOPS and PATH_DLY (R285). -/
def State.slEchoReturn (s : State) (rt hops path : Nat) : State :=
  if ¬ s.isOn LNK_SL_CTL_EN ∨ ¬ s.link.slEcho ∨ ¬ s.isOn LNK_SL_STAT_LOCK then s
  else
    let ring := rt - path
    let hop := held 0 65535 ((ring / (hops + 1) : Nat) + s.rdI LNK_SL_CTL_HOPADJ_CYC)
    let s1 := ((((s.wr TCK_SL_HOPDLY_DELAY hop.toNat).wr LNK_SL_STAT_RING_N hops).wr LNK_SL_STAT_RING_CYC
      (min 65535 ring)).wr LNK_SL_STAT_TRAINED 1).setLink { s.link with slEcho := false, slSending := true }
    { s1 with tick := { s1.tick with sinceTrained := some (s1.tick.sinceTrained.getD 0) } }

/-- ECHO_FAIL: no echo within 100 ms (R285). -/
def State.slEchoFail (s : State) : State :=
  if s.isOn LNK_SL_CTL_EN ∧ s.isOn LNK_SL_STAT_LOCK ∧ ¬ s.isOn LNK_SL_STAT_TRAINED then
    ((s.wr TCK_SL_HOPDLY_DELAY (s.rd LNK_SL_CTL_HOP_DEF)).setLink { s.link with slSending := true }).send 0x201 0x03 0
  else s

/-- SL_LOSS: why 0 loss of signal, at an amplitude of mv mV, 1 loss of lock (R266, R289). The lane's state follows whether
it is used or not (R298); the fault is one of a link in use (R284). -/
def State.slLoss (s : State) (why mv : Nat) : State :=
  if why = 0 ∧ ¬ mayBeLost mv then s
  else
    let s1 := ((s.wr LNK_SL_STAT_LOCK 0).wr LNK_SL_STAT_TRAINED 0).setLink { s.link with slEcho := false }
    let s2 := if why = 0 then (s1.wr LNK_SL_STAT_LOS 1).bump LNK_LANECNT_LOS else s1.bump LNK_LANECNT_LOL
    if s.isOn LNK_SL_CTL_EN then s2.send 0x201 0x01 why else s2

/-- PEER_LOST: peer i, heard before, is present no longer (R44, R289). -/
def State.peerLost (s : State) (i : Nat) : State :=
  if i ≠ s.ownIdx ∧ (s.peer i).age.isSome ∧ ¬ s.present i then
    (s.setPeer i { s.peer i with age := none }).send (0x208 + i) 0x01 0
  else s

end Sys2Proof.Machine
end

