-- ==== Sys2Proof/Machine/Boundary.lean ====
section
/-! DEFINITION. The tick boundary (R31, R33, R37–R48), the bask that starts with it (R163), and the tick and supply
monitors (R37, R423). -/

namespace Sys2Proof.Machine

/-! ### Monitors -/

/-- A period of us µs is outside the tolerance of R37. -/
def State.periodBad (s : State) (us : Nat) : Bool :=
  let p : Int := 320 * (s.tick.run : Int) + s.tick.applied
  let tol : Int := heldN 3 20 (s.rd TCK_CLKMON_TOL_PCT)
  decide (p * (100 + tol) < 32000 * (us : Int)) || decide (32000 * (us : Int) < p * (100 - tol))

/-- TICK_PERIOD of R37, once for each boundary. -/
def State.periodCheck (s : State) (us : Nat) : State :=
  if s.periodBad us ∧ ¬ s.tick.periodSent then
    let s1 := s.send 0x0DF 0x01 us
    { s1 with tick := { s1.tick with periodSent := true } }
  else s

/-- TICK_PERIOD: us µs have passed since the last boundary (R37). The period that holds a one-step alignment is not
checked; a boundary that may still come in time is no fault. -/
def State.periodWatch (s : State) (us : Nat) : State :=
  if s.tick.step ≠ 0 ∨ 32000 * (us : Int) < 100 * (320 * (s.tick.run : Int) + s.tick.applied) then s else s.periodCheck us

/-- A supply rail's under and over thresholds and their tolerance, in mV (R423): rails in the order of R370. -/
def railLimits (rail : Nat) : Nat × Nat × Nat × Nat :=
  [(2650, 5700, 53, 114), (715, 795, 10, 10), (860, 955, 10, 10), (860, 955, 10, 10), (1145, 1275, 10, 10),
    (1680, 1950, 33, 39)].getD rail (0, 0, 0, 0)

/-- SUPPLY_THRESHOLD_CROSSING: rail has stayed beyond its under or over threshold, at mv mV (R370, R423). VDD_CORE under its
limit is a power-fail (R365); how VSAFE stands then is open. -/
def State.supplyCross (s : State) (rail : Nat) (above : Bool) (mv : Nat) : State :=
  let (lo, hi, tl, th) := railLimits rail
  if above then (if hi - th ≤ mv then s.send (0x0C2 + rail) 0x02 mv else s)
  else if mv ≤ lo + tl then
    let s1 := s.send (0x0C2 + rail) 0x01 mv
    if rail = 1 then let (v, s2) := s1.free; s2.startPowerFail v else s1
  else s

/-! ### The boundary -/

/-- The tick that ends: its measured period, what the engines did, the counts of its active part (R37, R92, R149). -/
def State.tickEnds (s : State) (x : BoundaryIn) : State :=
  let s1 := if s.tick.step ≠ 0 then s.wr TCK_CLKMON_MEAS_US 0 else (s.periodCheck x.measUs).wr TCK_CLKMON_MEAS_US x.measUs
  let s2 := s1.engReports x.engines
  (s2.takeTables s.tick.time x.firmware x.tables).showCounts (x.utilA, x.utilB)

/-- Boundary k falls (R31, R33, R46–R48): the count, device time, a change of period, the bask of the tick that starts,
with the last correction again in HOLDOVER, and the tick as long as an alignment in one step asks. -/
def State.boundaryFalls (s : State) : State :=
  let k := tickAfter s.tick.count 1
  let time := s.tick.time + s.tickLength
  let s1 := if k = 2 ^ 48 - 1 ∧ s.tick.count ≠ k then s.satFlag 0 else s
  let s2 := { s1 with tick := { s1.tick with
    count := k, time := time, past := ((k, time) :: s1.tick.past).take 16, periodSent := false, step := 0 } }
  let s3 := s2.changeDue k
  let s4 := match s3.tick.announced with
    | none => s3
    | some (p, cd) =>
      if cd ≤ 1 then ({ s3 with tick := { s3.tick with announced := none } }).setPeriod p (s3.rd TCK_BASK_BASK_US)
      else { s3 with tick := { s3.tick with announced := some (p, cd - 1) } }
  let s5 := s4.frameWatch.selectMaster
  let corr := if s5.sync = .holdover then s5.tick.lastCorr else s5.tick.corr
  let bask := held 32000 256000 (320 * (s5.baskUs : Int) + corr)
  let applied := bask - 320 * (s5.baskUs : Int)
  let step : Int := match s5.tick.stepTo with
    | none => 0
    | some n => n - (320 * (s5.period : Int) + applied)
  let s6 := { s5 with
    tick := { s5.tick with
      run := s5.period, bask := bask.toNat, applied := applied, corr := 0, step := step, stepTo := none } }
  ((s6.phaseStart).wr TCK_ROWPOS_BASK 1).wr TCK_ROWPOS_ROW 0

/-- Ticks counted in other blocks (R99, R105, R113, R295, R347, R377). -/
def State.countTicks (s : State) (x : BoundaryIn) : State :=
  let s1 := s.tbTick.holdTick.graceBoundary
  ({ s1 with can := { s1.can with statTicks := min 255 (s1.can.statTicks + 1) } }).testTick x.groupFails s.flashFails

/-- The powers of the tick that ended, the frame check and the swap (R39, R181, R191). -/
def State.frameCheck (s : State) (k : Nat) (x : BoundaryIn) : State :=
  let s1 := ((s.supplyDie 0).supplyDie 1).measure.predictMiss
  let s2 := upTo 8 s1 State.freezeCheck
  let s3 := { s2 with sal := { s2.sal with before := s2.sal.shown } }
  if s3.comp.ready then
    let s4 := s3.swap x.slackUs
    { s4 with sal := { s4.sal with shown := s4.sal.next } }
  else s3.abandon.overrun k

/-- Readings, corrections and limits in force from this boundary (R184, R185, R196–R202). -/
def State.limitsNow (s : State) (x : BoundaryIn) : State :=
  let s1 := s.readSensors s.sensorOffsets x.sensors
  let s2 := (s1.compensate s1.tempTables s1.irefTrims).dieTrims
  ({ s2 with pix := { s2.pix with tgainUsed := s2.pix.tgain } }).setLimits.spendEnergy

/-- Everything that comes into force at a boundary (R73, R75, R97, R102, R136, R217, R327, R345). -/
def State.transfers (s : State) (k : Nat) : State :=
  ((((((s.commitInForce k).closeDone.epochBoundary).listActive).calBoundary).sevBoundary).takeSeed).loadSteps

/-- What goes between modules and over the twin path at boundary k (R79, R285, R322–R326). -/
def State.exchange (s : State) (k : Nat) : State :=
  (((s.twinEvaluate k).fingerprints).masterRelease k).sendBoundary k

/-- The module is fallback-capable at a boundary (R406): whole says that both rails have been at 2.7 V or above in every
sample of the tick that ended. -/
def State.capableNow (s : State) (whole : Bool) : Bool :=
  s.life.released && s.isOn SFT_SK_STAT_VALID && !s.scn.down.contains true && whole

/-- Start-up ends at the boundary at which the module becomes fallback-capable (R406, R407). -/
def State.becomeCapable (s : State) (whole : Bool) : State :=
  if ¬ s.isOn LCS_BOOT_CAPABLE ∧ s.capableNow whole then
    ((s.wr LCS_BOOT_CAPABLE 1).wr LCS_BOOT_TIME_CAP_MS (min 4095 s.sft.ms)).endStartup
  else s

/-- First light is permitted (R416). -/
def State.firstLight (s : State) : Bool :=
  s.comp.committed && s.isOn LCS_BOOT_CAPABLE && s.rd LCS_BOOT_IMAGE != 0 && decide (s.mode ≤ 1)

/-- The permit of first light at boundary k: counting of frames not ready starts at the next one (R39, R380, R416). -/
def State.permitLight (s : State) (k : Nat) : State :=
  let now := s.firstLight
  let s1 := s.wr LCS_BOOT_FIRST_LIGHT (flag now)
  if ¬ now then s1
  else
    let s2 := s1.cutShort 1 (fun t => t.num == 2 || t.num == 6)
    if s2.comp.countFrom.isNone then { s2 with comp := { s2.comp with countFrom := some (k + 1) } } else s2

/-- The source of the tick that starts (R125), LIMP_N (R301, R407), and the first light. In DARK every tile is held off and
the rows hold zeros (R125, R146), and a row missed after it is missed for the first time (R141). LIMP_N is high from the
first boundary after start-up has ended, ended, at which there is light (R404, R407). -/
def State.takeSource (s : State) (now : Nat) (ended : Bool) : State :=
  let s0 := s.wr SCN_CTL_SOURCE now
  let s1 : State := { s0 with scn := { s0.scn with
    blank := now == 2, rows := if now = 2 then [] else s0.scn.rows, missed := if now = 2 then [] else s0.scn.missed } }
  let s2 := if now = 2 then s1 else
    let a := { s1 with tick := { s1.tick with lit := true } }
    if ended then { a with sft := { a.sft with limpHigh := true } }.wr SFT_MODE_LIMP 0 else a
  if now = 0 ∧ s2.rd LCS_BOOT_TIME_LIGHT_MS = 0 then s2.wr LCS_BOOT_TIME_LIGHT_MS (min 4095 s2.sft.ms) else s2

/-- Modes, first light and the source at boundary k (R125, R301, R315, R406, R407, R416). A mode that changes at the
boundary itself is seen by scan-out at the next one. shown: a frame composed under a commit is swapped in; one composed before
the first commit makes no light (R39, log 203). -/
def State.sourceNow (s : State) (k : Nat) (whole shown : Bool) : State :=
  let s1 := s.resumeBoundary
  let m := s1.mode
  let s2 := (s1.becomeCapable whole).permitLight k
  s2.takeSource (nextSource s2.source m shown s2.firstLight s1.sft.afterLock) (s.isOn LCS_BOOT_ENDED)

/-- The uplink TICK_MARK of boundary k goes ahead of every other packet (R104, R281); none while the link does not carry
packets. -/
def State.upTickMark (s : State) : State :=
  if s.linkState = 4 then
    (s.setLink { s.link with upQueue := .msg 0x02 [s.tick.count % 2 ^ 32] :: s.link.upQueue }).pump
  else s

/-- Snapshots, completions, the write-back area and the poll of the doorbell page (R236, R237, R242, R243, R254). -/
def State.ringsNow (s : State) : State :=
  let s1 := s.writeDue
  let s2 := if s1.ring.batch ≠ 0 then s1.endBatch else s1.writeBack
  (s2.startPoll.countFull).upTickMark

/-- The Croak of the boundary that starts the bask and the readback of the tick that ended, k its count (R43, R142, R145). -/
def State.dieReports (s : State) (k : Nat) (x : BoundaryIn) : State :=
  let s1 := ((s.readbackCompare 0 k x.rbA).readbackCompare 1 k x.rbB)
  let s2 := ((s1.croakReport 0 x.croakA).croakReport 1 x.croakB).croakSkew x.croakA x.croakB (x.latA, x.latB)
  (s2.retrain x.relocked).readbackStart

/-- Self-test power of the tick that starts, by region (R191, R377): groups that run on, and the candidate that ran. -/
def State.testPower (s : State) (cand : Option Test) (ran : Bool) : Keyed Rat :=
  let on := s.bst.tests.filter Test.continuous
  let now := if ran then cand.toList.filter (fun t => t.slice.isSome) else []
  (on ++ now).foldl (fun (a : Keyed Rat) t => t.power.1.foldl (fun b p => Keyed.put b p.1 (Keyed.get b 0 p.1 + p.2)) a) []

/-- The bask of the tick that starts, from port writes to the self-test slice (R152, R158, R161–R170, R377). -/
def State.baskWork (s : State) (x : BoundaryIn) (sweep neigh : Bool) (cand : Option Test) (slice : Bool) : State :=
  let s1 := s.pix.queue.foldl State.applyPort { s with pix := { s.pix with queue := [] } }
  let s2 := x.ecc.foldl (fun a p => a.healthEcc p.1 p.2) s1
  let s3 := upTo 64 s2 (fun a n => a.refCheck x.refDev x.bandgap n)
  let r := s3.baskSteps sweep neigh x.forward x.lines x.right x.below (s3.skipRegions (if slice then cand else none))
  let p := s.pix.queue.foldl (State.keepPort s s1) r.1
  let fits : Bool := match cand with
    | none => false
    | some t => t.slice.isNone || decide (r.2 + sliceCycles t.num ≤ p.baskWindowEnd)
  let ran := slice && fits
  let s4 := p.sliceRun cand ran x.sliceFails
  let s5 := { s4 with sal := { s4.sal with slice := s4.testPower cand ran } }
  s5.calBask.saveStart

/-- Grants, budget records and what the budget registers show (R183, R190, R194, R195, R204), then the bask's work. -/
def State.budgetNow (s0 : State) (x : BoundaryIn) (swapped : Bool) : State :=
  let s := s0.testModes
  let cand := s.sliceTest
  let g := s.grants (cand.map Test.power)
  let s1 := g.1.refreshPackage
  let s2 := if ¬ swapped ∧ s1.comp.everSwapped then s1.repeatOver else s1
  ((s2.writeRecords swapped).showBudget).takeSnapshots.baskWork x g.2.1 g.2.2.1 cand g.2.2.2

/-- TICK_BOUNDARY (R31): the count at its end is k, which `boundaryFalls` has made it and nothing else moves. -/
def State.boundary (s : State) (x : BoundaryIn) : State :=
  let k := tickAfter s.tick.count 1
  let whole := s.sal.lowest.all (fun v => match v with
    | none => false
    | some n => decide (2700 ≤ n))
  let swapped := s.comp.ready
  let shown := swapped && s.comp.committed
  let sc := s.canDrain
  let s0 : State := { sc.adaptEq x.eq with ring := { sc.ring with gather := true } }
  let s1 := ((s0.tickEnds x).boundaryFalls).countTicks x
  let s2 := ((s1.frameCheck k x).sampleSetup.transfers k).limitsNow x
  let s3 := ((s2.exchange k).sourceNow k whole shown).showPermit
  let s4 := (s3.dieReports s.tick.count x).budgetNow x swapped
  let s5 := ((s4.openTick).crcDrainAll.startGecko.countStale.startComposition).ringsNow.watched
  { s5 with tick := { s5.tick with count := k } }

end Sys2Proof.Machine
end

