-- ==== Sys2Proof/Machine/FrameCommands.lean ====
section
/-! DEFINITION. The tick, the frame pipeline and the run-length thresholds (R31–R41, R75–R82, R105–R199, R324–R326): the meaning of each. -/

namespace Sys2Proof.Machine

/-- TICK_BOUNDARY (R31). -/
def execTickBoundary (x : BoundaryIn) (s : State) : Host.Outcome State Fault Refusal :=
  programs (Instr.tickBoundary x).wf s (s.boundary x)

/-- TICK_CHANGE_IN_FORCE (R33). -/
def execTickChangeInForce (s : State) : Host.Outcome State Fault Refusal :=
  runs Instr.tickChangeInForce.wf s s.tickChangeInForce

/-- BASK_END (R31). -/
def execBaskEnd (s : State) : Host.Outcome State Fault Refusal :=
  runs Instr.baskEnd.wf s s.baskEnd

/-- ROW_START (R129). -/
def execRowStart (missed : List Nat) (crc : List (Nat × Nat)) (s : State) : Host.Outcome State Fault Refusal :=
  runs (Instr.rowStart missed crc).wf s ((s.rowStart missed crc).watched)

/-- COMMIT_CUTOFF (R75). -/
def execCommitCutoff (s : State) : Host.Outcome State Fault Refusal :=
  runs Instr.commitCutoff.wf s s.commitCutoff

/-- GECKO_BAND_DONE (R112). -/
def execGeckoBandDone (us : Nat) (s : State) : Host.Outcome State Fault Refusal :=
  runs (Instr.geckoBandDone us).wf s (s.renderBand us)

/-- COMPOSITION_DONE (R186). -/
def execCompositionDone (us : Nat) (s : State) : Host.Outcome State Fault Refusal :=
  runs (Instr.compositionDone us).wf s (s.compositionDone us)

/-- RESOLVE_DONE (R187). -/
def execResolveDone (tenths : Nat) (s : State) : Host.Outcome State Fault Refusal :=
  runs (Instr.resolveDone tenths).wf s (s.resolveDone tenths s.permitNow)

/-- SCALE_CLAMP_DONE (R38). -/
def execScaleClampDone (upsets : List (Nat × Nat)) (s : State) : Host.Outcome State Fault Refusal :=
  runs (Instr.scaleClampDone upsets).wf s (s.scaleClampDone upsets)

/-- FRAME_REPEAT_LIMIT (R41). -/
def execFrameRepeatLimit (s : State) : Host.Outcome State Fault Refusal :=
  runs Instr.frameRepeatLimit.wf s s.frameRepeatLimit

/-- LAYER_FROZEN (R82). -/
def execLayerFrozen (n : Nat) (s : State) : Host.Outcome State Fault Refusal :=
  runs (Instr.layerFrozen n).wf s (s.layerFrozen n)

/-- EPOCH_TIMEOUT (R80). -/
def execEpochTimeout (s : State) : Host.Outcome State Fault Refusal :=
  runs Instr.epochTimeout.wf s s.epochTimeout

/-- OBJECTS_STALE (R113). -/
def execObjectsStale (s : State) : Host.Outcome State Fault Refusal :=
  runs Instr.objectsStale.wf s s.objectsStale

/-- TIMEBASE_LOST (R105). -/
def execTimebaseLost (s : State) : Host.Outcome State Fault Refusal :=
  runs Instr.timebaseLost.wf s s.timebaseLost

/-- SWEEP_STALL (R162). -/
def execSweepStall (s : State) : Host.Outcome State Fault Refusal :=
  runs Instr.sweepStall.wf s s.sweepStall

/-- SWEEP_FORCED (R194). -/
def execSweepForced (s : State) : Host.Outcome State Fault Refusal :=
  runs Instr.sweepForced.wf s s.sweepForced

/-- VLED_UNDER (R181). -/
def execVledUnder (d : Nat) (s : State) : Host.Outcome State Fault Refusal :=
  runs (Instr.vledUnder d).wf s ((s.vledUnder d).1.watched)

/-- SENSOR_READMIT (R197). -/
def execSensorReadmit (i : Nat) (s : State) : Host.Outcome State Fault Refusal :=
  runs (Instr.sensorReadmit i).wf s (s.sensorReadmit i)

/-- THROTTLE_FREEZE_LIFT (R199). -/
def execThrottleFreezeLift (i : Nat) (s : State) : Host.Outcome State Fault Refusal :=
  runs (Instr.throttleFreezeLift i).wf s (s.freezeLift i)

/-- READBACK_MISMATCH (R145). -/
def execReadbackMismatch (d : Nat) (s : State) : Host.Outcome State Fault Refusal :=
  runs (Instr.readbackMismatch d).wf s (s.readbackMismatch d)

/-- FINGERPRINT_MISMATCH (R326). -/
def execFingerprintMismatch (i : Nat) (s : State) : Host.Outcome State Fault Refusal :=
  runs (Instr.fingerprintMismatch i).wf s (s.fpMismatch i)

/-- TWIN_MISMATCH (R324). -/
def execTwinMismatch (s : State) : Host.Outcome State Fault Refusal :=
  runs Instr.twinMismatch.wf s s.twinMismatch

end Sys2Proof.Machine
end

