-- ==== Sys2Proof/Machine/LinkCommands.lean ====
section
/-! DEFINITION. The Pelzon link: packets of the host, host reads, training and power states (R257–R283): the meaning of each. -/

namespace Sys2Proof.Machine

/-- LINK_READ_REQUEST (R275). -/
def execLinkReadRequest (w : Wire) (h : Head) (tag : Nat) (addr : Nat) (len : Nat) (s : State) : Host.Outcome State Fault Refusal :=
  runs (Instr.linkReadRequest w h tag addr len).wf s
    (s.received w 0 1 0 (fun a => a.headed h 0 tag (fun b => b.linkRead tag addr len)))

/-- LINK_WRITE_REQUEST (R275). -/
def execLinkWriteRequest (w : Wire) (h : Head) (addr : Nat) (words : List Nat) (s : State) : Host.Outcome State Fault Refusal :=
  advances (Instr.linkWriteRequest w h addr words).wf s
    (s.received w 1 0 words.length (fun a => a.headed h 1 0 (fun b => b.linkWrite addr words)))

/-- HOST_READ_COMPLETION (R278). -/
def execHostReadCompletion (w : Wire) (h : Head) (tag : Nat) (off : Nat) (last : Bool) (words : List Nat) (s : State) : Host.Outcome State Fault Refusal :=
  runs (Instr.hostReadCompletion w h tag off last words).wf s
    (s.received w 0 0 0 (fun a => a.headed h 2 tag (fun b => b.cplArrives tag off last words)))

/-- HOST_READ_ERROR (R244). -/
def execHostReadError (w : Wire) (h : Head) (tag : Nat) (err : Nat) (s : State) : Host.Outcome State Fault Refusal :=
  runs (Instr.hostReadError w h tag err).wf s (s.received w 0 0 0 (fun a => a.headed h 3 tag (fun b => b.errorArrives tag err)))

/-- HOST_READ_TIMEOUT (R244). -/
def execHostReadTimeout (tag : Nat) (s : State) : Host.Outcome State Fault Refusal :=
  runs (Instr.hostReadTimeout tag).wf s (s.readTimeout tag)

/-- DESCRIPTOR_RELEASE (R241). -/
def execDescriptorRelease (r : Nat) (s : State) : Host.Outcome State Fault Refusal :=
  runs (Instr.descriptorRelease r).wf s (s.release r)

/-- CPL_RING_RETRY (R243). -/
def execCplRingRetry (r : Nat) (s : State) : Host.Outcome State Fault Refusal :=
  runs (Instr.cplRingRetry r).wf s (s.cplRetry r)

/-- CPL_STALL (R243). -/
def execCplStall (r : Nat) (s : State) : Host.Outcome State Fault Refusal :=
  runs (Instr.cplStall r).wf s (s.cplStall r)

/-- DOORBELL_HINT (R237). -/
def execDoorbellHint (w : Wire) (h : Head) (words : List Nat) (s : State) : Host.Outcome State Fault Refusal :=
  runs (Instr.doorbellHint w h words).wf s
    (s.received w 1 0 words.length (fun a => a.headed h 4 1 (fun b => b.hintArrives words)))

/-- TICK_MARK (R105). -/
def execTickMark (w : Wire) (h : Head) (words : List Nat) (s : State) : Host.Outcome State Fault Refusal :=
  runs (Instr.tickMark w h words).wf s
    (s.received w 1 0 words.length (fun a => a.headed h 4 2 (fun b => b.markArrives words)))

/-- SAFETY_COPY (R283). -/
def execSafetyCopy (w : Wire) (h : Head) (words : List Nat) (s : State) : Host.Outcome State Fault Refusal :=
  runs (Instr.safetyCopy w h words).wf s
    (s.received w 1 0 words.length (fun a => a.headed h 4 3 (fun b => b.safetyCopy words)))

/-- LLC_BLOCK (R277). -/
def execLlcBlock (copies : List (List Nat)) (s : State) : Host.Outcome State Fault Refusal :=
  runs (Instr.llcBlock copies).wf s (s.llcBlock copies)

/-- REPLAY_TIMEOUT (R277). -/
def execReplayTimeout (s : State) : Host.Outcome State Fault Refusal :=
  runs Instr.replayTimeout.wf s s.replay

/-- PM_L1_ENTRY (R271). -/
def execPmL1Entry (copies : List (List Nat)) (s : State) : Host.Outcome State Fault Refusal :=
  runs (Instr.pmL1Entry copies).wf s (s.pmBlock copies)

/-- PM_L2_REQUEST (R272). -/
def execPmL2Request (copies : List (List Nat)) (s : State) : Host.Outcome State Fault Refusal :=
  runs (Instr.pmL2Request copies).wf s (s.pmBlock copies)

/-- UPLINK_L1_IDLE (R271). -/
def execUplinkL1Idle (s : State) : Host.Outcome State Fault Refusal :=
  runs Instr.uplinkL1Idle.wf s s.uplinkIdle

/-- UPLINK_L1_EXIT (R271). -/
def execUplinkL1Exit (s : State) : Host.Outcome State Fault Refusal :=
  runs Instr.uplinkL1Exit.wf s s.uplinkExit

/-- DOWNLINK_L1_EXIT (R271). -/
def execDownlinkL1Exit (s : State) : Host.Outcome State Fault Refusal :=
  runs Instr.downlinkL1Exit.wf s s.downlinkExit

/-- L2_EXIT (R272). -/
def execL2Exit (s : State) : Host.Outcome State Fault Refusal :=
  runs Instr.l2Exit.wf s s.l2ExitStart

/-- L2_EXIT_TIMEOUT (R448). -/
def execL2ExitTimeout (s : State) : Host.Outcome State Fault Refusal :=
  runs Instr.l2ExitTimeout.wf s s.l2ExitTimeout

/-- ECHO_RETURN (R282). -/
def execEchoReturn (copies : List (List Nat)) (rtt : Nat) (s : State) : Host.Outcome State Fault Refusal :=
  runs (Instr.echoReturn copies rtt).wf s (s.echoReturn copies rtt)

/-- TRAINING_BLOCK (R264). -/
def execTrainingBlock (l : Nat) (first : List Nat) (second : List Nat) (s : State) : Host.Outcome State Fault Refusal :=
  runs (Instr.trainingBlock l first second).wf s (s.trainingBlock l first second)

/-- LANE_SIGNAL_DETECT (R266). -/
def execLaneSignalDetect (l : Nat) (mv : Nat) (s : State) : Host.Outcome State Fault Refusal :=
  runs (Instr.laneSignalDetect l mv).wf s (s.signalDetect l mv)

/-- LANE_LOSS_OF_SIGNAL (R266). -/
def execLaneLossOfSignal (l : Nat) (mv : Nat) (s : State) : Host.Outcome State Fault Refusal :=
  runs (Instr.laneLossOfSignal l mv).wf s (s.signalLost l mv)

/-- BLOCK_LOCK_ACQUIRED (R261). -/
def execBlockLockAcquired (l : Nat) (inverted : Bool) (deskew : Nat) (s : State) : Host.Outcome State Fault Refusal :=
  runs (Instr.blockLockAcquired l inverted deskew).wf s (s.lockAcquired l inverted deskew)

/-- BLOCK_LOCK_LOST (R261). -/
def execBlockLockLost (l : Nat) (s : State) : Host.Outcome State Fault Refusal :=
  runs (Instr.blockLockLost l).wf s (s.lockLost l)

/-- TRAINING_PHASE_DONE (R267). -/
def execTrainingPhaseDone (us : Nat) (eq : List LaneEq) (s : State) : Host.Outcome State Fault Refusal :=
  runs (Instr.trainingPhaseDone us eq).wf s (s.phaseDone us eq)

/-- TRAINING_ATTEMPT_TIMEOUT (R267). -/
def execTrainingAttemptTimeout (s : State) : Host.Outcome State Fault Refusal :=
  runs Instr.trainingAttemptTimeout.wf s s.attemptTimeout

/-- BACKOFF_ELAPSED (R267). -/
def execBackoffElapsed (s : State) : Host.Outcome State Fault Refusal :=
  programs Instr.backoffElapsed.wf s s.backoffElapsed

/-- LINK_DOWN_RETRY (R267). -/
def execLinkDownRetry (s : State) : Host.Outcome State Fault Refusal :=
  runs Instr.linkDownRetry.wf s s.downRetry

/-- RECOVERY_TIMEOUT (R267). -/
def execRecoveryTimeout (s : State) : Host.Outcome State Fault Refusal :=
  runs Instr.recoveryTimeout.wf s s.recoveryTimeout

/-- HOST_LOSS_TIMEOUT (R270). -/
def execHostLossTimeout (s : State) : Host.Outcome State Fault Refusal :=
  programs Instr.hostLossTimeout.wf s s.hostLossTimeout

/-- TAG_QUARANTINE_END (R278). -/
def execTagQuarantineEnd (tag : Nat) (s : State) : Host.Outcome State Fault Refusal :=
  runs (Instr.tagQuarantineEnd tag).wf s (s.quarantineEnd tag)

/-- L1_RECAL_START (R226). -/
def execL1RecalStart (l : Nat) (s : State) : Host.Outcome State Fault Refusal :=
  runs (Instr.l1RecalStart l).wf s (s.recalStart l)

/-- L1_RECAL_DONE (R226). -/
def execL1RecalDone (l : Nat) (data : Int) (err : Int) (s : State) : Host.Outcome State Fault Refusal :=
  runs (Instr.l1RecalDone l data err).wf s (s.recalDone l data err)

end Sys2Proof.Machine
end

