-- ==== Sys2Proof/Machine/MonitorCommands.lean ====
section
/-! DEFINITION. Clock, bus and supply monitors, resets, test access and pins (R37, R135, R142, R143, R296, R336, R365, R370, R393, R398, R401): the meaning of each. -/

namespace Sys2Proof.Machine

/-- TICK_PERIOD (R37). -/
def execTickPeriod (us : Nat) (s : State) : Host.Outcome State Fault Refusal :=
  runs (Instr.tickPeriod us).wf s (s.periodWatch us)

/-- SCAN_CLOCK_CHECK (R336). -/
def execScanClockCheck (sca : Nat) (scb : Nat) (s : State) : Host.Outcome State Fault Refusal :=
  runs (Instr.scanClockCheck sca scb).wf s (s.scanClockCheck sca scb)

/-- PLL_UNLOCK (R37). -/
def execPllUnlock (s : State) : Host.Outcome State Fault Refusal :=
  runs Instr.pllUnlock.wf s s.pllUnlock

/-- PIXBUS_LOCK_LOST (R142). -/
def execPixbusLockLost (d : Nat) (l : Nat) (s : State) : Host.Outcome State Fault Refusal :=
  runs (Instr.pixbusLockLost d l).wf s (s.pixbusLockLost d l)

/-- EMITTER_CROAK_TIMEOUT (R143). -/
def execEmitterCroakTimeout (d : Nat) (s : State) : Host.Outcome State Fault Refusal :=
  runs (Instr.emitterCroakTimeout d).wf s (s.croakTimeout d)

/-- VSAFE_POWER_ON (R401). -/
def execVsafePowerOn (mv : Nat) (s : State) : Host.Outcome State Fault Refusal :=
  resetsTo (Instr.vsafePowerOn mv).wf s (s.powerOn mv)

/-- RAIL_BELOW_RESET (R401). -/
def execRailBelowReset (rail : Nat) (mv : Nat) (s : State) : Host.Outcome State Fault Refusal :=
  resetsTo (Instr.railBelowReset rail mv).wf s (s.railReset rail mv)

/-- RESET_N_PULSE (R401). -/
def execResetNPulse (ns : Nat) (choice : Bool) (s : State) : Host.Outcome State Fault Refusal :=
  resetsTo (Instr.resetNPulse ns choice).wf s (s.resetPulse ns choice)

/-- RESET_RELEASE (R398). -/
def execResetRelease (x : StartIn) (s : State) : Host.Outcome State Fault Refusal :=
  boots (Instr.resetRelease x).wf s (s.release0 x)

/-- SUPPLY_THRESHOLD_CROSSING (R423). -/
def execSupplyThresholdCrossing (rail : Nat) (above : Bool) (mv : Nat) (s : State) : Host.Outcome State Fault Refusal :=
  runs (Instr.supplyThresholdCrossing rail above mv).wf s (s.supplyCross rail above mv)

/-- POWER_FAIL (R365). -/
def execPowerFail (vsafe : Nat) (s : State) : Host.Outcome State Fault Refusal :=
  runs (Instr.powerFail vsafe).wf s (s.powerFail vsafe)

/-- JTAG_INSTRUCTION (R393). -/
def execJtagInstruction (i : JtagOp) (s : State) : Host.Outcome State Fault Refusal :=
  advances (Instr.jtagInstruction i).wf s (s.jtagDo i)

/-- JTAG_TAP_RESET (R393). -/
def execJtagTapReset (low : Bool) (s : State) : Host.Outcome State Fault Refusal :=
  holds (Instr.jtagTapReset low).wf s (s.tapReset low)

/-- SUB_PERIOD_START (R181). -/
def execSubPeriodStart (a : Nat) (b : Nat) (s : State) : Host.Outcome State Fault Refusal :=
  runs (Instr.subPeriodStart a b).wf s (s.subPeriodStart a b)

/-- PLL_LOCKED (R305). -/
def execPllLocked (s : State) : Host.Outcome State Fault Refusal :=
  runs Instr.pllLocked.wf s s.pllLocked

/-- CAN_FRAME_SENT (R296). -/
def execCanFrameSent (tdcv : Nat) (errs : Nat) (s : State) : Host.Outcome State Fault Refusal :=
  runs (Instr.canFrameSent tdcv errs).wf s (s.frameSent tdcv errs)

/-- VSAFE_BELOW_RESET (R365). -/
def execVsafeBelowReset (mv : Nat) (s : State) : Host.Outcome State Fault Refusal :=
  resetsTo (Instr.vsafeBelowReset mv).wf s (s.vsafeDown mv)

end Sys2Proof.Machine
end

