-- ==== Sys2Proof/Machine/SafetyCommands.lean ====
section
/-! DEFINITION. The safety island (R300–R335, R407, R417): the meaning of each. -/

namespace Sys2Proof.Machine

/-- PASSWORD_LOCK_EXPIRY (R332). -/
def execPasswordLockExpiry (s : State) : Host.Outcome State Fault Refusal :=
  programs Instr.passwordLockExpiry.wf s s.lockExpiry

/-- SESSION_TIMEOUT (R334). -/
def execSessionTimeout (s : State) : Host.Outcome State Fault Refusal :=
  programs Instr.sessionTimeout.wf s s.sessionTimeout

/-- PILOT_CONFIRM_TIMEOUT (R333). -/
def execPilotConfirmTimeout (s : State) : Host.Outcome State Fault Refusal :=
  runs Instr.pilotConfirmTimeout.wf s s.pilotTimeout

/-- DUAL_INPUT_SAMPLE (R317). -/
def execDualInputSample (pins : Nat) (s : State) : Host.Outcome State Fault Refusal :=
  runs (Instr.dualInputSample pins).wf s (s.inputSample pins)

/-- DISCREPANCY (R318). -/
def execDiscrepancy (i : Nat) (s : State) : Host.Outcome State Fault Refusal :=
  runs (Instr.discrepancy i).wf s (s.discrepancy i)

/-- INPUT_REARM (R318). -/
def execInputRearm (i : Nat) (s : State) : Host.Outcome State Fault Refusal :=
  runs (Instr.inputRearm i).wf s (s.inputRearm i)

/-- HOST_WAIT (R417). -/
def execHostWait (s : State) : Host.Outcome State Fault Refusal :=
  runs Instr.hostWait.wf s s.hostWait

/-- STARTUP_DEADLINE (R407). -/
def execStartupDeadline (s : State) : Host.Outcome State Fault Refusal :=
  runs Instr.startupDeadline.wf s s.startupDeadline

/-- SKINK_SRAM_CHECK (R310). -/
def execSkinkSramCheck (upsets : List (Nat × Nat)) (s : State) : Host.Outcome State Fault Refusal :=
  runs (Instr.skinkSramCheck upsets).wf s (s.skinkSramCheck upsets)

/-- SKINK_ENVELOPE_RECHECK (R310). -/
def execSkinkEnvelopeRecheck (s : State) : Host.Outcome State Fault Refusal :=
  runs Instr.skinkEnvelopeRecheck.wf s s.skinkRecheck

end Sys2Proof.Machine
end

