-- ==== Sys2Proof/Machine/SharingCommands.lean ====
section
/-! DEFINITION. The system link and the shared tick (R44–R48, R284–R289): the meaning of each. -/

namespace Sys2Proof.Machine

/-- SL_FRAME_RECEIVED (R286). -/
def execSlFrameReceived (bs : List Nat) (arr : Nat) (s : State) : Host.Outcome State Fault Refusal :=
  runs (Instr.slFrameReceived bs arr).wf s (s.slReceive bs arr)

/-- SL_ECHO_SEND (R285). -/
def execSlEchoSend (s : State) : Host.Outcome State Fault Refusal :=
  runs Instr.slEchoSend.wf s s.slEchoSend

/-- SL_ECHO_RETURN (R285). -/
def execSlEchoReturn (rt : Nat) (hops : Nat) (path : Nat) (s : State) : Host.Outcome State Fault Refusal :=
  runs (Instr.slEchoReturn rt hops path).wf s (s.slEchoReturn rt hops path)

/-- ECHO_FAIL (R285). -/
def execEchoFail (s : State) : Host.Outcome State Fault Refusal :=
  runs Instr.echoFail.wf s s.slEchoFail

/-- SL_LOSS (R289). -/
def execSlLoss (why : Nat) (mv : Nat) (s : State) : Host.Outcome State Fault Refusal :=
  runs (Instr.slLoss why mv).wf s (s.slLoss why mv)

/-- PEER_LOST (R289). -/
def execPeerLost (i : Nat) (s : State) : Host.Outcome State Fault Refusal :=
  runs (Instr.peerLost i).wf s (s.peerLost i)

/-- HOLDOVER_EXPIRY (R48). -/
def execHoldoverExpiry (s : State) : Host.Outcome State Fault Refusal :=
  runs Instr.holdoverExpiry.wf s s.holdoverExpiry

/-- ELIGIBILITY_REACHED (R45). -/
def execEligibilityReached (s : State) : Host.Outcome State Fault Refusal :=
  runs Instr.eligibilityReached.wf s s.eligibilityReached

end Sys2Proof.Machine
end

