-- ==== Sys2Proof/Machine/Dispatch.lean ====
section
/-! DEFINITION. Which meaning each command has. -/

namespace Sys2Proof.Machine

def exec (i : Instr) (s : State) : Host.Outcome State Fault Refusal :=
  match i with
  | .surfaceBind d => Sys2Proof.Machine.execSurfaceBind d s
  | .layerSet d => Sys2Proof.Machine.execLayerSet d s
  | .commit d => Sys2Proof.Machine.execCommit d s
  | .fadeLoad d => Sys2Proof.Machine.execFadeLoad d s
  | .symbolLoad d => Sys2Proof.Machine.execSymbolLoad d s
  | .objectList d => Sys2Proof.Machine.execObjectList d s
  | .budgetSet d => Sys2Proof.Machine.execBudgetSet d s
  | .envelopeLoad d => Sys2Proof.Machine.execEnvelopeLoad d s
  | .calUserWrite d => Sys2Proof.Machine.execCalUserWrite d s
  | .bistRun d => Sys2Proof.Machine.execBistRun d s
  | .recorderRead d => Sys2Proof.Machine.execRecorderRead d s
  | .recorderFreeze d => Sys2Proof.Machine.execRecorderFreeze d s
  | .crcRun d => Sys2Proof.Machine.execCrcRun d s
  | .resume d => Sys2Proof.Machine.execResume d s
  | .statusSnapshot d => Sys2Proof.Machine.execStatusSnapshot d s
  | .engineLoad d => Sys2Proof.Machine.execEngineLoad d s
  | .unknownOpcode op d => Sys2Proof.Machine.execUnknownOpcode op d s
  | .symbolLoadDone => Sys2Proof.Machine.execSymbolLoadDone s
  | .envelopeLoadDone => Sys2Proof.Machine.execEnvelopeLoadDone s
  | .calFirstPassDone => Sys2Proof.Machine.execCalFirstPassDone s
  | .calSecondPassDone => Sys2Proof.Machine.execCalSecondPassDone s
  | .calProgramDone ok => Sys2Proof.Machine.execCalProgramDone ok s
  | .engineImageVerified e => Sys2Proof.Machine.execEngineImageVerified e s
  | .bistTestEnd fails => Sys2Proof.Machine.execBistTestEnd fails s
  | .recorderReadDone => Sys2Proof.Machine.execRecorderReadDone s
  | .crcRunDone => Sys2Proof.Machine.execCrcRunDone s
  | .healthSaveDone ok => Sys2Proof.Machine.execHealthSaveDone ok s
  | .registerWrite acc off v => Sys2Proof.Machine.execRegisterWrite acc off v s
  | .readClear acc off => Sys2Proof.Machine.execReadClear acc off s
  | .broadcastWrite acc page off v => Sys2Proof.Machine.execBroadcastWrite acc page off v s
  | .broadcastRead acc page off => Sys2Proof.Machine.execBroadcastRead acc page off s
  | .tckCountLoRead => Sys2Proof.Machine.execTckCountLoRead s
  | .tckApplyGo v => Sys2Proof.Machine.execTckApplyGo v s
  | .seedWrite v => Sys2Proof.Machine.execSeedWrite v s
  | .axlHdataWrite byEngine v => Sys2Proof.Machine.execAxlHdataWrite byEngine v s
  | .axlHdataRead => Sys2Proof.Machine.execAxlHdataRead s
  | .axlSaveGo => Sys2Proof.Machine.execAxlSaveGo s
  | .ringEnable r => Sys2Proof.Machine.execRingEnable r s
  | .ringDisable r => Sys2Proof.Machine.execRingDisable r s
  | .eventRingEnable => Sys2Proof.Machine.execEventRingEnable s
  | .eventRingDisable => Sys2Proof.Machine.execEventRingDisable s
  | .fltAck n => Sys2Proof.Machine.execFltAck n s
  | .fltAckAllS2 => Sys2Proof.Machine.execFltAckAllS2 s
  | .fltAckAllInj => Sys2Proof.Machine.execFltAckAllInj s
  | .fltInjGo => Sys2Proof.Machine.execFltInjGo s
  | .fltSevWrite idx v => Sys2Proof.Machine.execFltSevWrite idx v s
  | .lcsAdvance target key => Sys2Proof.Machine.execLcsAdvance target key s
  | .lcsReturn => Sys2Proof.Machine.execLcsReturn s
  | .sessionOpenPassword len => Sys2Proof.Machine.execSessionOpenPassword len s
  | .sessionOpenPilot => Sys2Proof.Machine.execSessionOpenPilot s
  | .sessionClose => Sys2Proof.Machine.execSessionClose s
  | .sessionSetPassword len => Sys2Proof.Machine.execSessionSetPassword len s
  | .sftPilotCrcWrite v => Sys2Proof.Machine.execSftPilotCrcWrite v s
  | .sftFeatWrite v => Sys2Proof.Machine.execSftFeatWrite v s
  | .bstAbort => Sys2Proof.Machine.execBstAbort s
  | .bstStartGo num => Sys2Proof.Machine.execBstStartGo num s
  | .crcStart u v => Sys2Proof.Machine.execCrcStart u v s
  | .crcDataWrite u n v => Sys2Proof.Machine.execCrcDataWrite u n v s
  | .crcValueWrite u v => Sys2Proof.Machine.execCrcValueWrite u v s
  | .crcRead u result => Sys2Proof.Machine.execCrcRead u result s
  | .lnkRetrain => Sys2Proof.Machine.execLnkRetrain s
  | .linkReadRequest w h tag addr len => Sys2Proof.Machine.execLinkReadRequest w h tag addr len s
  | .linkWriteRequest w h addr words => Sys2Proof.Machine.execLinkWriteRequest w h addr words s
  | .hostReadCompletion w h tag off last words => Sys2Proof.Machine.execHostReadCompletion w h tag off last words s
  | .hostReadError w h tag err => Sys2Proof.Machine.execHostReadError w h tag err s
  | .hostReadTimeout tag => Sys2Proof.Machine.execHostReadTimeout tag s
  | .descriptorRelease r => Sys2Proof.Machine.execDescriptorRelease r s
  | .cplRingRetry r => Sys2Proof.Machine.execCplRingRetry r s
  | .cplStall r => Sys2Proof.Machine.execCplStall r s
  | .doorbellHint w h words => Sys2Proof.Machine.execDoorbellHint w h words s
  | .tickMark w h words => Sys2Proof.Machine.execTickMark w h words s
  | .safetyCopy w h words => Sys2Proof.Machine.execSafetyCopy w h words s
  | .llcBlock copies => Sys2Proof.Machine.execLlcBlock copies s
  | .replayTimeout => Sys2Proof.Machine.execReplayTimeout s
  | .pmL1Entry copies => Sys2Proof.Machine.execPmL1Entry copies s
  | .pmL2Request copies => Sys2Proof.Machine.execPmL2Request copies s
  | .uplinkL1Idle => Sys2Proof.Machine.execUplinkL1Idle s
  | .uplinkL1Exit => Sys2Proof.Machine.execUplinkL1Exit s
  | .downlinkL1Exit => Sys2Proof.Machine.execDownlinkL1Exit s
  | .l2Exit => Sys2Proof.Machine.execL2Exit s
  | .l2ExitTimeout => Sys2Proof.Machine.execL2ExitTimeout s
  | .echoReturn copies rtt => Sys2Proof.Machine.execEchoReturn copies rtt s
  | .trainingBlock l first second => Sys2Proof.Machine.execTrainingBlock l first second s
  | .laneSignalDetect l mv => Sys2Proof.Machine.execLaneSignalDetect l mv s
  | .laneLossOfSignal l mv => Sys2Proof.Machine.execLaneLossOfSignal l mv s
  | .blockLockAcquired l inverted deskew => Sys2Proof.Machine.execBlockLockAcquired l inverted deskew s
  | .blockLockLost l => Sys2Proof.Machine.execBlockLockLost l s
  | .trainingPhaseDone us eq => Sys2Proof.Machine.execTrainingPhaseDone us eq s
  | .trainingAttemptTimeout => Sys2Proof.Machine.execTrainingAttemptTimeout s
  | .backoffElapsed => Sys2Proof.Machine.execBackoffElapsed s
  | .linkDownRetry => Sys2Proof.Machine.execLinkDownRetry s
  | .recoveryTimeout => Sys2Proof.Machine.execRecoveryTimeout s
  | .hostLossTimeout => Sys2Proof.Machine.execHostLossTimeout s
  | .tagQuarantineEnd tag => Sys2Proof.Machine.execTagQuarantineEnd tag s
  | .l1RecalStart l => Sys2Proof.Machine.execL1RecalStart l s
  | .l1RecalDone l data err => Sys2Proof.Machine.execL1RecalDone l data err s
  | .slFrameReceived bs arr => Sys2Proof.Machine.execSlFrameReceived bs arr s
  | .slEchoSend => Sys2Proof.Machine.execSlEchoSend s
  | .slEchoReturn rt hops path => Sys2Proof.Machine.execSlEchoReturn rt hops path s
  | .echoFail => Sys2Proof.Machine.execEchoFail s
  | .slLoss why mv => Sys2Proof.Machine.execSlLoss why mv s
  | .peerLost idx => Sys2Proof.Machine.execPeerLost idx s
  | .holdoverExpiry => Sys2Proof.Machine.execHoldoverExpiry s
  | .eligibilityReached => Sys2Proof.Machine.execEligibilityReached s
  | .canSafetyPart f busy => Sys2Proof.Machine.execCanSafetyPart f busy s
  | .canAssemblyTimeout => Sys2Proof.Machine.execCanAssemblyTimeout s
  | .canStatusRequest f busy => Sys2Proof.Machine.execCanStatusRequest f busy s
  | .canFallbackRequest f busy => Sys2Proof.Machine.execCanFallbackRequest f busy s
  | .canRemoteFrame errs => Sys2Proof.Machine.execCanRemoteFrame errs s
  | .canStatusPeriod => Sys2Proof.Machine.execCanStatusPeriod s
  | .canErrorPassive tec rc => Sys2Proof.Machine.execCanErrorPassive tec rc s
  | .canBusOff => Sys2Proof.Machine.execCanBusOff s
  | .canBusOffRecovery => Sys2Proof.Machine.execCanBusOffRecovery s
  | .tickBoundary x => Sys2Proof.Machine.execTickBoundary x s
  | .tickChangeInForce => Sys2Proof.Machine.execTickChangeInForce s
  | .baskEnd => Sys2Proof.Machine.execBaskEnd s
  | .rowStart missed crc => Sys2Proof.Machine.execRowStart missed crc s
  | .commitCutoff => Sys2Proof.Machine.execCommitCutoff s
  | .geckoBandDone us => Sys2Proof.Machine.execGeckoBandDone us s
  | .compositionDone us => Sys2Proof.Machine.execCompositionDone us s
  | .resolveDone tenths => Sys2Proof.Machine.execResolveDone tenths s
  | .scaleClampDone upsets => Sys2Proof.Machine.execScaleClampDone upsets s
  | .frameRepeatLimit => Sys2Proof.Machine.execFrameRepeatLimit s
  | .layerFrozen n => Sys2Proof.Machine.execLayerFrozen n s
  | .epochTimeout => Sys2Proof.Machine.execEpochTimeout s
  | .objectsStale => Sys2Proof.Machine.execObjectsStale s
  | .timebaseLost => Sys2Proof.Machine.execTimebaseLost s
  | .sweepStall => Sys2Proof.Machine.execSweepStall s
  | .sweepForced => Sys2Proof.Machine.execSweepForced s
  | .vledUnder d => Sys2Proof.Machine.execVledUnder d s
  | .sensorReadmit idx => Sys2Proof.Machine.execSensorReadmit idx s
  | .throttleFreezeLift idx => Sys2Proof.Machine.execThrottleFreezeLift idx s
  | .readbackMismatch d => Sys2Proof.Machine.execReadbackMismatch d s
  | .fingerprintMismatch idx => Sys2Proof.Machine.execFingerprintMismatch idx s
  | .twinMismatch => Sys2Proof.Machine.execTwinMismatch s
  | .engineItemPreempt e idx => Sys2Proof.Machine.execEngineItemPreempt e idx s
  | .engineWatchdog e pc => Sys2Proof.Machine.execEngineWatchdog e pc s
  | .engineAccessViolation e addr => Sys2Proof.Machine.execEngineAccessViolation e addr s
  | .engineEccError e double data addr => Sys2Proof.Machine.execEngineEccError e double data addr s
  | .engineIllegalOp e pc => Sys2Proof.Machine.execEngineIllegalOp e pc s
  | .engineEventPost e w1 lo hi => Sys2Proof.Machine.execEngineEventPost e w1 lo hi s
  | .extTableHoldExpiry e => Sys2Proof.Machine.execExtTableHoldExpiry e s
  | .faultMessage outside => Sys2Proof.Machine.execFaultMessage outside s
  | .graceExpiry => Sys2Proof.Machine.execGraceExpiry s
  | .collectorSelfFault kind addr => Sys2Proof.Machine.execCollectorSelfFault kind addr s
  | .recordProgrammed ok => Sys2Proof.Machine.execRecordProgrammed ok s
  | .blockEraseDone => Sys2Proof.Machine.execBlockEraseDone s
  | .freezeTimeout => Sys2Proof.Machine.execFreezeTimeout s
  | .poweredMinute => Sys2Proof.Machine.execPoweredMinute s
  | .passwordLockExpiry => Sys2Proof.Machine.execPasswordLockExpiry s
  | .sessionTimeout => Sys2Proof.Machine.execSessionTimeout s
  | .pilotConfirmTimeout => Sys2Proof.Machine.execPilotConfirmTimeout s
  | .dualInputSample pins => Sys2Proof.Machine.execDualInputSample pins s
  | .discrepancy idx => Sys2Proof.Machine.execDiscrepancy idx s
  | .inputRearm idx => Sys2Proof.Machine.execInputRearm idx s
  | .hostWait => Sys2Proof.Machine.execHostWait s
  | .startupDeadline => Sys2Proof.Machine.execStartupDeadline s
  | .skinkSramCheck upsets => Sys2Proof.Machine.execSkinkSramCheck upsets s
  | .skinkEnvelopeRecheck => Sys2Proof.Machine.execSkinkEnvelopeRecheck s
  | .tickPeriod us => Sys2Proof.Machine.execTickPeriod us s
  | .scanClockCheck sca scb => Sys2Proof.Machine.execScanClockCheck sca scb s
  | .pllUnlock => Sys2Proof.Machine.execPllUnlock s
  | .pixbusLockLost d l => Sys2Proof.Machine.execPixbusLockLost d l s
  | .emitterCroakTimeout d => Sys2Proof.Machine.execEmitterCroakTimeout d s
  | .vsafePowerOn mv => Sys2Proof.Machine.execVsafePowerOn mv s
  | .railBelowReset rail mv => Sys2Proof.Machine.execRailBelowReset rail mv s
  | .resetNPulse ns choice => Sys2Proof.Machine.execResetNPulse ns choice s
  | .resetRelease x => Sys2Proof.Machine.execResetRelease x s
  | .supplyThresholdCrossing rail above mv => Sys2Proof.Machine.execSupplyThresholdCrossing rail above mv s
  | .powerFail vsafe => Sys2Proof.Machine.execPowerFail vsafe s
  | .jtagInstruction idx => Sys2Proof.Machine.execJtagInstruction idx s
  | .jtagTapReset low => Sys2Proof.Machine.execJtagTapReset low s
  | .subPeriodStart a b => Sys2Proof.Machine.execSubPeriodStart a b s
  | .pllLocked => Sys2Proof.Machine.execPllLocked s
  | .canFrameSent tdcv errs => Sys2Proof.Machine.execCanFrameSent tdcv errs s
  | .vsafeBelowReset mv => Sys2Proof.Machine.execVsafeBelowReset mv s

end Sys2Proof.Machine
end

