-- ==== Sys2Proof/Safety.lean ====
section
/-! DEFINITION. What counts as a safe run, the legal life-cycle states, the canonical form of the memories, and the words
the statements are written in: what a command leaves unchanged. -/

namespace Sys2Proof.Machine

/-- Every command that waits is well formed. -/
def State.orderly (s : State) : Bool := s.pending.all Instr.wf

/-- The outcome is a next state. -/
def ranOn (o : Host.Outcome State Fault Refusal) : Bool :=
  match o with
  | .next _ => true
  | _ => false

/-- The life cycle is legal (R328, R330): the pending state is the one in force, the next one, or RETURNED. -/
def State.lifeOk (s : State) : Bool :=
  decide (s.life.state ≤ 5) &&
  (s.life.pending == s.life.state || (decide (s.life.state < 4) && s.life.pending == s.life.state + 1) || s.life.pending == 5)

/-- The copies of a stored block are in canonical form. -/
def copiesWf (l : List (Option Copy)) : Bool := l.all (fun o => o.all (fun c => Cells.wf c.bytes 0))

/-- What the memories are loaded from is in canonical form too: the stored copies of the flash (R206, R161, R220), the data
that descriptors fetch (R244), and the tables on their way (R161, R217–R219). -/
def State.sourcesOk (s : State) : Bool :=
  decide (s.pix.uTrim.fill = 0) &&
  (s.flash.env :: s.pix.saving :: s.flash.factory).all (fun o => o.all (fun c => Cells.wf c 0)) &&
  copiesWf s.flash.trim && copiesWf s.flash.map && copiesWf s.flash.health &&
  s.ring.flights.all (fun f => Cells.wf f.buf 0) &&
  s.cal.write.all (fun w => Cells.wf w.plane 0 && w.restore.all (fun c => Cells.wf c 0)) &&
  s.cal.vigNext.all Plane.wf

/-- The addressed memories are in canonical form: the frame buffers, the mask plane and the local surface area (R84), the
trim, health, kill, temperature and tile tables (R150–R160), the envelope and its floor (R114, R115), the pattern SRAM
(R307), the user calibration tables (R211), the tile records (R183), the symbol library of the flash (R408); and so is
what they are loaded from. -/
def State.memoryOk (s : State) : Bool :=
  [s.comp.buf0.light, s.comp.buf0.side, s.comp.buf1.light, s.comp.buf1.side, s.comp.area, s.pix.kill,
    s.skink.pattern].all (fun c => Cells.wf c 0) &&
  Cells.wf s.comp.mask 255 && Cells.wf s.flash.library 0xFF &&
  [s.pix.fGain, s.pix.uTrim, s.pix.health, s.pix.tgain, s.pix.tgainUsed, s.pix.tiles, s.gko.env, s.gko.floor, s.cal.vignet,
    s.cal.geom, s.sal.records].all Plane.wf && s.sourcesOk

/-- The commands that act while the device is held in reset (R398): power and RESET_N, the release, the recorder's
programming (R365) and TRST_J_N (R393). The set is the model's choice, log 8. -/
def actsInReset : Instr → Bool
  | .vsafePowerOn _ => true
  | .railBelowReset _ _ => true
  | .resetNPulse _ _ => true
  | .resetRelease _ => true
  | .vsafeBelowReset _ => true
  | .recordProgrammed _ => true
  | .blockEraseDone => true
  | .jtagTapReset _ => true
  | _ => false

/-- Region n is a member of the broadcast alias of page 0–2 or 8–15 (R24). -/
def State.aliasMember (s : State) (page n : Nat) : Bool :=
  page == 0 || (page == 1 && decide (n < 32)) || (page == 2 && decide (32 ≤ n)) ||
  (decide (8 ≤ page) && bitOf (if n < 32 then s.rd (TCK_GRP_LO_MEMBERS (page - 8)) else s.rd (TCK_GRP_HI_MEMBERS (page - 8))) (n % 32))

/-- The commands that assert a reset (R401). -/
def resets : Instr → Bool
  | .vsafePowerOn _ => true
  | .railBelowReset _ _ => true
  | .resetNPulse _ _ => true
  | _ => false

/-- The commands that may program the flash (R408): through a register access or a request that makes one, a session,
background work that ends, the recorder, a link loss or a boundary that settles a session, and power. -/
def writesFlash : Instr → Bool
  | .symbolLoadDone | .envelopeLoadDone | .calProgramDone _ | .healthSaveDone _ => true
  | .registerWrite _ _ _ | .broadcastWrite _ _ _ _ | .linkWriteRequest _ _ _ _ | .jtagInstruction _ => true
  | .lcsAdvance _ _ | .lcsReturn | .sftPilotCrcWrite _ => true
  | .sessionOpenPassword _ | .sessionClose | .sessionSetPassword _ | .sessionTimeout | .passwordLockExpiry => true
  | .recordProgrammed _ | .blockEraseDone => true
  | .backoffElapsed | .hostLossTimeout => true
  | .vsafePowerOn _ | .railBelowReset _ _ | .resetNPulse _ _ | .resetRelease _ | .vsafeBelowReset _ => true
  | .tickBoundary _ => true
  | _ => false

/-- From s to t every register field reads as before, but for those of fs. -/
def keepsBut (s t : State) (fs : List Fld) : Prop := ∀ g : Fld, (∀ f ∈ fs, g.key ≠ f.key) → t.rd g = s.rd g

/-- From s to t nothing changes but register fields of fs. -/
def onlyFields (s t : State) (fs : List Fld) : Prop := keepsBut s t fs ∧ { t with regs := s.regs } = s

/-- From s to t nothing changes but register fields of fs, and the fault messages that are sent. -/
def onlyFieldsAndMessages (s t : State) (fs : List Fld) : Prop :=
  keepsBut s t fs ∧ { t with regs := s.regs, fifo := s.fifo, flt := { t.flt with sent := s.flt.sent } } = s

/-- From s to t one more fault message of this source, kind and address is on its way (R341). -/
def sends (s t : State) (source kind addr : Nat) : Prop :=
  ∃ m : Msg, m.source = source ∧ m.kind = kind ∧ m.addr = addr % 2 ^ 24 ∧ m.injected = false ∧ t.fifo = s.fifo ++ [m]

/-- From s to t exactly these fault messages, (source, kind, address), are on their way, in this order (R341). -/
def newMessages (s t : State) (l : List (Nat × Nat × Nat)) : Prop :=
  t.fifo.take s.fifo.length = s.fifo ∧ (t.fifo.drop s.fifo.length).map (fun m => (m.source, m.kind, m.addr)) = l

/-- Nothing is in flight, no commit is armed, and a completion of descriptor d can be written at once (R241, R243). -/
def State.clearFor (s : State) (d : Desc) : Prop :=
  s.ring.flights = [] ∧ s.comp.armed = none ∧ s.rd LNK_STAT_DOWN = 0 ∧ s.ring.gather = false ∧ s.ring.batch = 0 ∧
  s.ring.rings.length = 8 ∧ (s.ringAt d.ring).queue = [] ∧ s.cplFull d.ring = false

/-- A flight as the descriptor it came from. -/
def Flight.desc (f : Flight) : Desc := ⟨f.ring, f.slot, f.rsvd, f.fence, f.hint, f.cookie, f.args⟩

/-- One descriptor is in flight, f of opcode op: accepted, all its data in, and its completion can be written at once
(R241–R243, R251). -/
def State.oneAtWork (s : State) (f : Flight) (op : Nat) : Prop :=
  s.ring.flights = [f] ∧ f.ring < 8 ∧ f.opcode = op ∧ f.stage = .accepted ∧ f.ended = false ∧ f.todo = [] ∧ f.waiting = 0 ∧
  f.failed = false ∧ s.rd LNK_STAT_DOWN = 0 ∧ s.ring.gather = false ∧ s.ring.batch = 0 ∧ s.ring.rings.length = 8 ∧
  (s.ringAt f.ring).queue = [] ∧ s.cplFull f.ring = false

/-- The commands of a list carried out in turn; the first stop ends it. -/
def execAll : List Instr → State → Host.Outcome State Fault Refusal
  | [], s => .next s
  | c :: cs, s => match exec c s with
    | .next t => execAll cs t
    | o => o

/-- The bits of a byte in the order a check value of R388 takes them: the least significant first where reflected. -/
def bitsOfByte (reflected : Bool) (b : Nat) : List Bool :=
  let low := (List.range 8).map (fun i => bitOf b i)
  if reflected then low else low.reverse

/-- One bit enters the division by poly, in a register of w bits, most significant bit first. -/
def crcDivide (w poly reg : Nat) (b : Bool) : Nat :=
  if bitOf reg (w - 1) != b then Nat.xor (2 * reg % 2 ^ w) poly else 2 * reg % 2 ^ w

/-- The w bits of n in the other order. -/
def reversed (w n : Nat) : Nat := ((List.range w).map (fun i => flag (bitOf n i) * 2 ^ (w - 1 - i))).sum

/-- The check value of a byte sequence by a row of the table of R388: width, polynomial, initial value, bit order, final XOR. -/
def crcByTable (w poly init : Nat) (reflected : Bool) (xorOut : Nat) (bs : List Nat) : Nat :=
  let r := (bs.flatMap (bitsOfByte reflected)).foldl (crcDivide w poly) init
  Nat.xor (if reflected then reversed w r else r) xorOut

/-- The four rows of that table. -/
def crcRow (algo : Nat) (bs : List Nat) : Nat :=
  if algo = 0 then crcByTable 32 0x1EDC6F41 0xFFFFFFFF true 0xFFFFFFFF bs
  else if algo = 1 then crcByTable 32 0x04C11DB7 0xFFFFFFFF true 0xFFFFFFFF bs
  else if algo = 2 then crcByTable 16 0x1021 0xFFFF false 0x0000 bs
  else crcByTable 8 0x1D 0xFF false 0xFF bs

/-- The fields that change where descriptor d completes: the counters of its ring (R255), FLT_SAT where one stops (R355), and
DRAINING (R245). -/
def cplFields (d : Desc) : List Fld :=
  [RNG_CMD_CNT_DONE d.ring, RNG_CMD_CNT_NOT_OK d.ring, RNG_CMD_STAT_DRAINING d.ring, FLT_SAT_ADDR, FLT_SAT_FLAG]

/-- From s to t descriptor d of this opcode completes: nothing is in flight, and the next packet to the host is its entry of
R248, in its place in the completion ring (R234, R242). -/
def completes (s t : State) (op : Nat) (d : Desc) (status detail result : Nat) : Prop :=
  t.ring.flights = [] ∧ (t.ringAt d.ring).cplProd = ((s.ringAt d.ring).cplProd + 1) % 2 ^ 32 ∧
  ∃ (id : Nat) (more : List UpPacket), t.link.upQueue = s.link.upQueue ++
    .write (s.hostAddr (RNG_CPL_BASE_LO_ADDR d.ring) (RNG_CPL_BASE_HI_ADDR d.ring) +
        16 * ((s.ringAt d.ring).cplProd % s.cplSize d.ring))
      (cplWords (phaseOf (s.ringAt d.ring).cplProd (s.cplSize d.ring))
        ⟨id, d.ring, d.slot, op, d.cookie, d.hint, status, detail, s.tick.count % 2 ^ 32, result, false⟩) :: more

/-- From s to t descriptor d of this opcode completes, and nothing else happens but writes of register fields of fs. -/
def completesOnly (s t : State) (fs : List Fld) (op : Nat) (d : Desc) (status detail result : Nat) : Prop :=
  completes s t op d status detail result ∧ keepsBut s t (fs ++ cplFields d) ∧ (∀ k : Nat, k ≠ d.ring → t.ringAt k = s.ringAt k) ∧
  { t with regs := s.regs, ring := s.ring, link := s.link, fifo := s.fifo, flt := { t.flt with sent := s.flt.sent } } = s

/-- From s to t descriptor d of this opcode completes at boundary k: nothing is in flight, and its entry of R248 is with the
link, to be sent or sent and not acknowledged. -/
def completesAt (s t : State) (k op : Nat) (d : Desc) (status detail result : Nat) : Prop :=
  t.ring.flights = [] ∧ (t.ringAt d.ring).cplProd = ((s.ringAt d.ring).cplProd + 1) % 2 ^ 32 ∧
  ∃ id : Nat, UpPacket.write (s.hostAddr (RNG_CPL_BASE_LO_ADDR d.ring) (RNG_CPL_BASE_HI_ADDR d.ring) +
        16 * ((s.ringAt d.ring).cplProd % s.cplSize d.ring))
      (cplWords (phaseOf (s.ringAt d.ring).cplProd (s.cplSize d.ring))
        ⟨id, d.ring, d.slot, op, d.cookie, d.hint, status, detail, k % 2 ^ 32, result, true⟩) ∈
    t.link.upQueue ++ t.link.unacked.map (fun u => u.2)

/-- In t descriptor d of this opcode is the one in flight, at this stage of its work. -/
def inFlightAt (t : State) (op : Nat) (d : Desc) (st : Stage) : Prop :=
  ∃ f : Flight, t.ring.flights = [f] ∧ f.ring = d.ring ∧ f.slot = d.slot ∧ f.opcode = op ∧ f.args = d.args ∧ f.stage = st ∧
    f.ended = false

end Sys2Proof.Machine
end

