-- ==== Sys2Proof/Certificates/Slice0/Obligations.lean ====
section
/-! DEFINITION. The statements for the provers. Each docstring names the rules of spec/ it formalises, or the log entry of
the choice it rests on. -/

open Sys2Proof Sys2Proof.Machine


/-! ### The whole machine -/

/-- A step carries out the command at the front of the queue, with the queue's rest (log 2). -/
def Obligations.StepRunsTheFrontCommand : Prop :=
  ∀ (c : Instr) (rest : List Instr) (s : State), s.pending = c :: rest → step s = exec c { s with pending := rest }

/-- Every well-formed command of the table completes, in every state, and leaves the queue as it is.

A command with operands outside the ranges of its fields stops by name: the model's choice, log 106.

Until T0 the device is held in reset (R398): of the well-formed commands only power, RESET_N, the release, the recorder's
programming and TRST_J_N do anything. That every other leaves the state as it is, is the model's choice, log 8. -/
def Obligations.CommandsCompleteOrStop : Prop :=
  (∀ (c : Instr) (s : State), c.wf = true → ∃ t : State, exec c s = .next t ∧ t.pending = s.pending) ∧
  (∀ (c : Instr) (s : State), c.wf = false → exec c s = .fault .illFormed) ∧
  (∀ (c : Instr) (s : State), c.wf = true → actsInReset c = false → s.life.released = false → exec c s = .next s)

/-- A queue of well-formed commands runs down without a stop: each step takes its front, or idles on none (logs 2, 106).

With no command waiting the block idles: the model's choice, log 2. -/
def Obligations.QueuesRunDown : Prop :=
  (∀ s : State, s.orderly = true → ∃ t : State, step s = .next t ∧ t.pending = s.pending.drop 1 ∧ t.orderly = true) ∧
  (∀ s : State, s.pending = [] → step s = .next s)

/-- What reset leaves where the spec gives it: the default period and bask (R32, R50), the source DARK (R125, R149), mode
NORMAL with LIMP_N low (R300, R339), held in reset until T0 (R398), cause 1 for the VSAFE power-on (R401). That the life
cycle of a part that nothing has been written to is BLANK (R328) is the model's choice, log 5. -/
def Obligations.ResetLeaves : Prop :=
  State.reset.rd TCK_PERIOD_PERIOD_US = 4000 ∧ State.reset.rd TCK_BASK_BASK_US = 250 ∧
  State.reset.rd TCK_ACTIVE_PERIOD_US = 4000 ∧ State.reset.rd TCK_ACTIVE_BASK_US = 250 ∧
  State.reset.source = 2 ∧ State.reset.mode = 0 ∧ State.reset.sft.limpHigh = false ∧
  State.reset.life.state = 0 ∧ State.reset.life.pending = 0 ∧ State.reset.life.released = false ∧
  State.reset.rd LCS_RESET_CAUSE = 1 ∧ State.reset.tick.count = 0 ∧ State.reset.pending = [] ∧ State.reset.fifo = []

/-- The life cycle is legal at reset, and every memory is in canonical form. -/
def Obligations.ResetIsLegal : Prop :=
  State.reset.lifeOk = true ∧ State.reset.memoryOk = true

/-- Every step keeps the life cycle legal (R328, R330): the state in force is one of the six, and what is pending is that
state, the next one up to FIELD, or RETURNED. -/
def Obligations.LifeCycleStaysLegal : Prop :=
  ∀ s t : State, s.lifeOk = true → step s = .next t → t.lifeOk = true

/-- The life cycle never goes back (R328): a step keeps the state in force, or brings the pending one into force, which
only a reset does; RETURNED is never left. -/
def Obligations.LifeCycleNeverGoesBack : Prop :=
  ∀ s t : State, s.lifeOk = true → step s = .next t →
    s.life.state ≤ t.life.state ∧ (s.life.state = 5 → t.life.state = 5) ∧
    (t.life.state ≠ s.life.state → t.life.state = s.life.pending ∧ s.pending.head?.any resets = true)

/-- Only commands that may program the flash reach it (R402, R408): every other leaves all its areas as they are. The set
of those commands, writesFlash, is the model's choice, log 107: R402 and R408 name no commands. -/
def Obligations.OnlyProgrammingReachesTheFlash : Prop :=
  ∀ (c : Instr) (s t : State), writesFlash c = false → exec c s = .next t → t.flash = s.flash

/-! ### Register accesses (R6, R7, R9, R24–R30, R50, R93, R393) -/

/-- The access types of R9, each on a register that has no other effect, written by the host: `TCK_PERIOD` (RW) takes the
value, `TCK_ACTIVE` (RO) ignores it, each 1 written to `TCK_BCAST_MIXED` (W1C) clears that flag, `SFT_HOSTWAIT` (LCK) takes
the first write after reset and no later one. Nothing else changes. -/
def Obligations.WritesFollowTheAccessTypes : Prop :=
  ∀ (v : Nat) (s : State), s.life.released = true → v < 2 ^ 32 →
    (∃ t : State, exec (.registerWrite .host 0x10004 v) s = .next t ∧
      t.rd TCK_PERIOD_PERIOD_US = v % 2 ^ 13 ∧ onlyFields s t [TCK_PERIOD_PERIOD_US]) ∧
    exec (.registerWrite .host 0x10010 v) s = .next s ∧
    (∃ t : State, exec (.registerWrite .host 0x10800 v) s = .next t ∧
      (∀ f ∈ [TCK_BCAST_MIXED_MIXED, TCK_BCAST_MIXED_EMPTY, TCK_BCAST_MIXED_SKIPPED],
        t.rd f = if v / 2 ^ f.lo % 2 = 1 then 0 else s.rd f % 2) ∧
      onlyFields s t [TCK_BCAST_MIXED_MIXED, TCK_BCAST_MIXED_EMPTY, TCK_BCAST_MIXED_SKIPPED]) ∧
    (∃ t : State, exec (.registerWrite .host 0x380050 v) s = .next t ∧
      t.rd SFT_HOSTWAIT_MS = (if Cells.get s.locked 0 SFT_HOSTWAIT_MS.key = 0 then v % 2 ^ 11 else s.rd SFT_HOSTWAIT_MS) ∧
      Cells.get t.locked 0 SFT_HOSTWAIT_MS.key ≠ 0 ∧
      keepsBut s t [SFT_HOSTWAIT_MS] ∧ { t with regs := s.regs, locked := s.locked } = s)

/-- Reads by R9: an RC counter answers its value and is then clear, a WO register answers 0 and stays; a read of
`TCK_COUNT_LO` answers the count's low half and latches the rest (R50), whichever of its rows makes it. -/
def Obligations.ReadsFollowTheAccessTypes : Prop :=
  ∀ s : State, s.life.released = true →
    (∃ t : State, exec (.readClear .host 0x10034) s = .next t ∧ t.data = s.rd TCK_OVR_COUNT_COUNT % 2 ^ 32 ∧
      t.rd TCK_OVR_COUNT_COUNT = 0 ∧ keepsBut s t [TCK_OVR_COUNT_COUNT] ∧ { t with regs := s.regs, data := s.data } = s) ∧
    exec (.readClear .host 0x8) s = .next { s with data := 0 } ∧
    (∀ c ∈ [Instr.tckCountLoRead, Instr.readClear .host 0x10018], ∃ t : State, exec c s = .next t ∧
      t.data = s.tick.count % 2 ^ 32 ∧ t.rd TCK_COUNT_HI_COUNT = s.tick.count / 2 ^ 32 % 2 ^ 16 ∧
      keepsBut s t [TCK_COUNT_HI_COUNT] ∧ { t with regs := s.regs, data := s.data } = s)

/-- In the parts of the window that no block has, every read answers 0 and every write is discarded (R7).

An access that is no aligned word is refused: the write is discarded, the read answers 0, and it is counted as a
protocol error (R6); that LNK_PROTO.REFUSED is the counter is the model's reading, log 25.

An EXT engine writes no register: it halts with EXT_VIOLATION from its own source, at the address it named, and the
register keeps its value (R93, R121). That R93 halts it at an offset that is no aligned word too, where R6 would refuse and count
the access, is the model's choice, log 204. -/
def Obligations.RefusedAccessesDoNothing : Prop :=
  (∀ (off v : Nat) (s : State), s.life.released = true → off % 4 = 0 → v < 2 ^ 32 →
    (0xE0000 ≤ off ∧ off < 0x100000) ∨ (0x250000 ≤ off ∧ off < 0x280000) ∨ (0x82000 ≤ off ∧ off < 0xA0000) →
    exec (.registerWrite .host off v) s = .next s ∧ exec (.readClear .host off) s = .next { s with data := 0 }) ∧
  (∀ (off v : Nat) (s : State), s.life.released = true → off < 2 ^ 24 → v < 2 ^ 32 → off % 4 ≠ 0 →
    (∃ t : State, exec (.registerWrite .host off v) s = .next t ∧
      t.rd LNK_PROTO_REFUSED = min 65535 (s.rd LNK_PROTO_REFUSED + 1) ∧
      onlyFieldsAndMessages s t [LNK_PROTO_REFUSED, FLT_SAT_ADDR, FLT_SAT_FLAG]) ∧
    (∃ t : State, exec (.readClear .host off) s = .next t ∧ t.data = 0 ∧
      t.rd LNK_PROTO_REFUSED = min 65535 (s.rd LNK_PROTO_REFUSED + 1) ∧
      onlyFieldsAndMessages s { t with data := s.data } [LNK_PROTO_REFUSED, FLT_SAT_ADDR, FLT_SAT_FLAG])) ∧
  (∀ (e off v : Nat) (s : State), s.life.released = true → e < 32 → off < 2 ^ 24 → v < 2 ^ 32 → s.rd (NWT_CTL_ROLE e) = 2 → s.rd (NWT_STAT_STATE e) = 2 →
    ∃ t : State, exec (.registerWrite (.engine e) off v) s = .next t ∧ t.rd (NWT_STAT_STATE e) = 3 ∧
      t.rd (NWT_STAT_LAST_KIND e) = 5 ∧ sends s t (0x40 + e) 5 off ∧ keepsBut s t [NWT_STAT_STATE e, NWT_STAT_LAST_KIND e] ∧
      { t with regs := s.regs, fifo := s.fifo, flt := { t.flt with sent := s.flt.sent }, eng := s.eng } = s)

/-- A write of PXD_NOM through an alias that has a member (R24, R25, R29, R381): all regions, die A, die B, or a group. It
reaches every member that is not under test, in the one command, and no other register; where a member is under test SKIPPED
is set, with the access shown, else the flags stay (R29). Each member applies the write under its own access rules: of
PXD_SKNOM, which is LCK, a member that has had its write since reset takes none (R25). -/
def Obligations.BroadcastWriteReachesEveryMember : Prop :=
  ∀ (acc : Accessor) (page v : Nat) (s : State), s.life.released = true → acc = .host ∨ acc = .jtag →
    page < 3 ∨ 8 ≤ page ∧ page < 16 → v < 2 ^ 32 → (acc = .jtag → s.jtag.held = false ∧ s.life.state < 4) →
    (∃ n < 64, s.aliasMember page n = true) →
    (∃ t : State, exec (.broadcastWrite acc page 0 v) s = .next t ∧
      (∀ n < 64, t.rd (PXD_NOM_LEVEL n) =
        if s.aliasMember page n = true ∧ s.regionTested n = false then v % 2 ^ 16 else s.rd (PXD_NOM_LEVEL n)) ∧
      ((∃ n < 64, s.aliasMember page n = true ∧ s.regionTested n = true) → t.rd TCK_BCAST_MIXED_SKIPPED = 1 ∧
        t.rd TCK_BCAST_MIXED_ALIAS = (if page < 3 then page else 8 + page) ∧ t.rd TCK_BCAST_MIXED_OFFSET = 0) ∧
      ((∀ n < 64, s.aliasMember page n = true → s.regionTested n = false) →
        keepsBut s t ((List.range 64).map PXD_NOM_LEVEL)) ∧
      onlyFields s t ((List.range 64).map PXD_NOM_LEVEL ++
        [TCK_BCAST_MIXED_SKIPPED, TCK_BCAST_MIXED_ALIAS, TCK_BCAST_MIXED_OFFSET])) ∧
    (∃ t : State, exec (.broadcastWrite acc page 8 v) s = .next t ∧
      (∀ n < 64, t.rd (PXD_SKNOM_LEVEL n) =
        if s.aliasMember page n = true ∧ s.regionTested n = false ∧ Cells.get s.locked 0 (PXD_SKNOM_LEVEL n).key = 0 then v % 2 ^ 16
        else s.rd (PXD_SKNOM_LEVEL n)) ∧
      keepsBut s t ((List.range 64).map PXD_SKNOM_LEVEL ++
        [TCK_BCAST_MIXED_SKIPPED, TCK_BCAST_MIXED_ALIAS, TCK_BCAST_MIXED_OFFSET]) ∧
      { t with regs := s.regs, locked := s.locked } = s)

/-- An access through the alias of a group with no member: the read answers 0, and both set EMPTY; a write, on this stepping,
MIXED as well (R28, R446, R453: stepping A1 only, the one the model is of). -/
def Obligations.EmptyGroupAlias : Prop :=
  ∀ (acc : Accessor) (g off v : Nat) (s : State), s.life.released = true → acc = .host ∨ acc = .jtag → g < 8 → off < 4096 → off % 4 = 0 →
    v < 2 ^ 32 → (acc = .jtag → s.jtag.held = false ∧ s.life.state < 4) →
    s.rd LCS_ID_STEPPING = 1 → s.rd (TCK_GRP_LO_MEMBERS g) = 0 → s.rd (TCK_GRP_HI_MEMBERS g) = 0 →
    (∃ t : State, exec (.broadcastRead acc (8 + g) off) s = .next t ∧ t.data = 0 ∧ t.rd TCK_BCAST_MIXED_EMPTY = 1 ∧
      t.rd TCK_BCAST_MIXED_ALIAS = 16 + g ∧ t.rd TCK_BCAST_MIXED_OFFSET = off ∧
      onlyFields s { t with data := s.data } [TCK_BCAST_MIXED_EMPTY, TCK_BCAST_MIXED_ALIAS, TCK_BCAST_MIXED_OFFSET]) ∧
    (∃ t : State, exec (.broadcastWrite acc (8 + g) off v) s = .next t ∧ t.rd TCK_BCAST_MIXED_EMPTY = 1 ∧
      t.rd TCK_BCAST_MIXED_MIXED = 1 ∧ t.rd TCK_BCAST_MIXED_ALIAS = 16 + g ∧ t.rd TCK_BCAST_MIXED_OFFSET = off ∧
      onlyFields s t [TCK_BCAST_MIXED_EMPTY, TCK_BCAST_MIXED_MIXED, TCK_BCAST_MIXED_ALIAS, TCK_BCAST_MIXED_OFFSET])

/-- A read through an alias that has members (R26): it answers the register of the lowest-numbered member, as a read at that
region's own address answers it; where another member's differs MIXED is set, with the access shown; no member changes. -/
def Obligations.BroadcastReadAnswersTheLowest : Prop :=
  ∀ (acc : Accessor) (page off ali n : Nat) (rest : List Nat) (s : State), s.life.released = true → acc = .host ∨ acc = .jtag → off < 4096 → off % 4 = 0 →
    (acc = .jtag → s.jtag.held = false) → s.aliasOf page = some (ali, n :: rest) →
    (∀ k ∈ rest, n < k) ∧
    (∃ q : State, exec (.readClear acc (0x200000 + 0x1000 * n + off)) s = .next q ∧
      ∃ t : State, exec (.broadcastRead acc page off) s = .next t ∧ t.data = q.data ∧
        ((∀ k ∈ rest, s.showWord (0x200000 + 0x1000 * k + off) = s.showWord (0x200000 + 0x1000 * n + off)) →
          { t with data := s.data } = s) ∧
        ((∃ k ∈ rest, s.showWord (0x200000 + 0x1000 * k + off) ≠ s.showWord (0x200000 + 0x1000 * n + off)) →
          t.rd TCK_BCAST_MIXED_MIXED = 1 ∧ t.rd TCK_BCAST_MIXED_ALIAS = ali ∧ t.rd TCK_BCAST_MIXED_OFFSET = off ∧
          onlyFields s { t with data := s.data } [TCK_BCAST_MIXED_MIXED, TCK_BCAST_MIXED_ALIAS, TCK_BCAST_MIXED_OFFSET]))

/-- In FIELD JTAG reads and does not write: a register read shifts out what a host read at that offset answers, with its side
effects, and IDCODE the value of the device; a register write and the test functions act as BYPASS (R9, R230, R393).

While TRST_J_N is low the TAP takes no instruction (R393). -/
def Obligations.JtagFollowsItsState : Prop :=
  (∀ (s : State), s.life.released = true → s.life.state = 4 → s.jtag.held = false →
    (∀ off < 2 ^ 24, ∃ q : State, exec (.readClear .host off) s = .next q ∧ exec (.jtagInstruction (.read off)) s =
      .next { q with jtag := { held := false, op := some (.read off), out := some q.data, lands := none } }) ∧
    exec (.jtagInstruction .idcode) s =
      .next { s with jtag := { held := false, op := some .idcode, out := some (Config.idcode % 2 ^ 32), lands := none } } ∧
    (∀ off v : Nat, off < 2 ^ 24 → v < 2 ^ 32 → exec (.jtagInstruction (.write off v)) s =
      .next { s with jtag := { held := false, op := some .bypass, out := none, lands := none } }) ∧
    (∀ (l : Nat) (i : JtagOp), i ∈ [JtagOp.bypass, .sample, .extest l, .scan l] → exec (.jtagInstruction i) s =
      .next { s with jtag := { held := false, op := some .bypass, out := none, lands := none } })) ∧
  (∀ (i : JtagOp) (s : State), jtagOk i = true →
    (∃ t : State, exec (.jtagTapReset true) s = .next t ∧ t.jtag.held = true ∧ t.jtag.op = none ∧ t.jtag.lands = none ∧
      { t with jtag := s.jtag } = s ∧ exec (.jtagInstruction i) t = .next t) ∧
    (∃ t : State, exec (.jtagTapReset false) s = .next t ∧ t.jtag.held = false ∧ { t with jtag := s.jtag } = s))

/-! ### The tick, the pipeline and scan-out (R31–R50, R75–R90, R116–R162) -/

/-- TCK_APPLY.GO (R33): on a follower, or with a value out of range, nothing is scheduled and ERR is set; else the shadow
values are scheduled for the third boundary, whatever was pending. A write of 0 does nothing.

A change comes into force at the boundary it was scheduled for, with the row time it gives, and at no other (R33, R50). The
bask's end begins the active part: the words of row 0 are out, in DARK none (R125, R127, R139), the ACTIVE run slot starts
(R31, R90); outside a bask it does nothing. Model's choices: a change takes force just before its boundary (log 17), the words
of row 0 are formed at the bask's end (log 134).

Every boundary counts one tick, and the count saturates (R31); rows start in the fixed order, the first one at the bask's
end, and the row that starts is the one shown (R50, R127). That a ROW_START ends a bask still on, and that after row 319 none
starts before the next bask, are the model's choices, log 115. -/
def Obligations.TickRules : Prop :=
  (∀ s : State, s.life.released = true →
    exec (.tckApplyGo 0) s = .next s ∧
    ((isFollower s.sync = true ∨ s.rd TCK_PERIOD_PERIOD_US < 2000 ∨ 5000 < s.rd TCK_PERIOD_PERIOD_US ∨
        s.rd TCK_BASK_BASK_US < 100 ∨ 800 < s.rd TCK_BASK_BASK_US) →
      ∃ t : State, exec (.tckApplyGo 1) s = .next t ∧ t.rd TCK_APPLY_ERR = 1 ∧ onlyFields s t [TCK_APPLY_ERR]) ∧
    (isFollower s.sync = false → 2000 ≤ s.rd TCK_PERIOD_PERIOD_US → s.rd TCK_PERIOD_PERIOD_US ≤ 5000 →
        100 ≤ s.rd TCK_BASK_BASK_US → s.rd TCK_BASK_BASK_US ≤ 800 →
      ∃ t : State, exec (.tckApplyGo 1) s = .next t ∧ t.rd TCK_APPLY_PENDING = 1 ∧
        t.rd TCK_APPLY_AT_LO = min (2 ^ 48 - 1) (s.tick.count + 3) % 2 ^ 24 ∧
        t.tick.change = some (s.rd TCK_PERIOD_PERIOD_US, s.rd TCK_BASK_BASK_US, min (2 ^ 48 - 1) (s.tick.count + 3)) ∧
        keepsBut s t [TCK_APPLY_PENDING, TCK_APPLY_AT_LO] ∧
        { t with regs := s.regs, tick := { t.tick with change := s.tick.change } } = s)) ∧
  (∀ (p b k : Nat) (s : State), s.life.released = true → p < 2 ^ 13 → b < 2 ^ 10 → b ≤ p →
    (s.tick.change = some (p, b, k) → k = min (2 ^ 48 - 1) (s.tick.count + 1) →
      ∃ t : State, exec .tickChangeInForce s = .next t ∧ t.rd TCK_ACTIVE_PERIOD_US = p ∧ t.rd TCK_ACTIVE_BASK_US = b ∧
        t.rd TCK_ROWTIME_ROW_CYC = (p - b) % 2 ^ TCK_ROWTIME_ROW_CYC.width ∧ t.rd TCK_APPLY_PENDING = 0 ∧
        t.tick.change = none ∧
        keepsBut s t [TCK_ACTIVE_PERIOD_US, TCK_ACTIVE_BASK_US, TCK_ROWTIME_ROW_CYC, TCK_APPLY_PENDING] ∧
        { t with regs := s.regs, tick := { t.tick with change := s.tick.change } } = s) ∧
    (s.tick.change = some (p, b, k) → k ≠ min (2 ^ 48 - 1) (s.tick.count + 1) → exec .tickChangeInForce s = .next s) ∧
    (s.rd TCK_ROWPOS_BASK = 0 → exec .baskEnd s = .next s) ∧
    (s.rd TCK_ROWPOS_BASK ≠ 0 → ∃ t : State, exec .baskEnd s = .next t ∧ t.rd TCK_ROWPOS_BASK = 0 ∧ t.eng.slot = 1 ∧
      t.scn.next = 0 ∧
      (∀ n < 64, Keyed.get t.scn.ahead darkWords n =
        if s.source = 2 then darkWords else (List.range 64).map (fun c => s.busWord (regionPix n c 0))) ∧
      (∀ e : Nat, s.rd (NWT_STAT_STATE e) ≠ 2 → t.engine e = s.engine e) ∧ keepsBut s t [TCK_ROWPOS_BASK] ∧
      { t with regs := s.regs, eng := s.eng, scn := { t.scn with next := s.scn.next, ahead := s.scn.ahead } } = s)) ∧
  (∀ (x : BoundaryIn) (missed : List Nat) (crc : List (Nat × Nat)) (s : State), s.life.released = true →
    ((Instr.tickBoundary x).wf = true →
      ∃ t : State, exec (.tickBoundary x) s = .next t ∧ t.tick.count = min (2 ^ 48 - 1) (s.tick.count + 1)) ∧
    ((Instr.rowStart missed crc).wf = true →
      (s.rd TCK_ROWPOS_BASK ≠ 0 → ∃ t : State, exec (.rowStart missed crc) s = .next t ∧ t.rd TCK_ROWPOS_ROW = 0 ∧
        t.rd TCK_ROWPOS_BASK = 0 ∧ t.scn.next = 1) ∧
      (s.rd TCK_ROWPOS_BASK = 0 → s.scn.next < 320 → ∃ t : State, exec (.rowStart missed crc) s = .next t ∧
        t.rd TCK_ROWPOS_ROW = s.scn.next ∧ t.rd TCK_ROWPOS_BASK = 0 ∧ t.scn.next = s.scn.next + 1) ∧
      (s.rd TCK_ROWPOS_BASK = 0 → 320 ≤ s.scn.next → ∃ t : State, exec (.rowStart missed crc) s = .next t ∧
        t.rd TCK_ROWPOS_ROW = s.rd TCK_ROWPOS_ROW ∧ t.rd TCK_ROWPOS_BASK = 0 ∧ t.scn.next = s.scn.next)))

/-- What a boundary brings. A ready frame is swapped in and ends the run of repeats (R39); one that is not ready leaves the front
buffer, and from the boundary counting begins at it counts, and sends FRAME_OVERRUN with the earliest unfinished stage (R39,
R41). The commit armed for it comes into force and its COMMIT completes, OK or LATE, with this boundary's count (R75); so does
the ENGINE_LOAD whose program starts (R94, R97). The source is DARK in mode DARK and SKINK in mode FALLBACK; the frame loads
from the first swap with first light permitted, and never without both (R125, R416); that the frame swapped in at the boundary
the first COMMIT comes into force at is no such swap is the model's reading, log 203. -/
def Obligations.BoundaryBringsTheFrame : Prop :=
  ∀ (x : BoundaryIn) (s : State), s.life.released = true → (Instr.tickBoundary x).wf = true →
    ∃ t : State, exec (.tickBoundary x) s = .next t ∧ ∀ k : Nat, k = min (2 ^ 48 - 1) (s.tick.count + 1) →
    (s.comp.ready = true → t.comp.everSwapped = true ∧ t.rd TCK_OVR_CONSEC = 0 ∧
      t.rd TCK_OVR_COUNT_COUNT = s.rd TCK_OVR_COUNT_COUNT ∧ t.rd CMP_STAT_FRONT = 1 - s.rd CMP_STAT_FRONT ∧
      t.rd TCK_SLACK_LAST_US = x.slackUs % 2 ^ 13 ∧ t.front = s.back) ∧
    (s.comp.ready = false → t.rd CMP_STAT_FRONT = s.rd CMP_STAT_FRONT ∧ t.comp.everSwapped = s.comp.everSwapped ∧
      t.front = s.front ∧
      ((∀ n : Nat, s.comp.countFrom = some n → k < n) → t.rd TCK_OVR_CONSEC = s.rd TCK_OVR_CONSEC ∧
        t.rd TCK_OVR_COUNT_COUNT = s.rd TCK_OVR_COUNT_COUNT) ∧
      (∀ n : Nat, s.comp.countFrom = some n → n ≤ k → t.rd TCK_OVR_CONSEC = min 255 (s.rd TCK_OVR_CONSEC + 1) ∧
        t.rd TCK_OVR_COUNT_COUNT = (if s.comp.everSwapped = true then min (2 ^ 32 - 1) (s.rd TCK_OVR_COUNT_COUNT + 1)
          else s.rd TCK_OVR_COUNT_COUNT) ∧
        ∃ m ∈ t.fifo, m.source = 0x068 ∧ m.kind = 0x01 ∧ m.addr = (if s.comp.bands < 8 then 0 else if s.comp.composed = false then 1
          else if s.comp.resolved = false then 2 else 3))) ∧
    (∀ f : Flight, s.ring.due = [] → s.bst.tests = [] → s.cal.write = none →
      (∀ a : Armed, s.oneAtWork f 3 → s.eng.loads = [] → s.comp.armed = some a → a.seq = f.id → s.rd CMP_CTL_EPOCH_SYNC = 0 →
        (a.due ≤ k → completesAt s t k 3 f.desc (if a.late = true then 1 else 0) 0 0 ∧ t.comp.armed = none ∧
          t.comp.committed = true ∧ t.rd CMP_COMMIT_ARMED = 0 ∧ t.rd CMP_EPOCH_ACTIVE_EPOCH = a.epoch % 2 ^ 32) ∧
        (k < a.due → t.comp.armed = some a ∧ t.ring.flights = [f] ∧ t.rd CMP_COMMIT_ARMED = s.rd CMP_COMMIT_ARMED)) ∧
      (∀ l : ExtLoad, s.oneAtWork f 16 → s.comp.armed = none → s.eng.loads = [l] → l.id = f.id → l.engine < 32 → l.step = 2 →
        completesAt s t k 16 f.desc 0 0 0 ∧ t.eng.loads = [] ∧ t.rd (NWT_STAT_STATE l.engine) = 2 ∧
        t.rd (NWT_IMG_IMG_ID l.engine) = numAt l.image 8 4 % 2 ^ 32)) ∧
    (s.sft.resume = false → s.rd SFT_MODE_MODE = 3 → t.rd SCN_CTL_SOURCE = 2) ∧
    (s.sft.resume = false → s.rd SFT_MODE_MODE = 2 → t.rd SCN_CTL_SOURCE = 1 ∨ t.rd SCN_CTL_SOURCE = 2 ∧ t.rd SFT_MODE_MODE = 3) ∧
    (s.rd SCN_CTL_SOURCE ≠ 0 → t.rd SCN_CTL_SOURCE = 0 → s.comp.ready = true ∧ s.comp.committed = true ∧
      t.rd LCS_BOOT_CAPABLE = 1 ∧ t.rd LCS_BOOT_IMAGE ≠ 0) ∧
    (s.sft.resume = false → s.rd SFT_MODE_MODE < 2 → s.can.rx = [] → s.rd SFT_TWIN_CFG_EN = 0 → s.comp.ready = true →
      s.comp.committed = true → s.rd LCS_BOOT_CAPABLE ≠ 0 → s.rd LCS_BOOT_IMAGE ≠ 0 → t.rd SCN_CTL_SOURCE = 0)

/-- A SEED that is written is held, not used (R136), with SEED_PEND set whatever the source (the model's choice, log 211); sub-periods start in their order, and the lowest and highest die supply of
their samples are kept (R135, R181). The model's choices: the sub-period number counts on modulo 16 (log 115), and the
supply samples are operands of SUB_PERIOD_START (log 18).

The sum of the pulse widths over the 16 sub-periods is the code, for every tile and every seed (R136). -/
def Obligations.SubPeriodsRun : Prop :=
  (∀ (v a b : Nat) (s : State), s.life.released = true → v < 16 → (Instr.subPeriodStart a b).wf = true →
    (∃ t : State, exec (.seedWrite v) s = .next t ∧ t.rd SCN_CTL_SEED = v ∧
      t.rd SCN_CTL_SEED_PEND = 1 ∧ t.scn.seed = s.scn.seed ∧ onlyFields s t [SCN_CTL_SEED, SCN_CTL_SEED_PEND]) ∧
    (∃ t : State, exec (.subPeriodStart a b) s = .next t ∧ t.scn.sub = s.scn.subNext ∧
      t.scn.subNext = (s.scn.subNext + 1) % 16 ∧
      t.sal.highest = [max (s.sal.highest.getD 0 0) a, max (s.sal.highest.getD 1 0) b] ∧ t.sal.newest = [some a, some b] ∧
      (∀ m n : Nat, s.sal.lowest = [some m, some n] → t.sal.lowest = [some (min m a), some (min n b)]) ∧
      { t with scn := { t.scn with sub := s.scn.sub, subNext := s.scn.subNext },
               sal := { t.sal with lowest := s.sal.lowest, highest := s.sal.highest, newest := s.sal.newest } } = s)) ∧
  (∀ t seed p : Nat, ((List.range 16).map (fun j => slotsOn t j seed p)).sum = p)

/-- The drive mapper (R132): the range is RMIN or the smallest whose rounded code fits 12 bits, or 3, whichever is more; the
code is held at 4,095; LOWCUT moves a low code of the 1/8 range to 0 or 16; a code of 0 has range 0. Rounding is to the
nearest integer, ties to even. From 65,528 no range fits, and range 3 has code 4,095. The largest intensities of the ranges
(R131) follow. -/
def Obligations.DriveMapperFollowsTheFormula : Prop :=
  (∀ (rmin i : Nat) (lowcut : Bool), rmin < 4 → i < 65536 →
    (∃ least : Nat, least ≤ 3 ∧ (roundEven i (2 ^ (least + 1)) ≤ 4095 ∨ least = 3) ∧
      (∀ r : Nat, r < least → 4095 < roundEven i (2 ^ (r + 1))) ∧
      (let s := max rmin least
       let p := min 4095 (roundEven i (2 ^ (s + 1)))
       let q := if lowcut = true ∧ s = 0 ∧ 1 ≤ p ∧ p ≤ 15 then (if p < 8 then 0 else 16) else p
       driveMap rmin lowcut i = (if q = 0 then 0 else s, q))) ∧
    (65528 ≤ i → driveMap rmin lowcut i = (3, 4095) ∧ roundEven i 16 = 4096) ∧
    (∀ s : Nat, s < 3 → (roundEven i (2 ^ (s + 1)) ≤ 4095 ↔ i ≤ [8190, 16381, 32763].getD s 0))) ∧
  (∀ i d : Nat, 0 < d → 2 * i ≤ 2 * d * roundEven i d + d ∧ 2 * d * roundEven i d ≤ 2 * i + d ∧
    (2 * i = 2 * d * roundEven i d + d ∨ 2 * d * roundEven i d = 2 * i + d → roundEven i d % 2 = 0))

/-- The clamp (R116): no pixel passes its envelope maximum, whatever the permit, the floor and its release; the base's floor
holds up to that maximum while it is not released; class 1 without the permit keeps no more than its floor.

DARK takes precedence, then SKINK (R125): neither mode loads the frame, and no boundary leaves DARK for FRAME without a
swap and the permit of first light. -/
def Obligations.ClampAndSource : Prop :=
  (∀ (v floor maxv : Nat) (side : Side) (released permitted : Bool),
    clampPixel v floor maxv side released permitted ≤ maxv ∧
    (side.base = true → released = false → min floor maxv ≤ clampPixel v floor maxv side released permitted) ∧
    (permitted = false → side.cls = 1 →
      clampPixel v floor maxv side released permitted ≤ if side.base = true then floor else 0) ∧
    (side.base = false → permitted = true → clampPixel v floor maxv side released permitted = min v maxv)) ∧
  (∀ (old mode : Nat) (swapped permitted ended : Bool), old ≤ 2 →
    (mode = 3 → nextSource old mode swapped permitted ended = 2) ∧
    (mode = 2 → nextSource old mode swapped permitted ended = 1) ∧
    (mode ≤ 1 → old ≠ 0 → (nextSource old mode swapped permitted ended = 0 ↔
      swapped = true ∧ permitted = true ∧ (old = 1 ∨ ended = false))) ∧
    (mode ≤ 1 → old = 0 → nextSource old mode swapped permitted ended = 0))

/-- An emitter die that has had no Croak for two of the periods it last measured switches its tiles off, and no pixel of it is
lit in any sub-period (R143); a lane that loses lock is taken from the lanes in lock, once, on a bus declared down
too (R142, R149). That the two periods are
held against the device time at the end of the tick that runs, time + tickLength, is the model's choice, log 137. -/
def Obligations.DieGoesDarkOnItsOwn : Prop :=
  ∀ (d l : Nat) (s : State), s.life.released = true → d < 2 → l < 4 → s.scn.dark.length = 2 →
    (s.croakOverdue d = false → exec (.emitterCroakTimeout d) s = .next s) ∧
    (∀ last per : Nat, s.scn.croakAt.getD d none = some last → s.scn.croakPer.getD d none = some per →
        last + 2 * per < s.tick.time + s.tickLength →
      ∃ t : State, exec (.emitterCroakTimeout d) s = .next t ∧
      (∀ p j : Nat, dieOf p = d → t.slotsLit p j = 0) ∧
      { t with scn := { t.scn with dark := s.scn.dark } } = s ∧ t.scn.dark = s.scn.dark.set d true) ∧
    (s.rd (SCN_BUS_LANES d) / 2 ^ l % 2 = 0 → exec (.pixbusLockLost d l) s = .next s) ∧
    (s.rd (SCN_BUS_LANES d) / 2 ^ l % 2 = 1 → s.scn.lost.keys.contains (4 * d + l) = false →
      ∃ t : State, exec (.pixbusLockLost d l) s = .next t ∧ t.rd (SCN_BUS_LANES d) / 2 ^ l % 2 = 0 ∧
        t.scn.lost.keys.contains (4 * d + l) = true ∧ keepsBut s t [SCN_BUS_LANES d] ∧
        { t with regs := s.regs, scn := { t.scn with lost := s.scn.lost } } = s ∧
        exec (.pixbusLockLost d l) t = .next t)

/-- Kinds sent once in each run, when the count reaches its limit: FRAME_REPEAT_LIMIT (R41), FROZEN (R82), OBJECTS_STALE
(R113), READBACK_MISMATCH (R145). The command again sends nothing. The model's choices: a limit of STALE below 2 counts as 2
(log 122), limits of 0 count as 1, GKO_CFG.STALE_TICKS among them, which R122 gives no such value, and a command before its
count is reached does nothing (log 7).

More kinds sent once in each run: SWEEP_STALL from both dies (R162), VLED_UNDER (R181), FINGERPRINT_MISMATCH (R326),
TWIN_MISMATCH (R324). The command again sends nothing. With VLED_UNDER the Skink path has failed, which in FALLBACK means
DARK (R301, R305). -/
def Obligations.FaultsAreSentOncePerRun : Prop :=
  (∀ (n d : Nat) (s : State), s.life.released = true → n < 8 → d < 2 →
    (max 1 (s.rd TCK_OVR_LIMIT) ≤ s.rd TCK_OVR_CONSEC → s.comp.repeatSent = false →
      ∃ t : State, exec .frameRepeatLimit s = .next t ∧ sends s t 0x069 0x01 s.comp.lastStage ∧
        keepsBut s t [] ∧ exec .frameRepeatLimit t = .next t) ∧
    (max 2 (s.rd (LYR_CTL_STALE n)) ≤ s.rd (LYR_STAT_SAME n) → s.rd (LYR_CTL_LIVE n) ≠ 0 →
        s.comp.frozenSent.contains n = false →
      ∃ t : State, exec (.layerFrozen n) s = .next t ∧ sends s t (0x060 + n) 0x01 0 ∧ t.rd (LYR_STAT_FROZEN n) = 1 ∧
        keepsBut s t [LYR_STAT_FROZEN n] ∧ exec (.layerFrozen n) t = .next t) ∧
    (max 1 (s.rd GKO_CFG_STALE_TICKS) ≤ s.rd GKO_OBJ_STAT_STALE_NOW → s.gko.staleSent = false →
      ∃ t : State, exec .objectsStale s = .next t ∧ sends s t 0x06C 0x02 (s.rd GKO_OBJ_STAT_STALE_NOW) ∧
        t.rd GKO_OBJ_STAT_STALE = 1 ∧ keepsBut s t [GKO_OBJ_STAT_STALE] ∧ exec .objectsStale t = .next t) ∧
    (max 1 (s.smp SCN_RB_CFG_LIMIT) ≤ s.scn.mism.getD d 0 → s.scn.mismSent.getD d false = false → s.scn.mismSent.length = 2 →
      ∃ t : State, exec (.readbackMismatch d) s = .next t ∧
        sends s t (32 * d + s.rd (if d = 0 then SCN_RB_STAT_RGN_A else SCN_RB_STAT_RGN_B)) 0x20 0 ∧
        keepsBut s t [] ∧ exec (.readbackMismatch d) t = .next t)) ∧
  (∀ (i d : Nat) (s : State), s.life.released = true → i < 4 → d < 2 →
    (max 8 (s.smp AXL_CFG2_STALL_TICKS) ≤ s.pix.stall → s.pix.stallSent = false →
      ∃ t : State, exec .sweepStall s = .next t ∧ t.fifo.drop s.fifo.length ≠ [] ∧
        (t.fifo.drop s.fifo.length).map (fun m => (m.source, m.kind)) = [(0x06D, 0x07), (0x06E, 0x07)] ∧
        keepsBut s t [] ∧ exec .sweepStall t = .next t) ∧
    (2 ≤ s.sal.under.getD d 0 → s.sal.underSent.getD d false = false → s.sal.upOnce.getD d false = true →
        s.sal.underSent.length = 2 →
      (s.rd LCS_BOOT_ENDED = 0 ∨ s.rd SFT_MODE_MODE ≠ 2 → ∃ t : State, exec (.vledUnder d) s = .next t ∧
        sends s t (0x0C0 + d) 0x02 (s.sal.vmin.getD d 0) ∧ t.rd SFT_MODE_SK_HEALTHY = 0 ∧
        keepsBut s t [SFT_SK_HEALTH_FAIL, SFT_MODE_SK_HEALTHY] ∧
        ∃ u : State, exec (.vledUnder d) t = .next u ∧ u.fifo = t.fifo) ∧
      (s.rd LCS_BOOT_ENDED ≠ 0 → s.rd SFT_MODE_MODE = 2 → ∃ t : State, exec (.vledUnder d) s = .next t ∧
        t.rd SFT_MODE_MODE = 3 ∧ t.rd SFT_MODE_LIMP = 1 ∧ t.rd SFT_MODE_SK_HEALTHY = 0 ∧ t.sft.limpHigh = false ∧
        ∃ m : Msg, t.fifo[s.fifo.length]? = some m ∧ m.source = 0x0C0 + d ∧ m.kind = 2)) ∧
    (3 ≤ (s.peer i).fpDiff → (s.peer i).fpSent = false → s.tick.peers.length = 4 →
      ∃ t : State, exec (.fingerprintMismatch i) s = .next t ∧ sends s t (0x208 + i) 0x02 (s.peer i).fp ∧
        keepsBut s t [] ∧ exec (.fingerprintMismatch i) t = .next t) ∧
    (max 1 (s.rd SFT_TWIN_CFG_PERSIST) ≤ s.rd SFT_TWIN_STAT_MISM_CNT → s.sft.mismSent = false →
      ∃ t : State, exec .twinMismatch s = .next t ∧ sends s t 0x0D2 0x01 (s.rd SFT_TWIN_SEQ_LINK_SEQ) ∧
        keepsBut s t [] ∧ exec .twinMismatch t = .next t))

/-- The four stages of a frame, in the order of R38: the bands of the mask, one at a time; composition, once they are all
there; the resolve, with a symbol step that is withheld counted (R193); the pass, after which the frame is ready and the
SEALED run slot starts (R90) unless the envelope has changed, which is ENVELOPE_CRC (R120). The resolve samples the permit
(R117, R319) and whether an envelope is loaded: that RESOLVE_DONE is the start of the pass, where R117 samples them, is the
model's choice, log 133. Out of its turn a stage does nothing (log 7). -/
def Obligations.FrameStagesRunInOrder : Prop :=
  ∀ (us tenths : Nat) (upsets : List (Nat × Nat)) (s : State), s.life.released = true →
    us < 2 ^ 16 → (Instr.resolveDone tenths).wf = true → (Instr.scaleClampDone upsets).wf = true →
    (s.comp.bands < 8 → ∃ t : State, exec (.geckoBandDone us) s = .next t ∧ t.comp.bands = s.comp.bands + 1 ∧
      t.comp.composed = s.comp.composed) ∧
    (8 ≤ s.comp.bands → exec (.geckoBandDone us) s = .next s) ∧
    (s.comp.bands < 8 ∨ s.comp.composed = true ∨ s.fetched = false → exec (.compositionDone us) s = .next s) ∧
    (8 ≤ s.comp.bands → s.comp.composed = false → s.fetched = true →
      ∃ t : State, exec (.compositionDone us) s = .next t ∧ t.comp.composed = true) ∧
    (s.comp.composed = false ∨ s.comp.resolved = true → exec (.resolveDone tenths) s = .next s) ∧
    (s.comp.composed = true → s.comp.resolved = false →
      ∃ t : State, exec (.resolveDone tenths) s = .next t ∧ t.comp.resolved = true ∧ t.gko.permit = s.permitNow ∧
        t.gko.passLoaded = (s.rd GKO_ENV_CTL_LOADED != 0) ∧ t.rd SAL_STAT_RESOLVE = min 255 tenths) ∧
    (s.comp.resolved = false ∨ s.comp.ready = true ∨ s.comp.passFailed = true → exec (.scaleClampDone upsets) s = .next s) ∧
    (s.comp.resolved = true → s.comp.ready = false → s.comp.passFailed = false →
      (s.gko.passLoaded = false → ∃ t : State, exec (.scaleClampDone upsets) s = .next t ∧ t.comp.ready = true ∧
        t.eng.slot = 2 ∧ t.rd GKO_ENV_LAST_CRC = 0) ∧
      (upsets = [] → s.gko.passLoaded = true → ∀ crc : Nat, crc = envelopeCrc s.gko.env s.gko.floor →
        (crc = s.rd GKO_ENV_CRC_CRC → ∃ t : State, exec (.scaleClampDone upsets) s = .next t ∧ t.comp.ready = true ∧
          t.eng.slot = 2 ∧ t.rd GKO_ENV_LAST_CRC = crc % 2 ^ 32) ∧
        (crc ≠ s.rd GKO_ENV_CRC_CRC → ∃ t : State, exec (.scaleClampDone upsets) s = .next t ∧ t.comp.ready = false ∧
          t.comp.passFailed = true ∧ t.rd GKO_ENV_LAST_CRC = crc % 2 ^ 32 ∧ sends s t 0x06B 0x01 0 ∧ keepsBut s t [GKO_ENV_LAST_CRC])))

/-- The budget of a frame (R186, R187) and what the pass writes (R116, R187). Nothing is reduced where every power keeps its
limits. Without a released floor no tile and no level ends above the larger of its limit and its fixed part. Of one tile that
alone is over its limit, in class 3 alone, the factor of that class is 1,024 (1 − over / Q) cut to a whole number. Each pixel
of the frame then has its scaled value, held by the clamp, and no other pixel and no front pixel changes. -/
def Obligations.BudgetReducesAFrame : Prop :=
  ∀ (tenths : Nat) (s : State), s.life.released = true → (Instr.resolveDone tenths).wf = true →
    (s.comp.composed = true → s.comp.resolved = false → ∃ t : State, exec (.resolveDone tenths) s = .next t ∧
      ∀ fixed : Nat × TileSum → Rat, (∀ q : Nat × TileSum, fixed q = s.unitPower q.1 * (((q.2.lit * s.floorOf q.1 : Nat) : Rat) + q.2.z)) →
      ((∀ p ∈ t.sal.next.raw, p.2 ≤ limOf s.sal.tileLc (regionOfTile p.1)) →
        (∀ m < 67, limOf t.sal.next.levelRaw m ≤ limOf s.sal.lc m ∧ limOf t.sal.next.levelRaw m ≤ limOf s.sal.la m) →
        (∀ p ∈ t.sal.next.fac, p.2 = [1024, 1024, 1024, 1024]) ∧ t.sal.next.pred = t.sal.next.raw) ∧
      ((∀ q ∈ s.sal.sums, 0 ≤ s.unitPower q.1) → t.sal.next.rel = [false, false] →
        (∀ (i : Nat) (q : Nat × TileSum), s.sal.sums[i]? = some q →
          ∃ p : Rat, t.sal.next.pred[i]? = some (q.1, p) ∧ p ≤ max (limOf s.sal.tileLc (regionOfTile q.1)) (fixed q)) ∧
        (∀ m < 67, limOf t.sal.next.level m ≤ max (limOf s.sal.la m) (((s.sal.sums.filter (fun q => if m < 64 then
          regionOfTile q.1 == m else if m < 66 then dieOfTile q.1 == m - 64 else true)).map fixed).sum))) ∧
      (∀ (k lit low r : Nat) (z power lim : Rat), s.sal.sums = [(k, ⟨lit, low, [0, 0, 0, r], z⟩)] → k < 1280 → 0 < r →
        0 < s.unitPower k → lim = limOf s.sal.tileLc (regionOfTile k) → power = fixed (k, ⟨lit, low, [0, 0, 0, r], z⟩) + s.unitPower k * r →
        power - s.unitPower k * r ≤ lim → lim < power → (∀ m < 67, power ≤ limOf s.sal.lc m ∧ power ≤ limOf s.sal.la m) →
        t.sal.next.fac = [(k, [1024, 1024, 1024, (Rat.floor (1024 * (1 - (power - lim) / (s.unitPower k * r)))).toNat])])) ∧
    (s.comp.resolved = true → s.comp.ready = false → s.comp.passFailed = false →
      ∃ t : State, exec (.scaleClampDone []) s = .next t ∧ t.front = s.front ∧ t.back.side = s.back.side ∧
      ∀ (p i fl : Nat) (sd : Side) (b : FrameBudget), i = Cells.get s.back.light 0 p → sd = Side.ofNat (Cells.get s.back.side 0 p) →
        fl = (if sd.base = true then s.floorOf (tileOf p) else 0) → b = s.sal.next →
        (p ∈ s.back.pixels → Cells.get t.back.light 0 p = clampPixel
          (min i fl * b.ffloor.getD (dieOfTile (tileOf p)) 1024 / 1024 +
            (i - fl) * (Keyed.get b.fac [1024, 1024, 1024, 1024] (tileOf p)).getD (sd.cls % 4) 1024 / 1024)
          (s.floorOf (tileOf p)) (if s.gko.passLoaded = true then envMax (s.gko.env.get p) else 0) sd
          (b.rel.getD (dieOfTile (tileOf p)) false) s.gko.permit) ∧
        (p ∉ s.back.pixels → Cells.get t.back.light 0 p = i))

/-- Limits of time and run: the commit cut-off (R75) with the CLOSE run slot (R90); an epoch wait that times out disarms its
commit, which completes TIMEOUT, moves nothing and sends EPOCH_TIMEOUT (R80); the time base lost (R105); the sweep step forced
(R194). A command before its limit is reached does nothing: the model's choice, logs 7, 126.

A sensor is taken back after READMIT plausible readings in a row, with its own newest reading in force (R197, R198), and the
hottest of the plausible sensors govern (R199); its freezes are lifted after 64, and no others (R199). That the sensors that
govern follow at once, and the factors with the boundary, is the model's choice, log 225. -/
def Obligations.WaitsAndLimitsEnd : Prop :=
  (∀ (a : Armed) (f : Flight) (s : State), s.life.released = true →
    (s.comp.cutoff = true → exec .commitCutoff s = .next s) ∧
    (s.comp.cutoff = false → ∃ t : State, exec .commitCutoff s = .next t ∧ t.comp = { s.comp with cutoff := true } ∧
      t.eng.slot = 3 ∧ (∀ e : Nat, s.rd (NWT_STAT_STATE e) ≠ 2 → t.engine e = s.engine e) ∧
      { t with comp := s.comp, eng := s.eng } = s) ∧
    (s.comp.armed = none → exec .epochTimeout s = .next s) ∧
    (s.comp.armed = some a → a.released ≠ none ∨ s.tick.count < a.due + max 1 (s.smp CMP_EPOCH_CFG_TIMEOUT_TICKS) →
      exec .epochTimeout s = .next s) ∧
    (s.comp.armed = some a → s.epochSync = true → a.released = none →
      a.due + max 1 (s.smp CMP_EPOCH_CFG_TIMEOUT_TICKS) ≤ s.tick.count → s.oneAtWork f 3 → a.seq = f.id →
      ∃ (t : State) (m : Msg) (more : List Msg), exec .epochTimeout s = .next t ∧ completes s t 3 f.desc 7 0 0 ∧
        t.comp = { s.comp with armed := none } ∧ t.rd CMP_COMMIT_ARMED = 0 ∧ t.rd CMP_COMMIT_EPOCH_WAIT = 0 ∧
        t.fifo = s.fifo ++ m :: more ∧ m.source = 0x06A ∧ m.kind = 0x01 ∧ m.addr = a.epoch % 2 ^ 24 ∧
        keepsBut s t ([CMP_COMMIT_ARMED, CMP_COMMIT_LATE, CMP_COMMIT_EPOCH_WAIT, CMP_COMMIT_AT_LO] ++ cplFields f.desc)) ∧
    (s.rd GKO_TB_STAT_STATE = 2 → max 16 (s.rd GKO_TB_CFG_LOSS_TICKS) ≤ s.gko.tb.quiet →
      ∃ t : State, exec .timebaseLost s = .next t ∧ sends s t 0x06C 0x01 0 ∧ t.rd GKO_TB_STAT_STATE = 3 ∧
        onlyFieldsAndMessages s t [GKO_TB_STAT_STATE]) ∧
    (s.rd GKO_TB_STAT_STATE ≠ 2 ∨ s.gko.tb.quiet < max 16 (s.rd GKO_TB_CFG_LOSS_TICKS) → exec .timebaseLost s = .next s) ∧
    (max 1 (s.rd SAL_GRANT_CFG_FORCE) ≤ s.sal.withheld →
      exec .sweepForced s = .next { s with sal := { s.sal with forceDue := true } }) ∧
    (s.sal.withheld < max 1 (s.rd SAL_GRANT_CFG_FORCE) → exec .sweepForced s = .next s)) ∧
  (∀ (i : Nat) (s : State), s.life.released = true → (Instr.sensorReadmit i).wf = true → i < s.thm.impl.length →
    (s.thm.impl.getD i false = true → max 4 (s.rd THM_CFG_READMIT) ≤ s.thm.okRun.getD i 0 →
      ∃ t : State, exec (.sensorReadmit i) s = .next t ∧ t.thm.impl.getD i true = false ∧ t.rd (THM_T_IMPL i) = 0 ∧
        t.rd (THM_T_SUBST i) = 0 ∧ t.thm.val = s.thm.val.set i (((s.thm.past.headD []).getD i 0 : Int) : Rat) ∧
        t.thm.last = s.thm.last.set i (some ((s.thm.past.headD []).getD i 0)) ∧
        (∀ k : Nat, k ≠ i → t.thm.impl.getD k false = s.thm.impl.getD k false) ∧
        t.thm.govSink = hottest t.thm.val (t.plausible t.sinkNtcs) ∧ t.thm.govDrv = hottest t.thm.val (t.plausible [36, 37, 38, 39]) ∧
        { t with
          regs := s.regs
          thm := { t.thm with
            impl := s.thm.impl, val := s.thm.val, last := s.thm.last, govSink := s.thm.govSink, govDrv := s.thm.govDrv } } = s) ∧
    (s.thm.impl.getD i false = false ∨ s.thm.okRun.getD i 0 < max 4 (s.rd THM_CFG_READMIT) →
      exec (.sensorReadmit i) s = .next s) ∧
    (s.thm.okRun.getD i 0 < 64 → exec (.throttleFreezeLift i) s = .next s) ∧
    (64 ≤ s.thm.okRun.getD i 0 → ∃ t : State, exec (.throttleFreezeLift i) s = .next t ∧
      (∀ z : Freeze, z ∈ t.thm.freezes ↔ z ∈ s.thm.freezes ∧ z.sensor ≠ i) ∧
      { t with regs := s.regs, thm := { t.thm with freezes := s.thm.freezes } } = s))

/-! ### Descriptors (R55, R74–R76, R94, R119, R192, R216, R239–R254, R313–R315, R368) -/

/-- A descriptor of an opcode the table has not completes with BAD_ARG and DETAIL 0, and nothing else happens (R251).

A field that must be zero and is not: BAD_ARG with the lowest such word named, and nothing else happens (R247, R252, R457).
The fields of each opcode are those of R252's table; a word in the layout of a register has that register's fields (the
model's reading, log 43); a SYMBOL_LOAD with PROGRAM is left out, whose state checks come first (R253). That the zero fields
are looked at before an opcode's own checks is the model's reading, log 82. -/
def Obligations.BadDescriptorsAreRefused : Prop :=
  (∀ (op : Nat) (d : Desc) (s : State), s.life.released = true → (Instr.unknownOpcode op d).wf = true → s.clearFor d →
    ∃ t : State, exec (.unknownOpcode op d) s = .next t ∧ completesOnly s t [] op d 5 0 0) ∧
  (∀ (d : Desc) (s : State), s.life.released = true → descOk d = true → s.clearFor d →
    ∀ (c : Instr) (op : Nat) (fields : List Nat),
      (c, op, fields) ∈ (let a := 0xFFFFFFFF
        let w1 := d.args.getD 0 0
        [(Instr.surfaceBind d, 1, [0x3FFFF, a, a, 0xFFF3FFF, 0xFFFFF, a, 0]),
        (.layerSet d, 2, if w1 % 16 = 8 then [0x10F, a, 0xFFFFF, a, a, a, a]
          else [0x1F0F, 0x1FFFFFFF, 0x3FF07FF, 0x3FF0FFF, 0xFFF1FFF, 0xFFF3FFF, 0]),
        (.commit d, 3, [a, 0, 0, 0, 0, 0, 0]), (.fadeLoad d, 4, [0x7F07, a, a, 0, 0, 0, 0]),
        (.objectList d, 6, [a, a, a, 0, 0, 0, 0]), (.budgetSet d, 7, [0x7, a, 0xFFFFFF07, 0xFFFFFF, 0, 0, 0]),
        (.envelopeLoad d, 8, [a, a, a, 0, 0, 0, 0]), (.calUserWrite d, 9, [0x307, a, a, a, a, 0, 0]),
        (.bistRun d, 10, [0xFF, a, a, 0xFFFF, 0, 0, 0]), (.recorderRead d, 11, [a, 0x7FF, a, a, 0, 0, 0]),
        (.recorderFreeze d, 12, [1, 0, 0, 0, 0, 0, 0]),
        (.crcRun d, 13, [0x133, a, if w1 / 16 % 4 = 0 then a else 0, a, a, 0, 0]), (.resume d, 14, [a, a, 0, 0, 0, 0, 0]),
        (.statusSnapshot d, 15, [a, a, 0, 0, 0, 0, 0]), (.engineLoad d, 16, [0x1F, a, a, a, 0, 0, 0])] ++
        if w1 / 2 % 2 = 0 then [(.symbolLoad d, 5, [0x3, a, if w1 % 2 = 1 then a else 0, a, a, a, 0])] else []) →
      (d.rsvd ≠ 0 → ∃ t : State, exec c s = .next t ∧ completesOnly s t [] op d 5 0 0) ∧
      (∀ w < 7, d.rsvd = 0 → Nat.land (d.args.getD w 0) (0xFFFFFFFF - fields.getD w 0) ≠ 0 →
        (∀ k < w, Nat.land (d.args.getD k 0) (0xFFFFFFFF - fields.getD k 0) = 0) →
        ∃ t : State, exec c s = .next t ∧ completesOnly s t [] op d 5 (w + 1) 0))

/-- SURFACE_BIND of a host or a local surface, compressed or not, that keeps R55 writes the shadow of its slot, and no other
shadow (R55, R63, R252). That a FRAMEB that is no multiple of 64 is bound as written is the model's choice, log 206.

LAYER_SET of a layer (R52, R65, R87, R252, R253): the fields its W_ bits name are merged into the layer's shadow. A merged
result that is enabled and breaks R52 or R65, or has a destination side of 0, is BAD_ARG, leaves the shadow and names a word;
every other completes OK, with each named field written and no other: on a graphic layer DSZ writes SSZ too, and SRC only the
origin. That a side of 0, which R87 does not have, is refused, and by the word of DSZ, is the model's reading, log 43.

LAYER_SET of layer 8 (R108, R252, R253): good Gecko parameters go into the shadows that are named, and nowhere else; a CFG
out of its ranges, or else two enabled entries for one class, is BAD_ARG. LAYER_SET of a layer above 8 is BAD_ARG.

BUDGET_SET (R192, R252): the words its mask names are merged with the shadow rule. A merged rule that keeps the limits of
R192 becomes the shadow, every other is BAD_ARG and leaves it; no other shadow changes. That a bit outside the fields of the
layouts is a zero field is the model's reading, log 43. -/
def Obligations.ShadowWritesTakeEffect : Prop :=
  (∀ (d : Desc) (s : State), s.life.released = true → descOk d = true → d.rsvd = 0 → s.clearFor d →
    ∀ (i fmt comp loc frames addr hi w h stride frameb : Nat) (sf : Surf), i < 32 → fmt < 3 → comp < 3 → loc < 2 → 1 ≤ frames →
      frames < 256 → addr < 2 ^ 32 → addr % 64 = 0 → 1 ≤ w → w ≤ 8192 → 1 ≤ h → h ≤ 2560 → stride < 2 ^ 20 →
      (comp = 0 → stride % 64 = 0 ∧ w * bytesPer fmt ≤ stride) → (comp = 2 → fmt ≠ 2 ∧ w % 64 = 0) →
      sf = { addr := hi * 2 ^ 32 + addr, w := w, h := h, format := fmt, comp := comp, isLocal := loc == 1, frames := frames,
             bound := true, stride := stride, frameb := frameb } →
      (if loc = 0 then frames = 1 else hi = 0 ∧ addr + surfExtent sf 0 ≤ areaSize) →
      d.args = [i + 32 * fmt + 128 * comp + 512 * loc + 1024 * frames, addr, hi, w + 65536 * h, stride, frameb, 0] →
      ∃ t : State, exec (.surfaceBind d) s = .next t ∧ t.surf false i = sf ∧
        (∀ k : Nat, k ≠ i → k < 32 → t.surf false k = s.surf false k) ∧ (∀ k < 32, t.surf true k = s.surf true k) ∧
        completesOnly s { t with comp := { t.comp with dirEndSh := s.comp.dirEndSh } }
          [CMP_SURFSH_ADDR_LO_ADDR i, CMP_SURFSH_ADDR_HI_ADDR i, CMP_SURFSH_GEOM_W i, CMP_SURFSH_GEOM_H i,
          CMP_SURFSH_FMT_FORMAT i, CMP_SURFSH_FMT_COMP i, CMP_SURFSH_FMT_LOCAL i, CMP_SURFSH_FMT_FRAMES i,
          CMP_SURFSH_FMT_BOUND i, CMP_SURFSH_STRIDE_BYTES i, CMP_SURFSH_FRAMEB_BYTES i] 1 d 0 0 0) ∧
  (∀ (d : Desc) (s : State), s.life.released = true → descOk d = true → d.rsvd = 0 → s.clearFor d →
    ∀ n m v dx dy dw dh sx sy sw sh en mx my mw mh msw msh : Nat, n < 8 → m < 32 → v < 2 ^ 29 → dx < 2 ^ 11 → dy < 2 ^ 10 →
      dw < 2 ^ 12 → dh < 2 ^ 10 → sx < 2 ^ 13 → sy < 2 ^ 12 → sw < 2 ^ 14 → sh < 2 ^ 12 →
      d.args = [n + 256 * m, v, dx + 65536 * dy, dw + 65536 * dh, sx + 65536 * sy, sw + 65536 * sh, 0] →
      en = (if m % 2 = 1 then v % 2 else s.rd (LYRSH_CTL_EN n) % 2) →
      mx = (if m / 4 % 2 = 1 then dx else s.rd (LYRSH_DST_X n)) → my = (if m / 4 % 2 = 1 then dy else s.rd (LYRSH_DST_Y n)) →
      mw = (if m / 8 % 2 = 1 then dw else s.rd (LYRSH_DSZ_W n)) → mh = (if m / 8 % 2 = 1 then dh else s.rd (LYRSH_DSZ_H n)) →
      msw = (if n < 3 ∧ m / 16 % 2 = 1 then sw else if 3 ≤ n ∧ m / 8 % 2 = 1 then dw else s.rd (LYRSH_SSZ_W n)) →
      msh = (if n < 3 ∧ m / 16 % 2 = 1 then sh else if 3 ≤ n ∧ m / 8 % 2 = 1 then dh else s.rd (LYRSH_SSZ_H n)) →
      s.rd (LYRSH_CTL_EN n) < 2 →
      (en = 0 ∨ 1 ≤ mw ∧ 1 ≤ mh ∧ mx + mw ≤ 2048 ∧ my + mh ≤ 640 ∧
          (n < 3 → msw ≤ 4 * mw ∧ mw ≤ 16 * msw ∧ msh ≤ 4 * mh ∧ mh ≤ 16 * msh) →
        ∃ t : State, exec (.layerSet d) s = .next t ∧
          (m % 2 = 1 → ∀ f ∈ [LYRSH_CTL_EN n, LYRSH_CTL_OP n, LYRSH_CTL_PREMUL n, LYRSH_CTL_LIVE n, LYRSH_CTL_TAG_OVR n,
            LYRSH_CTL_CLASS n, LYRSH_CTL_STALE n, LYRSH_CTL_SURF n], t.rd f = v / 2 ^ f.lo % 2 ^ f.width) ∧
          (m / 2 % 2 = 1 → t.rd (LYRSH_CTL_ALPHA n) = v / 2 ^ 8 % 2 ^ 8) ∧
          t.rd (LYRSH_DST_X n) = mx ∧ t.rd (LYRSH_DST_Y n) = my ∧ t.rd (LYRSH_DSZ_W n) = mw ∧ t.rd (LYRSH_DSZ_H n) = mh ∧
          t.rd (LYRSH_SSZ_W n) = msw ∧ t.rd (LYRSH_SSZ_H n) = msh ∧
          (m / 16 % 2 = 1 → t.rd (LYRSH_SRC_X n) = sx ∧ t.rd (LYRSH_SRC_Y n) = sy) ∧
          completesOnly s { t with comp := { t.comp with alphaNew := s.comp.alphaNew } }
            ((if m % 2 = 1 then [LYRSH_CTL_EN n, LYRSH_CTL_OP n, LYRSH_CTL_PREMUL n, LYRSH_CTL_LIVE n, LYRSH_CTL_TAG_OVR n,
              LYRSH_CTL_CLASS n, LYRSH_CTL_STALE n, LYRSH_CTL_SURF n] else []) ++
            (if m / 2 % 2 = 1 then [LYRSH_CTL_ALPHA n] else []) ++
            (if m / 16 % 2 = 1 then [LYRSH_SRC_X n, LYRSH_SRC_Y n] else []) ++
            [LYRSH_DST_X n, LYRSH_DST_Y n, LYRSH_DSZ_W n, LYRSH_DSZ_H n, LYRSH_SSZ_W n, LYRSH_SSZ_H n]) 2 d 0 0 0) ∧
      (en = 1 → mw = 0 ∨ mh = 0 ∨ 2048 < mx + mw ∨ 640 < my + mh ∨
          n < 3 ∧ (4 * mw < msw ∨ 16 * msw < mw ∨ 4 * mh < msh ∨ 16 * msh < mh) →
        ∃ t : State, exec (.layerSet d) s = .next t ∧ completesOnly s t [] 2 d 5
          (if (2048 < mx + mw ∨ 640 < my + mh) ∧ m / 4 % 2 = 1 then 3 else if m / 8 % 2 = 1 then 4
            else if (n < 3 ∧ (4 * mw < msw ∨ 16 * msw < mw ∨ 4 * mh < msh ∨ 16 * msh < mh)) ∧ m / 16 % 2 = 1 then 6 else 2) 0)) ∧
  (∀ (d : Desc) (s : State), s.life.released = true → descOk d = true → d.rsvd = 0 → s.clearFor d →
    (∀ (wc v sel : Nat) (e : List Nat), wc < 2 → sel < 2 ^ 20 → e.length = 4 → d.args = [8 + 256 * wc, v, sel] ++ e →
      (wc = 1 → v % 256 = 0 ∨ 8 < v / 2 ^ 8 % 16 ∨ v / 2 ^ 12 % 16 = 0 ∨ (1000 < v / 2 ^ 16 ∧ v / 2 ^ 16 < 64536) →
        ∃ t : State, exec (.layerSet d) s = .next t ∧ completesOnly s t [] 2 d 5 2 0) ∧
      (wc = 0 ∨ 1 ≤ v % 256 ∧ v / 2 ^ 8 % 16 ≤ 8 ∧ 1 ≤ v / 2 ^ 12 % 16 ∧ (v / 2 ^ 16 ≤ 1000 ∨ 64536 ≤ v / 2 ^ 16) →
        ((∃ i j : Nat, i < j ∧ j < 4 ∧ sel / 2 ^ (16 + i) % 2 = 1 ∧ sel / 2 ^ (16 + j) % 2 = 1 ∧
            sel / 16 ^ i % 16 = sel / 16 ^ j % 16) →
          ∃ t : State, exec (.layerSet d) s = .next t ∧ completesOnly s t [] 2 d 5 3 0) ∧
        ((∀ i j : Nat, i < j → j < 4 → sel / 2 ^ (16 + i) % 2 = 1 → sel / 2 ^ (16 + j) % 2 = 1 →
            sel / 16 ^ i % 16 ≠ sel / 16 ^ j % 16) →
          ∃ t : State, exec (.layerSet d) s = .next t ∧
            (wc = 1 → t.rd GKO_CFGSH_HORIZON_MS = v % 256 ∧ t.rd GKO_CFGSH_SEAM_ROWS = v / 2 ^ 8 % 16 ∧
              t.rd GKO_CFGSH_STALE_TICKS = v / 2 ^ 12 % 16 ∧ t.rd GKO_CFGSH_LAT_US = v / 2 ^ 16) ∧
            (∀ i < 4, sel / 2 ^ (16 + i) % 2 = 1 → ∀ f ∈ [GKO_CLSSH_DEPTH, GKO_CLSSH_MARGIN_H, GKO_CLSSH_MARGIN_V, GKO_CLSSH_GROW,
              GKO_CLSSH_FEATHER], t.rd (f (sel / 16 ^ i % 16)) = e.getD i 0 / 2 ^ (f 0).lo % 2 ^ (f 0).width) ∧
            completesOnly s t ((if wc = 1 then [GKO_CFGSH_HORIZON_MS, GKO_CFGSH_SEAM_ROWS, GKO_CFGSH_STALE_TICKS, GKO_CFGSH_LAT_US]
              else []) ++ ((List.range 4).filter (fun i => bitOf sel (16 + i))).flatMap (fun i => [GKO_CLSSH_DEPTH (sel / 16 ^ i % 16),
              GKO_CLSSH_MARGIN_H (sel / 16 ^ i % 16), GKO_CLSSH_MARGIN_V (sel / 16 ^ i % 16), GKO_CLSSH_GROW (sel / 16 ^ i % 16),
              GKO_CLSSH_FEATHER (sel / 16 ^ i % 16)])) 2 d 0 0 0))) ∧
    (∀ n : Nat, 9 ≤ n → n < 16 → d.args = [n, 0, 0, 0, 0, 0, 0] →
      ∃ t : State, exec (.layerSet d) s = .next t ∧ completesOnly s t [] 2 d 5 1 0)) ∧
  (∀ (d : Desc) (s : State), s.life.released = true → descOk d = true → d.rsvd = 0 → s.clearFor d →
    ∀ m a b c lim cfg tmp : Nat, m < 8 → b / 8 % 32 = 0 → c < 2 ^ 24 → d.args = [m, a, b, c, 0, 0, 0] →
      lim = (if m % 2 = 1 then a else s.ruleWord 0) → cfg = (if m / 2 % 2 = 1 then b else s.ruleWord 1) →
      tmp = (if m / 4 % 2 = 1 then c else s.ruleWord 2) →
      ((∀ i < 4, 1 ≤ lim / 256 ^ i % 256 ∧ lim / 256 ^ i % 256 ≤ 100) ∧ cfg % 8 ≤ 4 ∧ cfg / 2 ^ 8 % 256 < cfg / 2 ^ 16 % 256 ∧
          cfg / 2 ^ 16 % 256 ≤ tmp % 256 ∧ tmp / 2 ^ 8 % 256 < tmp / 2 ^ 16 % 256 →
        ∃ t : State, exec (.budgetSet d) s = .next t ∧
          (m % 2 = 1 → t.ruleWord 0 = a) ∧ (m / 2 % 2 = 1 → t.ruleWord 1 = b) ∧ (m / 4 % 2 = 1 → t.ruleWord 2 = c) ∧
          completesOnly s t (
            (if m % 2 = 1 then [SALSH_RULE_LIM_TILE_PCT, SALSH_RULE_LIM_RGN_PCT, SALSH_RULE_LIM_DIE_PCT, SALSH_RULE_LIM_PKG_PCT]
              else []) ++
            (if m / 2 % 2 = 1 then [SALSH_RULE_CFG_ALLOW, SALSH_RULE_CFG_T_START, SALSH_RULE_CFG_T_END, SALSH_RULE_CFG_F_END]
              else []) ++
            (if m / 4 % 2 = 1 then [SALSH_RULE_TEMP_T_CUT, SALSH_RULE_TEMP_SINK_START, SALSH_RULE_TEMP_SINK_END] else []))
            7 d 0 0 0) ∧
      ((∃ i < 4, lim / 256 ^ i % 256 = 0 ∨ 100 < lim / 256 ^ i % 256) ∨ 4 < cfg % 8 ∨ cfg / 2 ^ 16 % 256 ≤ cfg / 2 ^ 8 % 256 ∨
          tmp % 256 < cfg / 2 ^ 16 % 256 ∨ tmp / 2 ^ 16 % 256 ≤ tmp / 2 ^ 8 % 256 →
        ∃ (t : State) (w : Nat), exec (.budgetSet d) s = .next t ∧ 2 ≤ w ∧ w ≤ 4 ∧ completesOnly s t [] 7 d 5 w 0))

/-- COMMIT (R74, R75): shadows that break a rule are refused with that rule's status, the layer and its surface slot in RESULT,
and nothing is armed; with good shadows and a new epoch it is armed for the next boundary, or after the cut-off for the one
after that, counted as late; an epoch that is not later than the active one is refused with BAD_ARG. That the shadows are looked
at before the epoch is the model's reading, log 121. A COMMIT that was issued behind background work of its ring is not taken
while that work goes on, and is taken when its ring comes to it again (R74, R76; the instant is the model's, log 216). -/
def Obligations.CommitIsArmed : Prop :=
  (∀ (epoch : Nat) (d : Desc) (s : State), s.life.released = true → descOk d = true → d.rsvd = 0 → s.clearFor d →
    d.args = [epoch, 0, 0, 0, 0, 0, 0] →
    (∀ n st : Nat, s.shadowFault = some (n, st) → ∃ t : State, exec (.commit d) s = .next t ∧
      completesOnly s t [] 3 d st 0 (n + 256 * s.rd (LYRSH_CTL_SURF n)) ∧ t.comp.armed = none) ∧
    (s.shadowFault = none → epoch ≤ s.rd CMP_EPOCH_ACTIVE_EPOCH → ∃ t : State, exec (.commit d) s = .next t ∧ completes s t 3 d 5 1 0 ∧
      t.comp.armed = none) ∧
    (s.shadowFault = none → s.rd CMP_EPOCH_ACTIVE_EPOCH < epoch →
      ∃ t : State, exec (.commit d) s = .next t ∧ inFlightAt t 3 d .accepted ∧ t.comp.taken = true ∧
        t.comp.armed = some ⟨d.ring, s.ring.nextId, epoch,
          min (2 ^ 48 - 1) (s.tick.count + if s.comp.cutoff = true then 2 else 1), s.comp.cutoff, none⟩ ∧
        t.rd CMP_COMMIT_ARMED = 1 ∧ t.rd CMP_EPOCH_ARMED_EPOCH = epoch ∧
        t.rd CMP_LATE_COUNT_COUNT = (if s.comp.cutoff = true then min (2 ^ CMP_LATE_COUNT_COUNT.width - 1)
          (s.rd CMP_LATE_COUNT_COUNT + 1) else s.rd CMP_LATE_COUNT_COUNT))) ∧
  (∀ (f g : Flight) (s : State), s.life.released = true → f.ring < 8 → f.opcode = 3 → f.stage = .working → f.ended = false →
    s.ring.batch = 0 →
    (s.ring.flights = [g, f] → g.ring = f.ring → g.id < f.id → isBackground g.opcode = true → g.stage = .accepted → g.ended = false →
      exec (.descriptorRelease f.ring) s = .next s) ∧
    (s.ring.flights = [f] → s.shadowFault = none → s.rd CMP_EPOCH_ACTIVE_EPOCH < f.arg 1 → f.arg 1 < 2 ^ 32 →
      ∃ t : State, exec (.descriptorRelease f.ring) s = .next t ∧ t.ring.flights = [{ f with stage := .accepted }] ∧
        t.comp.taken = true ∧ t.rd CMP_COMMIT_ARMED = 1 ∧ t.rd CMP_EPOCH_ARMED_EPOCH = f.arg 1 ∧
        t.comp.armed = some ⟨f.ring, f.id, f.arg 1,
          min (2 ^ 48 - 1) (s.tick.count + if s.comp.cutoff = true then 2 else 1), s.comp.cutoff, none⟩))

/-- FADE_LOAD and OBJECT_LIST read their data from host memory (R71, R101, R252): the descriptor is at work. A count of 0 or
above 64, and a list that is no whole number of records, are BAD_ARG.

An OBJECT_LIST whose header has arrived (R100–R102, R253, R457): a COUNT above 128 is BAD_ARG, and one that BYTES does not
fit names the word of BYTES; a list with no records is BAD_ARG where its CRC is not that of no bytes, and else waits in the
input buffer, counted as taken. RESULT is LIST_ID.

Background descriptors are accepted where nothing refuses them (R251–R253): SYMBOL_LOAD from the library to bytes no
binding names, ENVELOPE_LOAD before the first commit (R119), CAL_USER_WRITE of the aim without PERSIST (R214), RECORDER_READ,
CRC_RUN over the flash, STATUS_SNAPSHOT, ENGINE_LOAD of an EXT engine (R94).

BIST_RUN that nothing refuses starts its test (R374, R376, R386, R394): it is accepted, it is the test BST_STAT and
BST_RESULT show, with nothing executed yet, and FAULT_PATH sends its messages at once, one from every assigned source. -/
def Obligations.DescriptorWorkStarts : Prop :=
  (∀ (d : Desc) (s : State), s.life.released = true → descOk d = true → d.rsvd = 0 → s.clearFor d →
    (∀ n count lo hi : Nat, n < 8 → count < 128 → lo % 4 = 0 → d.args = [n + 256 * count, lo, hi, 0, 0, 0, 0] →
      (count = 0 ∨ 64 < count → ∃ t : State, exec (.fadeLoad d) s = .next t ∧ completes s t 4 d 5 1 0) ∧
      (0 < count → count ≤ 64 → ∃ t : State, exec (.fadeLoad d) s = .next t ∧ inFlightAt t 4 d .working ∧ keepsBut s t [])) ∧
    (∀ lo hi bytes : Nat, lo % 32 = 0 → d.args = [lo, hi, bytes, 0, 0, 0, 0] →
      (bytes < 32 ∨ bytes % 32 ≠ 0 → ∃ t : State, exec (.objectList d) s = .next t ∧ completes s t 6 d 5 3 0) ∧
      (32 ≤ bytes → bytes % 32 = 0 →
        ∃ t : State, exec (.objectList d) s = .next t ∧ inFlightAt t 6 d .working ∧ keepsBut s t []))) ∧
  (∀ (u : TagUse) (f : Flight) (ws : List Nat) (s : State), s.life.released = true → s.link.deaf = false → u.tag < 256 →
    s.link.tags = [u] → u.req = .arg f.id → u.addr = f.base → u.words = 8 → u.got = [] → ws.length = 8 →
    ws.all (fun w => decide (w < 2 ^ 32)) = true → s.ring.flights = [f] → f.ring < 8 → f.opcode = 6 → f.stage = .working →
    f.ended = false → f.todo = [] → f.waiting = 1 → f.failed = false → f.buf = [] → f.arg 3 = 32 → s.gko.input = none →
    s.rd LNK_STAT_DOWN = 0 → s.ring.gather = false → s.ring.batch = 0 → s.ring.rings.length = 8 →
    (s.ringAt f.ring).queue = [] → s.cplFull f.ring = false →
    ∀ id count crc : Nat, id = ws.getD 0 0 → count = ws.getD 1 0 % 2 ^ 16 → crc = ws.getD 4 0 →
      ∃ t : State, exec (.hostReadCompletion .intact {} u.tag 0 true ws) s = .next t ∧ t.link.tags = [] ∧
        (128 < count → completes s t 6 f.desc 5 1 id ∧ t.gko = s.gko) ∧
        (0 < count → count ≤ 128 → completes s t 6 f.desc 5 3 id ∧ t.gko = s.gko) ∧
        (count = 0 → crc ≠ crc32c [] → completes s t 6 f.desc 5 1 id ∧ t.gko = s.gko) ∧
        (count = 0 → crc = crc32c [] → inFlightAt t 6 f.desc .accepted ∧
          t.gko.input = some (f.id, f.ring, { id := id, htime := ws.getD 2 0 + 2 ^ 32 * ws.getD 3 0, recs := [] }) ∧
          t.rd GKO_LIST_CNT_TAKEN = min (2 ^ GKO_LIST_CNT_TAKEN.width - 1) (s.rd GKO_LIST_CNT_TAKEN + 1) ∧
          keepsBut s t [GKO_LIST_CNT_TAKEN, FLT_SAT_ADDR, FLT_SAT_FLAG])) ∧
  (∀ (d : Desc) (s : State), s.life.released = true → descOk d = true → d.rsvd = 0 → s.clearFor d → s.bst.tests = [] → s.life.state = 1 →
    (∀ src dst n crc : Nat, src % 64 = 0 → dst % 64 = 0 → n % 64 = 0 → src + n ≤ 0xC00000 → dst + n ≤ 1507328 →
        s.namedBytes.all (fun r => decide (dst + n ≤ r.1) || decide (r.2 ≤ dst)) = true → d.args = [0, src, 0, dst, n, crc, 0] →
      ∃ t : State, exec (.symbolLoad d) s = .next t ∧ inFlightAt t 5 d .accepted ∧ keepsBut s t []) ∧
    (∀ lo hi : Nat, s.comp.taken = false → lo % 64 = 0 → d.args = [lo, hi, 1313284, 0, 0, 0, 0] →
      ∃ t : State, exec (.envelopeLoad d) s = .next t ∧ inFlightAt t 8 d .accepted ∧ keepsBut s t []) ∧
    (∀ lo hi crc : Nat, lo % 64 = 0 → d.args = [4, lo, hi, 4, crc, 0, 0] →
      ∃ t : State, exec (.calUserWrite d) s = .next t ∧ inFlightAt t 9 d .accepted ∧ t.rd CAL_USER_STAT_BUSY = 1 ∧
        keepsBut s t [CAL_STAT_USER_DIRTY, CAL_USER_STAT_BUSY, CAL_USER_STAT_PHASE, CAL_USER_STAT_TILEROW]) ∧
    (∀ first n lo hi : Nat, 1 ≤ n → n ≤ 1152 → lo % 32 = 0 → d.args = [first, n, lo, hi, 0, 0, 0] →
      ∃ t : State, exec (.recorderRead d) s = .next t ∧ inFlightAt t 11 d .accepted ∧ keepsBut s t []) ∧
    (∀ at' n : Nat, 0 < n → at' + n ≤ 0x4000000 → d.args = [0x10, at', 0, n, 0, 0, 0] →
      ∃ t : State, exec (.crcRun d) s = .next t ∧ inFlightAt t 13 d .accepted ∧ keepsBut s t []) ∧
    (∀ lo hi : Nat, lo % 64 = 0 → d.args = [lo, hi, 0, 0, 0, 0, 0] →
      ∃ t : State, exec (.statusSnapshot d) s = .next t ∧ inFlightAt t 15 d .accepted ∧ keepsBut s t []) ∧
    (∀ e lo hi n : Nat, e < 32 → s.rd (NWT_CTL_ROLE e) = 2 → lo % 64 = 0 → 192 ≤ n → n ≤ 196736 →
        d.args = [e, lo, hi, n, 0, 0, 0] →
      ∃ t : State, exec (.engineLoad d) s = .next t ∧ inFlightAt t 16 d .accepted ∧ keepsBut s t [])) ∧
  (∀ (num lo hi deadline : Nat) (d : Desc) (s : State), s.life.released = true → descOk d = true → d.rsvd = 0 → s.clearFor d → num < 256 →
    0 < deadline → deadline < 65536 → d.args = [num, lo, hi, deadline, 0, 0, 0] →
    s.testRefusal num (lo + 2 ^ 32 * hi) false = none →
      ∃ t : State, exec (.bistRun d) s = .next t ∧ inFlightAt t 10 d .accepted ∧
        t.bst.tests.map (fun x => x.num) = s.bst.tests.map (fun x => x.num) ++ [num] ∧
        t.rd BST_STAT_RUNNING = 1 ∧ t.rd BST_STAT_ORIGIN = 0 ∧ t.rd BST_STAT_TEST = num ∧ t.rd BST_STAT_GROUP = 0 ∧
        t.rd BST_STAT_WAIT = 0 ∧ t.rd BST_RESULT_TEST = num ∧ t.rd BST_RESULT_COMPLETE = 0 ∧ t.rd BST_RESULT_PASS = 0 ∧
        t.rd BST_RESULT_FAILS = 0 ∧ t.rd BST_EXEC_COUNT = 0 ∧
        (num ≠ 9 → t.fifo = s.fifo) ∧
        (num = 9 → ∃ l : List Msg, t.fifo = s.fifo ++ l ∧ l.length = 168 ∧ t.rd BST_EXPECT_COUNT = 168 ∧
          l.all (fun m => m.kind == 0x3F && m.injected && assigned m.source) = true ∧ (l.map (fun m => m.source)).Nodup))

/-- RECORDER_FREEZE starts a freeze, and with ON = 0 ends it (R368, R369); a start is refused while a freeze runs, while
records are held and within 100 ms of the end of the last one, an end where none runs. RESUME is checked in the order of R314:
out of a lock-out, or with a cause still there, it is REFUSED_STATE; with another record than the one that made the mode, one
not read or read more than 500 ms ago, or another unlock word than the fingerprint XOR the record, it is REFUSED_LOCK; each with
RESUME_REFUSED. Else it is taken, with RESUMED sent and the record in its address (R315). The model's readings: a VLED rail with
no sample yet counts as below 2.7 V, a cause still there (log 112); a cause whose record is not made yet is REFUSED_LOCK (log 63). -/
def Obligations.FreezeAndResume : Prop :=
  ∀ (d : Desc) (s : State), s.life.released = true → descOk d = true → d.rsvd = 0 → s.clearFor d → s.bst.tests = [] →
    (d.args = [1, 0, 0, 0, 0, 0, 0] → s.rcd.frozenAt = none → s.rcd.hold = [] →
      (∀ e : Nat, s.rcd.lastEnd = some e → e + 100 ≤ s.sft.ms) →
      ∃ t : State, exec (.recorderFreeze d) s = .next t ∧ t.rcd.frozenAt = some s.sft.ms ∧
        completesOnly s { t with rcd := s.rcd } [] 12 d 0 0 0) ∧
    (d.args = [1, 0, 0, 0, 0, 0, 0] → s.rcd.frozenAt ≠ none ∨ s.rcd.hold ≠ [] ∨
        (∃ e : Nat, s.rcd.lastEnd = some e ∧ s.sft.ms < e + 100) →
      ∃ t : State, exec (.recorderFreeze d) s = .next t ∧ completesOnly s t [] 12 d 4 0 0) ∧
    (d.args = [0, 0, 0, 0, 0, 0, 0] → s.rcd.frozenAt = none →
      ∃ t : State, exec (.recorderFreeze d) s = .next t ∧ completesOnly s t [] 12 d 4 0 0) ∧
    (∀ n : Nat, d.args = [0, 0, 0, 0, 0, 0, 0] → s.rcd.frozenAt = some n → s.rcd.hold = [] → s.rcd.holdDrops = 0 →
        s.rcd.buffer = [] →
      ∃ t : State, exec (.recorderFreeze d) s = .next t ∧
        t.rcd = { s.rcd with frozenAt := none, lastEnd := some s.sft.ms } ∧ completesOnly s { t with rcd := s.rcd } [] 12 d 0 0 0) ∧
    (∀ (n : Nat) (r : Rec), d.args = [0, 0, 0, 0, 0, 0, 0] → s.rcd.frozenAt = some n → s.rcd.hold = [r] → s.rcd.holdDrops = 0 →
        s.rcd.buffer = [] → s.rcd.prog = none → s.rcd.dropRun = 0 →
      ∃ t : State, exec (.recorderFreeze d) s = .next t ∧ completes s t 12 d 0 0 0 ∧ t.rcd.frozenAt = none ∧ t.rcd.hold = [] ∧
        t.rcd.buffer = [r] ∧ t.rcd.lastEnd = some s.sft.ms) ∧
    (∀ (record unlock : Nat) (state lock : Prop), d.args = [record, unlock, 0, 0, 0, 0, 0] →
      (state ↔ s.rd SFT_MODE_MODE < 2 ∨ s.rd SFT_INPUTS_LBF ≠ 0 ∨ s.rd SFT_INPUTS_HBP_LATCH ≠ 0 ∨ s.rd SFT_INPUTS_LBF_LATCH ≠ 0 ∨
        s.healthy = false ∨ (∃ v ∈ s.sal.newest, ∀ mv : Nat, v = some mv → mv < 2700) ∨
        (∃ b ∈ s.sft.link.toList ++ s.sft.can.toList, bitOf (byteAt b.bytes 2) 1 = true)) →
      (lock ↔ record ≠ s.rd SFT_LOCK_CAUSE_REC ∨ s.sft.causeMsg ≠ none ∨ (∀ r : Nat, s.sft.readAt = some r → r + 500 < s.sft.ms) ∨
        unlock ≠ Nat.xor (s.rd SFT_FP_FP) record) →
      (∀ st : Nat, state ∧ st = 4 ∨ ¬ state ∧ lock ∧ st = 3 →
        ∃ (t : State) (m : Msg) (more : List Msg), exec (.resume d) s = .next t ∧ t.rd SFT_LOCK_STAT_LAST_REFUSE = st ∧
          t.rd SFT_LOCK_STAT_REFUSALS = min (2 ^ SFT_LOCK_STAT_REFUSALS.width - 1) (s.rd SFT_LOCK_STAT_REFUSALS + 1) ∧
          t.fifo = s.fifo ++ m :: more ∧ m.source = 0x0D3 ∧ m.kind = 0x01 ∧ m.addr = st ∧
          completesOnly s t [SFT_LOCK_STAT_LAST_REFUSE, SFT_LOCK_STAT_REFUSALS] 14 d st 0 0) ∧
      (¬ state → ¬ lock → ∃ (t : State) (m : Msg) (more : List Msg), exec (.resume d) s = .next t ∧ t.sft = { s.sft with resume := true } ∧
        t.fifo = s.fifo ++ m :: more ∧ m.source = 0x0D3 ∧ m.kind = 0x02 ∧ m.addr = record % 2 ^ 24 ∧
        completesOnly s { t with sft := s.sft } [] 14 d 0 0 0))

/-! ### The link and the rings (R226, R233–R246, R259–R282, R298) -/

/-- A packet that fails its check value or is badly framed, and one past a gap, is discarded: the LLC block the device sends
is a NAK of the last packet it took, the first two count as CRC_ERR, and nothing else changes, whatever the packet says (R264,
R277). After a framing error packets are discarded up to the next LLC block the device sends (R273); that one may have gone out by
the time a packet arrives is left free, log 20: then the packet is taken as any other is.

An intact packet whose header carries a reserved TYPE, a message code the downlink has not, or a set bit that is laid
down as zero is malformed, and so are a DOORBELL_HINT, a TICK_MARK and a SAFETY_COPY of another length, and a CPLE with
another ERR: it is counted and MALFORMED is sent, it is acknowledged, and nothing it says is done (R274, R280). Which packets are
malformed beyond those two rules' words is the model's reading, log 158; how a packet carries that it is intact, log 20. -/
def Obligations.BadPacketsDoNothing : Prop :=
  (∀ (w : Wire) (h : Head) (c : Instr) (s : State) (tag addr len off err : Nat) (last : Bool) (words : List Nat), s.life.released = true →
    c ∈ [Instr.linkReadRequest w h tag addr len, .linkWriteRequest w h addr words, .hostReadCompletion w h tag off last words,
      .hostReadError w h tag err, .doorbellHint w h words, .tickMark w h words, .safetyCopy w h words] → c.wf = true →
    (s.link.deaf = true → exec c s = .next { s with freeCtr := s.freeCtr + 1 } ∨
      ∃ sent : List Nat, exec c s =
        exec c { s with freeCtr := s.freeCtr + 1, link := { s.link with deaf := false, llcSent := sent } }) ∧
    (s.link.deaf = false → w ≠ .intact → ∃ t : State, exec c s = .next t ∧ t.link.nak = true ∧
      t.link.deaf = decide (w = .framing) ∧
      byteAt t.link.llcSent 0 = 0x4B ∧ byteAt t.link.llcSent 1 = 1 ∧ numAt t.link.llcSent 2 2 = s.link.rxSeq % 4096 ∧
      t.rd LNK_ERR_CRC_ERR =
        (if w = .gap then s.rd LNK_ERR_CRC_ERR else min (2 ^ LNK_ERR_CRC_ERR.width - 1) (s.rd LNK_ERR_CRC_ERR + 1)) ∧
      onlyFieldsAndMessages { s with link := { s.link with nak := true, deaf := t.link.deaf, llcSent := t.link.llcSent } } t
        (if w = .gap then [] else [LNK_ERR_CRC_ERR, FLT_SAT_ADDR, FLT_SAT_FLAG]))) ∧
  (∀ (h : Head) (c : Instr) (s : State) (tag addr len off err : Nat) (last : Bool) (words : List Nat), s.life.released = true → s.link.deaf = false →
    c.wf = true → s.rd LNK_PROTO_MALFORMED + 1 < 2 ^ LNK_PROTO_MALFORMED.width - 1 →
    (h.type ≠ none ∨ h.stray = true) ∧ c ∈ [Instr.linkReadRequest .intact h tag addr len, .linkWriteRequest .intact h addr words,
        .hostReadCompletion .intact h tag off last words, .hostReadError .intact h tag err, .doorbellHint .intact h words,
        .tickMark .intact h words, .safetyCopy .intact h words] ∨
      h.code ≠ none ∧ c ∈ [Instr.doorbellHint .intact h words, .tickMark .intact h words, .safetyCopy .intact h words] ∨
      words.length ≠ 1 ∧ c = .doorbellHint .intact h words ∨ words.length ≠ 3 ∧ c = .tickMark .intact h words ∨
      (words.length < 3 ∨ 35 < words.length ∨ words.length % 2 = 0) ∧ c = .safetyCopy .intact h words ∨
      (err = 0 ∨ 3 < err) ∧ c = .hostReadError .intact h tag err →
    ∃ (t : State) (m : Msg), exec c s = .next t ∧ t.rd LNK_PROTO_MALFORMED = s.rd LNK_PROTO_MALFORMED + 1 ∧
      m.source = 0x091 ∧ m.kind = 0x01 ∧ t.fifo = s.fifo ++ [m] ∧ t.link.rxSeq = (s.link.rxSeq + 1) % 4096 ∧
      t.link.nak = false ∧
      onlyFieldsAndMessages { s with link := { s.link with
        rxSeq := t.link.rxSeq, nak := false, took := t.link.took, llcSent := t.link.llcSent } } t [LNK_PROTO_MALFORMED])

/-- Requests of the host (R275): a read of one word of the window answers its value under the request's tag, as a register read
answers it, and a write of one word is made, as a register write makes it; a read beyond the window answers CPLE, one of 2 to
1,024 words answers as many zeros in packets of at most 64, a write of either kind does
nothing, and each of those is counted; a packet no rule allows is MALFORMED (R274). What arrives in order is acknowledged, and
its credit returned (R276, R277), in an LLC block that goes out after each packet: that instant is the model's choice, log 157.

The host's answer to a TICK_MARK (R104, R105): for a boundary that is not among the last 16 it is ignored; else H_k and the
error are taken from it. UNLOCKED it seeds the model; an error within the limit moves the model by the formulas of R105, and
one beyond it is rejected. The states change as the table of R105 says: the sixteenth answer accepted in ACQUIRE, and any in
FREEWHEEL, makes LOCKED; the eighth rejected in a row UNLOCKED. A REJECT_US of 0 counts as 1: the
model's choice, log 132. -/
def Obligations.HostRequestsReachTheRegisters : Prop :=
  (∀ (tag addr len v : Nat) (words : List Nat) (s : State), s.life.released = true → s.link.deaf = false → tag < 256 → addr < 2 ^ 64 → addr % 4 = 0 → v < 2 ^ 32 →
    words.length ≤ 64 → words.all (fun w => decide (w < 2 ^ 32)) = true →
    (∃ t : State, exec (.linkReadRequest .intact {} tag 0x10004 1) s = .next t ∧ t.data = s.rd TCK_PERIOD_PERIOD_US % 2 ^ 32 ∧
      t.link.upQueue = s.link.upQueue ++ [.cpl tag 0 true [s.rd TCK_PERIOD_PERIOD_US % 2 ^ 32]] ∧ t.regs = s.regs ∧
      t.link.rxSeq = (s.link.rxSeq + 1) % 4096 ∧ t.link.nak = false ∧ byteAt t.link.llcSent 1 = 0 ∧
      numAt t.link.llcSent 2 2 = t.link.rxSeq ∧ byteAt t.link.llcSent 7 = (s.link.took.getD 2 0 + 17) % 256) ∧
    (∀ off < 2 ^ 24, off % 4 = 0 →
      (∃ q t : State, exec (.readClear .host off) s = .next q ∧ exec (.linkReadRequest .intact {} tag off 1) s = .next t ∧
        t.data = q.data ∧ t.regs = q.regs ∧ t.link.upQueue = q.link.upQueue ++ [.cpl tag 0 true [q.data]]) ∧
      (off < 0x20000 ∨ 0x40000 ≤ off → ∃ q t : State, exec (.registerWrite .host off v) s = .next q ∧
        exec (.linkWriteRequest .intact {} off [v]) s = .next t ∧ { t with link := q.link } = q ∧
        t.link.upQueue = q.link.upQueue) ∧
      (∀ u q : State, u = { s with link := { s.link with
            rxSeq := (s.link.rxSeq + 1) % 4096, nak := false
            took := [(s.link.took.getD 0 0 + 1) % 256, (s.link.took.getD 1 0 + 1) % 4096, s.link.took.getD 2 0 % 256] } } →
          exec (.registerWrite .host off v) u = .next q →
        ∃ t : State, exec (.linkWriteRequest .intact {} off [v]) s = .next t ∧ byteAt t.link.llcSent 1 = 0 ∧
          t = { q with link := { q.link with deaf := false, llcSent := t.link.llcSent } })) ∧
    (∃ t : State, exec (.linkWriteRequest .intact {} 0x10004 [v]) s = .next t ∧ t.rd TCK_PERIOD_PERIOD_US = v % 2 ^ 13 ∧
      keepsBut s t [TCK_PERIOD_PERIOD_US] ∧ t.link.upQueue = s.link.upQueue ∧ t.link.nak = false ∧
      byteAt t.link.llcSent 4 = (s.link.took.getD 0 0 + 33) % 256) ∧
    (0x1000000 ≤ addr → 1 ≤ len → addr % 4096 + 4 * len ≤ 4096 →
      ∃ t : State, exec (.linkReadRequest .intact {} tag addr len) s = .next t ∧
        t.link.upQueue = s.link.upQueue ++ [.cple tag 1] ∧
        t.rd LNK_PROTO_REFUSED = min 65535 (s.rd LNK_PROTO_REFUSED + 1) ∧
        keepsBut s t [LNK_PROTO_REFUSED, FLT_SAT_ADDR, FLT_SAT_FLAG]) ∧
    (addr < 0x1000000 → 2 ≤ len → addr % 4096 + 4 * len ≤ 4096 →
      ∃ (t : State) (ps : List UpPacket), exec (.linkReadRequest .intact {} tag addr len) s = .next t ∧
        t.link.upQueue = s.link.upQueue ++ ps ∧ ps.length = (len + 63) / 64 ∧
        (∀ k < ps.length, ps[k]? = some (.cpl tag (64 * k) (decide (k + 1 = ps.length)) (List.replicate (min 64 (len - 64 * k)) 0))) ∧
        t.rd LNK_PROTO_REFUSED = min 65535 (s.rd LNK_PROTO_REFUSED + 1) ∧
        keepsBut s t [LNK_PROTO_REFUSED, FLT_SAT_ADDR, FLT_SAT_FLAG]) ∧
    (0x1000000 ≤ addr ∨ 2 ≤ words.length → words ≠ [] →
      ∃ t : State, exec (.linkWriteRequest .intact {} addr words) s = .next t ∧
        t.rd LNK_PROTO_REFUSED = min 65535 (s.rd LNK_PROTO_REFUSED + 1) ∧
        keepsBut s t [LNK_PROTO_REFUSED, FLT_SAT_ADDR, FLT_SAT_FLAG] ∧ t.link.upQueue = s.link.upQueue) ∧
    (∃ t : State, exec (.linkWriteRequest .intact {} addr []) s = .next t ∧ keepsBut s t [LNK_PROTO_MALFORMED, FLT_SAT_ADDR,
      FLT_SAT_FLAG] ∧ t.rd LNK_PROTO_MALFORMED = min (2 ^ LNK_PROTO_MALFORMED.width - 1) (s.rd LNK_PROTO_MALFORMED + 1))) ∧
  (∀ (ws : List Nat) (s : State), s.life.released = true → s.link.deaf = false → ws.length = 3 →
    ws.all (fun w => decide (w < 2 ^ 32)) = true →
    (s.boundaryTime (ws.getD 0 0) = none → ∃ t : State, exec (.tickMark .intact {} ws) s = .next t ∧ t.gko = s.gko ∧
      keepsBut s t []) ∧
    (∀ (cyc : Nat) (hk tk pred err lim : Rat), s.boundaryTime (ws.getD 0 0) = some cyc →
      hk = (ws.getD 1 0 + 2 ^ 32 * ws.getD 2 0 : Nat) - (s.rd GKO_TB_DLY_UP_NS : Nat) → tk = nsOf cyc →
      pred = s.gko.tb.href + (tk - s.gko.tb.tref) * (1 + s.gko.tb.rate) → err = hk - pred →
      lim = (1000 * max 1 (s.rd GKO_TB_CFG_REJECT_US) : Nat) →
      ∃ t : State, exec (.tickMark .intact {} ws) s = .next t ∧
        { t.gko with tb := s.gko.tb } = s.gko ∧ t.fifo.length ≤ s.fifo.length + 1 ∧
        keepsBut s t [GKO_TB_STAT_STATE, GKO_TB_STAT_ACCEPTED, GKO_TB_ERR_LAST_NS, GKO_TB_ERR_REJECTS, GKO_TB_RATE_RATE_PPB,
          FLT_SAT_ADDR, FLT_SAT_FLAG] ∧
        (s.rd GKO_TB_STAT_STATE = 0 → t.gko.tb.href = hk ∧ t.gko.tb.tref = tk ∧ t.gko.tb.rate = 0 ∧ t.gko.tb.tprev = tk ∧
          t.rd GKO_TB_STAT_STATE = 1) ∧
        (s.rd GKO_TB_STAT_STATE ≠ 0 → err ≤ lim → -lim ≤ err →
          t.gko.tb.href = pred + err / 8 ∧ t.gko.tb.tref = tk ∧ t.gko.tb.tprev = tk ∧
          t.gko.tb.rate = s.gko.tb.rate + err / (256 * (tk - s.gko.tb.tprev)) ∧ t.gko.tb.rejRun = 0 ∧ t.gko.tb.quiet = 0 ∧
          t.rd GKO_TB_STAT_ACCEPTED = min 255 (s.rd GKO_TB_STAT_ACCEPTED + 1) ∧
          t.rd GKO_TB_STAT_STATE = (if s.rd GKO_TB_STAT_STATE = 3 ∨ s.rd GKO_TB_STAT_STATE = 1 ∧ 15 ≤ s.gko.tb.inAcquire then 2
            else s.rd GKO_TB_STAT_STATE)) ∧
        (s.rd GKO_TB_STAT_STATE ≠ 0 → lim < err ∨ err < -lim →
          t.rd GKO_TB_ERR_REJECTS = min 65535 (s.rd GKO_TB_ERR_REJECTS + 1) ∧
          (s.rd GKO_TB_STAT_STATE = 3 ∨ s.gko.tb.rejRun < 7 → t.rd GKO_TB_STAT_STATE = s.rd GKO_TB_STAT_STATE ∧
            t.gko.tb = { s.gko.tb with rejRun := s.gko.tb.rejRun + 1 }) ∧
          (s.rd GKO_TB_STAT_STATE = 1 ∨ s.rd GKO_TB_STAT_STATE = 2 → 7 ≤ s.gko.tb.rejRun → t.rd GKO_TB_STAT_STATE = 0 ∧
            t.gko.tb = {}))))

/-- The training states (R264, R266–R270): signal starts an attempt, POLL ends with a TS1 on a locked lane, an attempt without
L0 backs off, a timed-out RATE capping the next rates, the next attempt follows the backoff at 2.5 Gb/s from the PHY defaults, after the eighth the link is DOWN, and from there it starts again; lanes
show their signal and their lock, with LOS and LOL sent when they go; a signal below 65 mV is none, and one above 175 mV is
no loss (R433). Entering CONFIG the device grants 32 posted and 16 non-posted headers, 256 data credits and completions without
limit (R276). The model's choices: that it does so then (log 157); what an attempt restarts from, and that signal takes DETECT to POLL (log 87), the PHY
defaults where the factory record failed (log 142).

A link lost for the time of R270 is reported once: LINK_DOWN with the state it was found in; every ring halts, the event
ring among them, and the event entries that were not delivered are counted as lost (R245, R246, R250, R270). The model's
choices: the packets that wait, and those not acknowledged, are discarded (log 88), and the entries among them are the lost
ones (log 155). -/
def Obligations.TrainingAndLoss : Prop :=
  (∀ (l us deskew mv : Nat) (inverted : Bool) (s : State), s.life.released = true → mv < 2 ^ 16 → l < 4 → us < 2 ^ 32 → deskew < 2 ^ 16 →
    (s.rd LNK_STAT_STATE = 0 → s.rd LNK_CTL_EN ≠ 0 → 175 ≤ mv → ∃ t : State, exec (.laneSignalDetect l mv) s = .next t ∧
      t.rd LNK_STAT_STATE = 1 ∧ t.rd (LNK_DL_LOS l) = 0 ∧
      t.rd LNK_STAT_ATTEMPT = (if s.rd LNK_STAT_ATTEMPT = 0 then 1 else s.rd LNK_STAT_ATTEMPT) ∧
      keepsBut s t [LNK_STAT_STATE, LNK_DL_LOS l, LNK_STAT_ATTEMPT]) ∧
    (s.rd LNK_STAT_STATE = 1 → s.link.ts1.contains l = true → s.rd (LNK_DL_LOCK l) ≠ 0 →
      ∃ t : State, exec (.trainingPhaseDone us []) s = .next t ∧ t.rd LNK_STAT_STATE = 2 ∧ keepsBut s t [LNK_STAT_STATE]) ∧
    (∀ r k : Nat, s.rd LNK_STAT_STATE = 2 → s.chosenRate = some r → k < 4 → s.rd (LNK_DL_LOCK k) ≠ 0 →
      ∃ t : State, exec (.trainingPhaseDone us []) s = .next t ∧ t.rd LNK_STAT_STATE = 3 ∧ t.rd LNK_STAT_RATE = r % 4 ∧
        byteAt t.link.llcSent 0 = 0x4B ∧ byteAt t.link.llcSent 4 = (32 + s.link.took.getD 0 0) % 256 ∧
        numAt t.link.llcSent 5 2 = (256 + s.link.took.getD 1 0) % 4096 ∧
        byteAt t.link.llcSent 7 = (16 + s.link.took.getD 2 0) % 256 ∧ byteAt t.link.llcSent 11 = 4 ∧
        keepsBut s t [LNK_STAT_STATE, LNK_STAT_RATE]) ∧
    (s.rd LNK_STAT_STATE ≤ 3 → s.rd LNK_CTL_EN ≠ 0 → ∃ t : State, exec .trainingAttemptTimeout s = .next t ∧
      t.rd LNK_STAT_STATE = 7 ∧ t.rd LNK_STAT_RATE = 0 ∧ t.rd LNK_STAT_DL_ACTIVE = 0 ∧ t.rd LNK_STAT_UL_ACTIVE = 0 ∧
      t.rd LNK_STAT_RATE_CAPPED = (if s.rd LNK_STAT_STATE = 2 then 1 else s.rd LNK_STAT_RATE_CAPPED) ∧
      keepsBut s t [LNK_STAT_STATE, LNK_STAT_RATE, LNK_STAT_DL_ACTIVE, LNK_STAT_UL_ACTIVE, LNK_STAT_RATE_CAPPED]) ∧
    (s.rd LNK_STAT_STATE = 7 → s.rd LNK_CTL_EN ≠ 0 → s.rd LNK_STAT_ATTEMPT < 8 → ∃ t : State, exec .backoffElapsed s = .next t ∧
      t.rd LNK_STAT_ATTEMPT = s.rd LNK_STAT_ATTEMPT + 1 ∧ t.rd LNK_STAT_STATE ≤ 1 ∧ t.rd LNK_STAT_RATE = 0 ∧
      (∀ k < 4, t.rd (LNK_DL_CTLE k) = s.phyDefault k 2 % 2 ^ (LNK_DL_CTLE k).width ∧
        t.rd (LNK_DFE_TAP k) = s.phyDefault k 3 % 2 ^ (LNK_DFE_TAP k).width) ∧
      keepsBut s t ([LNK_STAT_STATE, LNK_STAT_ATTEMPT, LNK_STAT_RATE, LNK_STAT_DL_ACTIVE, LNK_STAT_UL_ACTIVE] ++
        (List.range 4).flatMap (fun k => [LNK_DL_CTLE k, LNK_DFE_TAP k]))) ∧
    (s.rd LNK_STAT_STATE = 7 → s.rd LNK_CTL_EN ≠ 0 → 8 ≤ s.rd LNK_STAT_ATTEMPT → s.rd LNK_STAT_DOWN ≠ 0 →
      ∃ t : State, exec .backoffElapsed s = .next t ∧ t.rd LNK_STAT_STATE = 8 ∧ onlyFields s t [LNK_STAT_STATE]) ∧
    (s.rd LNK_STAT_STATE = 8 → s.rd LNK_CTL_EN ≠ 0 → ∃ t : State, exec .linkDownRetry s = .next t ∧ t.rd LNK_STAT_ATTEMPT = 1 ∧
      t.rd LNK_STAT_STATE ≤ 1) ∧
    (s.rd LNK_STAT_STATE = 5 → ∃ t : State, exec .recoveryTimeout s = .next t ∧ t.rd LNK_STAT_ATTEMPT = 1 ∧
      t.rd LNK_STAT_STATE ≤ 1) ∧
    (∃ t : State, exec (.blockLockAcquired l inverted deskew) s = .next t ∧ t.rd (LNK_DL_LOCK l) = 1 ∧
      t.rd (LNK_DL_INVERTED l) = (if inverted = true then 1 else 0) ∧ t.rd (LNK_DL_DESKEW_UI l) = min 127 deskew ∧
      t.link.hostLoss = false ∧ keepsBut s t [LNK_DL_LOCK l, LNK_DL_INVERTED l, LNK_DL_DESKEW_UI l]) ∧
    (s.rd (LNK_DL_LOCK l) ≠ 0 → s.rd LNK_STAT_STATE ≤ 3 → s.rd LNK_LANECNT_LOL < 200 →
      ∃ t : State, exec (.blockLockLost l) s = .next t ∧ t.rd (LNK_DL_LOCK l) = 0 ∧ sends s t (0x080 + l) 0x02 0 ∧
        t.rd LNK_LANECNT_LOL = s.rd LNK_LANECNT_LOL + 1 ∧ keepsBut s t [LNK_DL_LOCK l, LNK_LANECNT_LOL]) ∧
    (s.rd LNK_STAT_STATE = 7 → s.rd LNK_STAT_DL_L1 = 0 → s.rd (LNK_DL_LOS l) = 0 → s.rd LNK_LANECNT_LOS < 200 → mv ≤ 65 →
      ∃ t : State, exec (.laneLossOfSignal l mv) s = .next t ∧ t.rd (LNK_DL_LOS l) = 1 ∧ t.rd (LNK_DL_LOCK l) = 0 ∧
        sends s t (0x080 + l) 0x01 0 ∧ t.rd LNK_LANECNT_LOS = s.rd LNK_LANECNT_LOS + 1 ∧
        keepsBut s t [LNK_DL_LOS l, LNK_DL_LOCK l, LNK_LANECNT_LOS]) ∧
    (mv < 65 → exec (.laneSignalDetect l mv) s = .next s) ∧ (175 < mv → exec (.laneLossOfSignal l mv) s = .next s)) ∧
  (∀ s : State, s.life.released = true → s.link.hostLoss = true → s.link.everL0 = true → s.rd LNK_STAT_DOWN = 0 → s.ring.flights = [] →
    s.link.tags = [] → s.bst.tests = [] → s.rd SFT_SESS_STAT_ACTIVE = 0 → (∀ r < 8, (s.ringAt r).queue = []) →
    ∃ t : State, exec .hostLossTimeout s = .next t ∧ t.rd LNK_STAT_DOWN = 1 ∧
      (s.eventWrites (s.link.upQueue ++ s.link.unacked.map (fun u => u.2)) = 0 →
        sends s t 0x090 0x01 (s.rd LNK_STAT_STATE)) ∧
      t.rd RNG_EVT_LOST_LOST = min (2 ^ RNG_EVT_LOST_LOST.width - 1)
        (s.rd RNG_EVT_LOST_LOST + s.eventWrites (s.link.upQueue ++ s.link.unacked.map (fun u => u.2))) ∧
      (s.rd RNG_EVT_CFG_EN ≠ 0 → t.ring.evtHalted = true) ∧
      (∀ r < 8, t.rd (RNG_CMD_STAT_HALTED r) = 1 ∧ t.rd (RNG_CMD_STAT_HALT_WHY r) = 3) ∧ t.link.upQueue = [] ∧
      t.link.unacked = [] ∧ exec .hostLossTimeout t = .next t)

/-- Control blocks (R264, R276, R277, R282): two TS1 alike are noted with their lane and rates, and two blocks that differ are
not; a block that is none of the three is counted as malformed; of an LLC, PM or ECHO block the first copy whose check value
holds is used, and where none does it is discarded; one of another type is malformed. An LLC block brings the grants, and
leaves the discarding after a framing error as it is: that ends with the device's own next LLC block (R273, log 20). The return of the echo sent in CONFIG is measured, another is not. The model's
choices: copies, and which of them is used (log 156); a return whose ID is not out does nothing (log 157). -/
def Obligations.ControlBlocksAreChecked : Prop :=
  ∀ (l rtt : Nat) (bs other : List Nat) (copies : List (List Nat)) (s : State), s.life.released = true → (Instr.trainingBlock l bs other).wf = true →
    copiesOk copies = true → rtt < 2 ^ 32 →
    (byteAt bs 0 = 0x1E → fillOk bs 5 0x4A = true → ∃ t : State, exec (.trainingBlock l bs bs) s = .next t ∧
      t.link.ts1.contains l = true ∧ t.link.rates = byteAt bs 2 % 16 ∧ t.regs = s.regs) ∧
    (trainingOk bs = true → trainingOk other = true → bs ≠ other → exec (.trainingBlock l bs other) s = .next s) ∧
    (byteAt bs 0 ∉ [0x1E, 0x2D, 0x33] → ∃ t : State, exec (.trainingBlock l bs bs) s = .next t ∧
      t.rd LNK_PROTO_MALFORMED = min (2 ^ LNK_PROTO_MALFORMED.width - 1) (s.rd LNK_PROTO_MALFORMED + 2) ∧
      onlyFieldsAndMessages s t [LNK_PROTO_MALFORMED, FLT_SAT_ADDR, FLT_SAT_FLAG]) ∧
    (goodCopy copies = none → ∀ c ∈ [Instr.llcBlock copies, .pmL1Entry copies, .pmL2Request copies, .echoReturn copies rtt],
      exec c s = .next s) ∧
    (∀ g : List Nat, goodCopy copies = some g →
      (∀ c ∈ [(Instr.llcBlock copies, 0x4B), (.pmL1Entry copies, 0x55), (.pmL2Request copies, 0x55),
          (.echoReturn copies rtt, 0x66)], byteAt g 0 ≠ c.2 → ∃ t : State, exec c.1 s = .next t ∧
        t.rd LNK_PROTO_MALFORMED = min (2 ^ LNK_PROTO_MALFORMED.width - 1) (s.rd LNK_PROTO_MALFORMED + 1) ∧
        onlyFieldsAndMessages s t [LNK_PROTO_MALFORMED, FLT_SAT_ADDR, FLT_SAT_FLAG]) ∧
      (byteAt g 0 = 0x4B → s.rd LNK_STAT_STATE ≠ 4 → byteAt g 11 = 0 →
        ∃ t : State, exec (.llcBlock copies) s = .next t ∧ t.rd LNK_CREDIT_P_HDR = byteAt g 4 % 256 ∧
          t.rd LNK_CREDIT_NP_HDR = byteAt g 7 % 256 ∧ t.link.inf = [false, false, false] ∧ t.link.deaf = s.link.deaf ∧
          t.link.granted = [byteAt g 4, numAt g 5 2 % 4096, byteAt g 7, byteAt g 8, numAt g 9 2 % 4096] ∧
          keepsBut s t [LNK_CREDIT_P_HDR, LNK_CREDIT_NP_HDR, LNK_CREDIT_P_DATA]) ∧
      (byteAt g 0 = 0x66 → s.rd LNK_STAT_STATE = 3 → byteAt g 1 = 1 → s.link.echoId = some (numAt g 2 4) →
        ∃ t : State, exec (.echoReturn copies rtt) s = .next t ∧ t.link.echoed = true ∧ t.link.echoId = none ∧
          t.rd LNK_ECHO_RTT_NS = min 65535 rtt ∧ t.rd LNK_ECHO_TURN_NS = min 65535 (numAt g 6 4) ∧
          keepsBut s t [LNK_ECHO_RTT_NS, LNK_ECHO_TURN_NS, GKO_TB_DLY_UP_NS]) ∧
      (byteAt g 0 = 0x66 → s.link.echoId ≠ some (numAt g 2 4) → exec (.echoReturn copies rtt) s = .next s))

/-- Power states, retraining and replay in L0 (R267, R268, R271, R272, R277, R448): the downlink idles and leaves L1; the
uplink idles when nothing waits; L2 is refused with the answer 4 while the ring engine runs, else entered; RETRAIN enters
RECOVERY and lifts the rate cap; what is not acknowledged is replayed, and the fifth time the link goes into RECOVERY: that
it is the fifth time-out is the model's reading, log 85.

Offsets of a lane measured in L1 (R224, R226, R228): a lane in L1 with its bit set starts once; a measurement that stayed in
L1 is taken, held to the trim range; where the downlink leaves L1 it is abandoned, counted then, and brings nothing later.
That ENDSTOP shows a tap at its end too, and that an abandoned measurement counts at once, are the model's choices, log
150. -/
def Obligations.PowerStatesReplayAndRecalibration : Prop :=
  (∀ (p1 p2 : List (List Nat)) (g1 g2 : List Nat) (s : State), s.life.released = true → s.rd LNK_STAT_STATE = 4 → copiesOk p1 = true → copiesOk p2 = true →
    goodCopy p1 = some g1 → byteAt g1 0 = 0x55 → byteAt g1 1 = 1 → goodCopy p2 = some g2 → byteAt g2 0 = 0x55 → byteAt g2 1 = 2 →
    (∃ t : State, exec (.pmL1Entry p1) s = .next t ∧ t.rd LNK_STAT_DL_L1 = 1 ∧ onlyFields s t [LNK_STAT_DL_L1]) ∧
    (s.link.recal = [] → ∃ t : State, exec .downlinkL1Exit s = .next t ∧ t.rd LNK_STAT_DL_L1 = 0 ∧
      onlyFields s t [LNK_STAT_DL_L1]) ∧
    (s.link.upQueue = [] → s.rd LNK_PM_L1_IDLE_US ≠ 0 → ∃ t : State, exec .uplinkL1Idle s = .next t ∧
      t.rd LNK_STAT_UL_L1 = 1 ∧ t.link.pmSent = 1 ∧ keepsBut s t [LNK_STAT_UL_L1]) ∧
    (∃ t : State, exec .uplinkL1Exit s = .next t ∧ t.rd LNK_STAT_UL_L1 = 0 ∧ keepsBut s t [LNK_STAT_UL_L1]) ∧
    (s.rd RNG_CTL_EN ≠ 0 ∨ s.rd LNK_CTL_L2_ALLOW = 0 →
      exec (.pmL2Request p2) s = .next { s with link := { s.link with pmSent := 4 } }) ∧
    (s.rd RNG_CTL_EN = 0 → s.rd LNK_CTL_L2_ALLOW ≠ 0 → s.link.recal = [] → ∃ t : State, exec (.pmL2Request p2) s = .next t ∧
      t.rd LNK_STAT_STATE = 6 ∧ t.link.pmSent = 3 ∧ t.rd LNK_STAT_UL_L1 = 0 ∧ t.rd LNK_STAT_DL_L1 = 0 ∧
      (∀ l < 4, t.rd (LNK_DL_LOCK l) = 0) ∧ t.rd LNK_STAT_DL_ACTIVE = 0 ∧ t.rd LNK_STAT_UL_ACTIVE = 0 ∧
      keepsBut s t ([LNK_STAT_STATE, LNK_STAT_UL_L1, LNK_STAT_DL_L1, LNK_STAT_DL_ACTIVE, LNK_STAT_UL_ACTIVE] ++
        (List.range 4).map LNK_DL_LOCK) ∧
      (∃ u : State, exec .l2Exit t = .next u ∧ u.link.l2Exit = true ∧ u.regs = t.regs ∧
        ∃ v : State, exec .l2ExitTimeout u = .next v ∧ v.rd LNK_STAT_ATTEMPT = 1 ∧ v.rd LNK_STAT_STATE ≤ 1)) ∧
    (s.rd LNK_CNT_RECOVERIES < 200 → s.link.recal = [] → ∃ t : State, exec .lnkRetrain s = .next t ∧ t.rd LNK_STAT_STATE = 5 ∧
      sends s t 0x090 0x04 3 ∧ t.rd LNK_STAT_RATE_CAPPED = 0 ∧ t.link.cap = none ∧
      t.rd LNK_CNT_RECOVERIES = s.rd LNK_CNT_RECOVERIES + 1) ∧
    (s.link.unacked ≠ [] → s.link.replays < 4 → ∃ t : State, exec .replayTimeout s = .next t ∧
      t.link.replays = s.link.replays + 1 ∧ t.link.unacked = s.link.unacked ∧
      t.rd LNK_ERR_REPLAYS = min (2 ^ LNK_ERR_REPLAYS.width - 1) (s.rd LNK_ERR_REPLAYS + 1) ∧
      keepsBut s t [LNK_ERR_REPLAYS, FLT_SAT_ADDR, FLT_SAT_FLAG]) ∧
    (s.link.unacked ≠ [] → 4 ≤ s.link.replays → ∃ t : State, exec .replayTimeout s = .next t ∧ t.rd LNK_STAT_STATE = 5 ∧
      t.link.replays = 0 ∧ t.link.unacked = s.link.unacked)) ∧
  (∀ (l : Nat) (data err : Int) (s : State), s.life.released = true → (Instr.l1RecalDone l data err).wf = true →
    (s.rd LNK_STAT_DL_L1 ≠ 0 → s.rd CAL_CTL_L1_RECAL / 2 ^ l % 2 = 1 → s.link.recal = [] →
      exec (.l1RecalStart l) s = .next { s with link := { s.link with recal := [l] } } ∧
      exec (.l1RecalStart l) { s with link := { s.link with recal := [l] } } =
        .next { s with link := { s.link with recal := [l] } }) ∧
    (s.link.recal = [l] → ∃ t : State, exec (.l1RecalDone l data err) s = .next t ∧ t.link.recal = [] ∧
      t.rdI (CAL_LANE_OFS_OFS_DATA l) = max (-32) (min 31 data) ∧ t.rdI (CAL_LANE_OFS_OFS_ERR l) = max (-32) (min 31 err) ∧
      t.rd (CAL_LANE_OFS_ENDSTOP l) = (if ((data < -32 ∨ 31 < data) ∨ err < -32 ∨ 31 < err) ∨ s.tapEnd l then 1 else 0) ∧
      t.rd (CAL_LANE_OFS_RECALS l) = min (2 ^ (CAL_LANE_OFS_RECALS l).width - 1) (s.rd (CAL_LANE_OFS_RECALS l) + 1)) ∧
    (s.link.recal = [l] → ∃ t : State, exec .downlinkL1Exit s = .next t ∧ t.link.recal = [] ∧
      keepsBut s t [CAL_LANE_OFS_ABANDONED l, LNK_STAT_DL_L1, FLT_SAT_ADDR, FLT_SAT_FLAG] ∧
      t.rd (CAL_LANE_OFS_ABANDONED l) =
        min (2 ^ (CAL_LANE_OFS_ABANDONED l).width - 1) (s.rd (CAL_LANE_OFS_ABANDONED l) + 1)) ∧
    (s.link.recal = [] → exec (.l1RecalDone l data err) s = .next s))

/-- Host reads (R237, R244, R278): a completion that is not the last is kept; the last one of a poll ends the poll and frees
its tag; an error ends it with a failure counted; one that never ends is given up with its tag quarantined; a completion for a
quarantined tag is late, and nothing else.

A command-ring fetch that ends by an error, or is given up, halts its ring with HALT_WHY read failure and sends RING_READ; an
argument read that does so completes its descriptor TIMEOUT (R244, R278). -/
def Obligations.HostReadsEnd : Prop :=
  (∀ (u : TagUse) (ws : List Nat) (err : Nat) (s : State), s.life.released = true → u.tag < 256 → 1 ≤ err → err ≤ 3 → s.link.deaf = false → s.link.tags = [u] → u.req = .poll → u.words = 17 → u.got = [] →
    s.ring.pollAgain = false → s.rd RNG_CTL_EN = 0 → s.rd RNG_EVT_CFG_EN = 0 → s.ring.batch = 0 →
    (∀ r < 8, s.rd (RNG_CMD_CFG_EN r) = 0 ∧ (s.ringAt r).queue = []) → ws.length = 17 →
    ws.all (fun w => decide (w < 2 ^ 32)) = true →
    (∃ t : State, exec (.hostReadCompletion .intact {} u.tag 0 false ws) s = .next t ∧
      t.link.tags.map (fun x => x.got.map (fun c => c.2)) = [ws.map (· + 1)] ∧ t.regs = s.regs) ∧
    (∃ t : State, exec (.hostReadCompletion .intact {} u.tag 0 true ws) s = .next t ∧ t.link.tags = [] ∧
      t.ring.polling = false ∧ t.link.quarantine = s.link.quarantine) ∧
    (∃ t : State, exec (.hostReadError .intact {} u.tag err) s = .next t ∧ t.link.tags = [] ∧ t.ring.polling = false ∧
      t.rd RNG_CNT_POLL_FAIL = min (2 ^ RNG_CNT_POLL_FAIL.width - 1) (s.rd RNG_CNT_POLL_FAIL + 1) ∧
      keepsBut s t [RNG_CNT_POLL_FAIL, FLT_SAT_ADDR, FLT_SAT_FLAG]) ∧
    (∃ t : State, exec (.hostReadTimeout u.tag) s = .next t ∧ t.link.tags = [] ∧
      t.link.quarantine = s.link.quarantine ++ [u.tag] ∧ t.ring.polling = false ∧
      (∃ v : State, exec (.hostReadError .intact {} u.tag err) t = .next v ∧
        v.rd LNK_TAGS_LATE = min (2 ^ LNK_TAGS_LATE.width - 1) (t.rd LNK_TAGS_LATE + 1) ∧
        keepsBut t v [LNK_TAGS_LATE, FLT_SAT_ADDR, FLT_SAT_FLAG]) ∧
      (∃ v : State, exec (.tagQuarantineEnd u.tag) t = .next v ∧ v.link.quarantine.contains u.tag = false ∧ v.regs = t.regs))) ∧
  (∀ (u : TagUse) (err r first count : Nat) (f : Flight) (c : Instr) (q : List Nat) (s : State), s.life.released = true →
    u.tag < 256 → 1 ≤ err → err ≤ 3 → s.link.deaf = false → s.link.tags = [u] → s.ring.tagWait = false →
    (∀ n < 8, (s.fetch n).todo = []) →
    (c, q) ∈ [(Instr.hostReadError .intact {} u.tag err, []), (.hostReadTimeout u.tag, [u.tag])] →
    (u.req = .desc r first count → r < 8 → s.ring.rings.length = 8 → s.ring.flights = [] →
      ∃ t : State, exec c s = .next t ∧ t.rd (RNG_CMD_STAT_HALTED r) = 1 ∧ t.rd (RNG_CMD_STAT_HALT_WHY r) = 2 ∧
        t.rd (RNG_CMD_STAT_DRAINING r) = 0 ∧ (t.ringAt r).fetching = false ∧
        sends s t 0x09E 0x02 (r + 16 * (first % s.cmdSize r)) ∧ t.link.tags = [] ∧
        t.link.quarantine = s.link.quarantine ++ q ∧
        keepsBut s t [RNG_CMD_STAT_HALTED r, RNG_CMD_STAT_HALT_WHY r, RNG_CMD_STAT_DRAINING r]) ∧
    (u.req = .arg f.id → f.waiting = 1 → s.ring.flights = [f] →
      (s.setFlight { f with waiting := 0 }).oneAtWork { f with waiting := 0 } f.opcode →
      ∃ t : State, exec c s = .next t ∧ completes s t f.opcode f.desc 7 0 0 ∧ t.link.tags = [] ∧
        t.link.quarantine = s.link.quarantine ++ q ∧ t.cal.write = if f.opcode = 9 then none else s.cal.write))

/-- Rings start and stop (R245, R250): EN = 1 sets CFG_ERR and nothing else while the ring is
DRAINING; otherwise the ring starts empty and not halted, one that is enabled already too; an enabled ring with nothing in
flight and no fetch under way stops at once, and one with a fetch under way drains; a ring that is off is disabled without
effect; the event ring starts empty and stops; a write of the BASE of a ring that is enabled or DRAINING is discarded with
CFG_ERR. That a halted ring gives up a fetch under way when it starts anew, and that a disabled ring drains one, are the
model's choices, log 154.

The rings at work (R237, R241, R243, R248): a hint is counted, and where hints are enabled its mask shown, else nothing; a ring that stays full sends CPL_STALL once in
each run; a completion that waited is written when there is room, with the tick count of the time it is written where it belongs to no
boundary (R248: the model's reading, log 155); a held-back descriptor goes ahead when nothing holds it. -/
def Obligations.RingsFollowTheirRules : Prop :=
  (∀ (r : Nat) (s : State), s.life.released = true → r < 8 → s.ring.rings.length = 8 →
    (s.rd (RNG_CMD_CFG_EN r) = 0 → exec (.ringDisable r) s = .next s) ∧
    (s.rd (RNG_CMD_STAT_DRAINING r) ≠ 0 →
      ∃ t : State, exec (.ringEnable r) s = .next t ∧ t.rd RNG_STAT_CFG_ERR = 1 ∧
      onlyFields s t [RNG_STAT_CFG_ERR]) ∧
    (s.rd (RNG_CMD_CFG_EN r) ≠ 0 ∨ s.rd (RNG_CMD_STAT_DRAINING r) ≠ 0 → ∀ v < 2 ^ 32,
      ∃ t : State, exec (.registerWrite .host (0x20100 + 0x20 * r) v) s = .next t ∧ t.rd RNG_STAT_CFG_ERR = 1 ∧
      onlyFields s t [RNG_STAT_CFG_ERR]) ∧
    (s.rd (RNG_CMD_STAT_DRAINING r) = 0 →
      ∃ t : State, exec (.ringEnable r) s = .next t ∧ t.rd (RNG_CMD_CFG_EN r) = 1 ∧
      t.rd (RNG_CMD_CONS_INDEX r) = 0 ∧ t.rd (RNG_CMD_STAT_HALTED r) = 0 ∧ (t.ringAt r).cplProd = 0 ∧
      (t.ringAt r).prod = 0 ∧ (t.ringAt r).cplCons = 0 ∧ (∀ k : Nat, k ≠ r → t.ringAt k = s.ringAt k) ∧
      keepsBut s t [RNG_CMD_CFG_EN r, RNG_CMD_CONS_INDEX r, RNG_CMD_STAT_HALTED r, RNG_CMD_STAT_HALT_WHY r]) ∧
    (s.rd (RNG_CMD_CFG_EN r) ≠ 0 → s.ring.flights = [] → s.ring.batch = 0 →
      ∃ t : State, exec (.ringDisable r) s = .next t ∧ t.rd (RNG_CMD_CFG_EN r) = 0 ∧
        t.rd (RNG_CMD_STAT_DRAINING r) = (if (s.ringAt r).fetching = true then 1 else s.rd (RNG_CMD_STAT_DRAINING r)) ∧
        onlyFields s t [RNG_CMD_CFG_EN r, RNG_CMD_STAT_DRAINING r]) ∧
    (s.rd RNG_EVT_CFG_EN = 0 → exec .eventRingDisable s = .next s) ∧
    (∃ t : State, exec .eventRingEnable s = .next t ∧ t.rd RNG_EVT_CFG_EN = 1 ∧ t.rd RNG_EVT_PROD_INDEX = 0 ∧
      t.ring.evtEver = true ∧ t.ring.evtHalted = false ∧ t.ring.evtCons = 0 ∧
      keepsBut s t [RNG_EVT_CFG_EN, RNG_EVT_PROD_INDEX]) ∧
    (s.rd RNG_EVT_CFG_EN ≠ 0 → ∃ t : State, exec .eventRingDisable s = .next t ∧ t.rd RNG_EVT_CFG_EN = 0 ∧ onlyFields s t [RNG_EVT_CFG_EN])) ∧
  (∀ (r mask : Nat) (c : Cpl) (f : Flight) (s : State), s.life.released = true → r < 8 → s.ring.rings.length = 8 → mask < 256 → s.link.deaf = false →
    (s.rd RNG_CTL_HINT_EN = 0 → s.rd RNG_CNT_HINTS + 1 < 2 ^ RNG_CNT_HINTS.width - 1 →
      ∃ t : State, exec (.doorbellHint .intact {} [mask]) s = .next t ∧
        t.rd RNG_CNT_HINTS = s.rd RNG_CNT_HINTS + 1 ∧ keepsBut s t [RNG_CNT_HINTS] ∧ t.ring = s.ring) ∧
    (s.rd RNG_CTL_HINT_EN ≠ 0 → s.rd RNG_CNT_HINTS + 1 < 2 ^ RNG_CNT_HINTS.width - 1 →
      ∃ t : State, exec (.doorbellHint .intact {} [mask]) s = .next t ∧ t.rd RNG_CNT_HINT_MASK = mask ∧
        t.rd RNG_CNT_HINTS = s.rd RNG_CNT_HINTS + 1) ∧
    (max 1 (s.rd RNG_CFG_CPL_STALL_TICKS) ≤ (s.ringAt r).fullTicks → (s.ringAt r).stallSent = false →
      ∃ t : State, exec (.cplStall r) s = .next t ∧ sends s t 0x09E 0x03 r ∧ keepsBut s t [] ∧
        exec (.cplStall r) t = .next t) ∧
    ((s.ringAt r).queue = [c] → c.ring = r → s.cplFull r = false → s.ring.batch = 0 →
      ∃ t : State, exec (.cplRingRetry r) s = .next t ∧ (t.ringAt r).queue = [] ∧
        (t.ringAt r).cplProd = ((s.ringAt r).cplProd + 1) % 2 ^ 32 ∧
        (t.link.upQueue.drop s.link.upQueue.length).head? = some (.write
          (s.hostAddr (RNG_CPL_BASE_LO_ADDR r) (RNG_CPL_BASE_HI_ADDR r) + 16 * ((s.ringAt r).cplProd % s.cplSize r))
          (cplWords (phaseOf (s.ringAt r).cplProd (s.cplSize r))
            { c with tick := if c.bound = true then c.tick else s.tick.count % 2 ^ 32 }))) ∧
    (s.ring.flights = [f] → f.ring = r → f.stage = .held → f.ended = false → f.opcode = 0 → s.rd LNK_STAT_DOWN = 0 →
        s.ring.gather = false → s.ring.batch = 0 → (s.ringAt r).queue = [] → s.cplFull r = false →
      ∃ t : State, exec (.descriptorRelease r) s = .next t ∧ t.ring.flights = [] ∧
        (t.ringAt r).cplProd = ((s.ringAt r).cplProd + 1) % 2 ^ 32))

/-- Word 0 bit 0 of every completion and event entry is PHASE (R234): 1 on the first pass through its ring, 0 on the second, and
so on, by the entries written since the ring was enabled. -/
def Obligations.PhaseBitsAlternate : Prop :=
  ∀ (c : Cpl) (ty sev inj w1 lo hi : Nat) (s : State), c.ring < 8 → s.ring.rings.length = 8 →
    (∃ (addr w0 : Nat) (more : List Nat), (s.writeCpl c).link.upQueue = s.link.upQueue ++ [.write addr (w0 :: more)] ∧
      w0 % 2 = (if (s.ringAt c.ring).cplProd / s.cplSize c.ring % 2 = 0 then 1 else 0) ∧
      ((s.writeCpl c).ringAt c.ring).cplProd = ((s.ringAt c.ring).cplProd + 1) % 2 ^ 32) ∧
    (s.ring.evtEver = true → s.rd RNG_EVT_CFG_EN ≠ 0 → s.ring.evtHalted = false → s.evtFull = false → s.rd LNK_STAT_DOWN = 0 →
      ∃ (addr w0 : Nat) (more : List Nat),
        (s.postEvent ty sev inj w1 lo hi).link.upQueue = s.link.upQueue ++ [.write addr (w0 :: more)] ∧
        w0 % 2 = (if s.rd RNG_EVT_PROD_INDEX / s.evtSize % 2 = 0 then 1 else 0) ∧
        (s.postEvent ty sev inj w1 lo hi).rd RNG_EVT_PROD_INDEX = (s.rd RNG_EVT_PROD_INDEX + 1) % 2 ^ 32)

/-! ### CAN, the system link, the engines, the fault collector (R44–R48, R88–R99, R121, R284–R297, R341–R353) -/

/-- CAN frames (R290, R292–R296): a remote frame is counted; under CAN_ID_LIMP a command that is well formed, new and for this
module queues the status frame where its CMD is 1 and demands FALLBACK from source 0x0D4 where it is 2; one with a wrong check
value is counted and does nothing; other traffic is ignored. While the device is busy frames wait in order in the buffer of 16,
and one lost at a full buffer is an overrun, sent once per run. A frame received takes REC down. While the controller is off
nothing is taken. The counters' steps (PRESUMED, ISO 11898-1) and the order of the buffer are the model's, log 91.

A safety block comes in parts (R292, R293): under CAN_ID_SAFE, part 0 of several starts an assembly, its time runs out with
a discard counted, a part that does not continue it is a format fault, and so is a classical frame.

SAFETY_COPY (R283, R321, R323): a block that keeps the layout and names this module becomes the newest of the link, with the
tick count it arrived at, where its SEQ is newer; any other is SEQ_REPLAY, is counted in SFT_TWIN_CNT and the newest stays: in
which of its two counts is open, and the model's reading is log 90. One for other modules, or with
the twin path off, does nothing; one that breaks the layout or whose CRC fails is COPY_FORMAT; a FALLBACK bit in a valid one is a fallback
cause at once.

The twin path at a boundary k (R321–R324): AGREE, WAIT, MISMATCH or MISSING by the newest blocks of the carriers, with the
permit, the run of mismatches, and TWIN_MISSING at the first boundary of a run. That a stale carrier is MISSING also where the
SEQs differ within the window is the model's reading, log 61. -/
def Obligations.CanFramesAndBlocks : Prop :=
  (∀ (f : CanFrame) (c : Bool → Instr) (s : State), s.life.released = true → f.ok = true → f.errs = 0 →
    c ∈ [fun busy => Instr.canSafetyPart f busy, fun busy => .canStatusRequest f busy, fun busy => .canFallbackRequest f busy] →
    s.rd CAN_ERRCNT_IGNORED < 200 → s.rd CAN_ERRCNT_OVERRUN < 200 → s.can.recs < 128 → s.rd CAN_STAT_TEC < 128 →
    (2 ≤ s.rd CAN_STAT_STATE → exec (.canRemoteFrame 0) s = .next s ∧ ∀ busy : Bool, exec (c busy) s = .next s) ∧
    (s.rd CAN_STAT_STATE ≤ 1 → ∃ t : State, exec (.canRemoteFrame 0) s = .next t ∧
      t.rd CAN_ERRCNT_IGNORED = s.rd CAN_ERRCNT_IGNORED + 1 ∧ t.rd CAN_STAT_REC = s.can.recs - 1 ∧
      onlyFields { s with can := { s.can with recs := s.can.recs - 1 } } t [CAN_ERRCNT_IGNORED, CAN_STAT_REC, CAN_STAT_STATE]) ∧
    (s.rd CAN_STAT_STATE ≤ 1 → s.can.rx = [] → s.canUnder 0 f = false → s.canUnder 1 f = false → ∃ t : State,
      exec (c false) s = .next t ∧ t.rd CAN_STAT_REC = s.can.recs - 1 ∧ t.rd CAN_STAT_STATE = 0 ∧
      onlyFields { s with can := { s.can with recs := s.can.recs - 1 } } t [CAN_STAT_REC, CAN_STAT_STATE]) ∧
    (s.rd CAN_STAT_STATE ≤ 1 → s.can.rx = [] → s.canUnder 0 f = false → s.canUnder 1 f = true →
      (limpOk s.can.limpSeen f.data = true → bitOf (byteAt f.data 1) s.ownIdx = true → ∃ t : State, exec (c false) s = .next t ∧
        t.can.limpSeen = some (numAt f.data 2 2) ∧ t.rd CAN_LAST_COUNTER = numAt f.data 2 2 ∧
        (byteAt f.data 0 = 1 → s.rd CAN_CTL_MODE = 1 → t.can.status = some s.statusCan ∧ t.fifo = s.fifo ∧
          keepsBut s t [CAN_LAST_COUNTER, CAN_STAT_REC, CAN_STAT_STATE]) ∧
        (byteAt f.data 0 = 2 → s.rd LCS_BOOT_ENDED = 0 → t.can.status = s.can.status ∧ sends s t 0x0D4 0x01 4 ∧
          t.sft.collected.length = s.sft.collected.length + 1)) ∧
      (Algo.of .crc8 (f.data.take 7) ≠ byteAt f.data 7 → ∃ t : State, exec (c false) s = .next t ∧
        t.rd CAN_ERRCNT_IGNORED = s.rd CAN_ERRCNT_IGNORED + 1 ∧
        keepsBut s t [CAN_ERRCNT_IGNORED, CAN_STAT_REC, CAN_STAT_STATE] ∧ t.fifo = s.fifo ∧ t.can.status = s.can.status ∧
        t.sft = s.sft)) ∧
    (s.rd CAN_STAT_STATE ≤ 1 → s.canUnder 0 f = true ∨ s.canUnder 1 f = true →
      (s.can.rx.length < 16 → ∃ t : State, exec (c true) s = .next t ∧ t.can.rx = s.can.rx ++ [f] ∧ t.can.asm = s.can.asm ∧
        t.fifo = s.fifo ∧ t.sft = s.sft ∧ keepsBut s t [CAN_STAT_REC, CAN_STAT_STATE]) ∧
      (s.can.rx.length = 16 → s.can.overRun = false → ∃ t : State, exec (c true) s = .next t ∧
        t.rd CAN_ERRCNT_OVERRUN = s.rd CAN_ERRCNT_OVERRUN + 1 ∧ sends s t 0x0A0 0x03 0 ∧ t.can.overRun = true ∧
        t.can.rx = s.can.rx ∧ t.can.asm = s.can.asm ∧ keepsBut s t [CAN_ERRCNT_OVERRUN, CAN_STAT_REC, CAN_STAT_STATE]))) ∧
  (∀ (f : CanFrame) (s : State), s.life.released = true → f.ok = true → f.errs = 0 → s.canUnder 0 f = true → s.can.rx = [] → s.can.recs < 128 →
    s.rd CAN_STAT_TEC < 128 → s.rd CAN_STAT_STATE ≤ 1 → s.rd CAN_ERRCNT_ASM_DISCARD < 200 →
    s.rd CAN_RXCNT_FORMAT < 200 → s.can.asm = none →
    (f.fd = true → byteAt f.data 0 % 4 = 0 → byteAt f.data 0 / 4 % 4 ≠ 0 → ∃ t : State,
      exec (.canSafetyPart f false) s = .next t ∧
      t.can.asm = some ⟨byteAt f.data 0 / 4 % 4, byteAt f.data 1, 1, f.data.drop 2⟩ ∧ t.fifo = s.fifo ∧
      keepsBut s t [CAN_STAT_REC, CAN_STAT_STATE] ∧
      ∃ u : State, exec .canAssemblyTimeout t = .next u ∧ u.can.asm = none ∧
        u.rd CAN_ERRCNT_ASM_DISCARD = s.rd CAN_ERRCNT_ASM_DISCARD + 1 ∧ keepsBut t u [CAN_ERRCNT_ASM_DISCARD]) ∧
    (f.fd = false ∨ byteAt f.data 0 % 4 ≠ 0 → ∃ t : State, exec (.canSafetyPart f false) s = .next t ∧ t.can.asm = none ∧
      t.rd CAN_RXCNT_FORMAT = s.rd CAN_RXCNT_FORMAT + 1 ∧ sends s t 0x0A0 0x04 (byteAt f.data 1) ∧
      keepsBut s t [CAN_RXCNT_FORMAT, CAN_STAT_REC, CAN_STAT_STATE])) ∧
  (∀ (ws bs : List Nat) (n seq : Nat) (s : State), s.life.released = true → s.link.deaf = false →
    ws.all (fun w => decide (w < 2 ^ 32)) = true → bs = wordBytes ws → n = byteAt bs 3 % 32 → seq = numAt bs 0 2 →
    ws.length = 3 + 2 * n → n ≤ 16 →
    (byteAt bs 2 < 4 → byteAt bs 3 < 32 → numAt bs 4 4 < 16 → (∀ i < n, numAt bs (12 + 8 * i) 2 ≤ 4096 ∧ numAt bs (14 + 8 * i) 2 ≤ 4096) →
      crc32c (bs.take (8 + 8 * n)) = numAt bs (8 + 8 * n) 4 →
      (bitOf (byteAt bs 4) s.ownIdx = false ∨ s.rd SFT_TWIN_CFG_EN = 0 → ∃ t : State, exec (.safetyCopy .intact {} ws) s = .next t ∧
        t.sft = s.sft ∧ t.fifo = s.fifo ∧ keepsBut s t []) ∧
      (bitOf (byteAt bs 4) s.ownIdx = true → s.rd SFT_TWIN_CFG_EN ≠ 0 →
        ((∀ o : SafeBlock, s.sft.link = some o → 1 ≤ (seq + 65536 - o.seq) % 65536 ∧ (seq + 65536 - o.seq) % 65536 ≤ 32767) →
          (byteAt bs 2 < 2 → ∃ t : State, exec (.safetyCopy .intact {} ws) s = .next t ∧
            t.sft = { s.sft with link := some ⟨seq, s.tick.count, bs⟩ } ∧ t.rd SFT_TWIN_SEQ_LINK_SEQ = seq ∧ t.fifo = s.fifo ∧
            keepsBut s t [SFT_TWIN_SEQ_LINK_SEQ]) ∧
          (2 ≤ byteAt bs 2 → s.rd LCS_BOOT_ENDED = 0 → ∃ t : State, exec (.safetyCopy .intact {} ws) s = .next t ∧
            t.sft.link = some ⟨seq, s.tick.count, bs⟩ ∧ t.rd SFT_TWIN_SEQ_LINK_SEQ = seq ∧ sends s t 0x0D4 0x01 1 ∧
            (∃ r : CauseRef, t.sft.collected = s.sft.collected ++ [(false, r)]) ∧ keepsBut s t [SFT_TWIN_SEQ_LINK_SEQ])) ∧
        (∀ o : SafeBlock, s.sft.link = some o → (seq + 65536 - o.seq) % 65536 = 0 ∨ 32767 < (seq + 65536 - o.seq) % 65536 →
          byteAt bs 2 < 2 → s.rd SFT_TWIN_CNT_MISMATCH < 65534 → s.rd SFT_TWIN_CNT_MISSING < 65534 →
          ∃ t : State, exec (.safetyCopy .intact {} ws) s = .next t ∧ t.sft.link = s.sft.link ∧
            sends s t 0x0D2 0x03 0 ∧ ∃ g ∈ [SFT_TWIN_CNT_MISMATCH, SFT_TWIN_CNT_MISSING], t.rd g = s.rd g + 1 ∧ keepsBut s t [g]))) ∧
    (4 ≤ byteAt bs 2 ∨ 32 ≤ byteAt bs 3 ∨ 16 ≤ numAt bs 4 4 ∨ crc32c (bs.take (8 + 8 * n)) ≠ numAt bs (8 + 8 * n) 4 →
      ∃ t : State, exec (.safetyCopy .intact {} ws) s = .next t ∧ t.sft = s.sft ∧ sends s t 0x091 0x03 seq ∧ keepsBut s t [])) ∧
  (∀ (k : Nat) (l c : SafeBlock) (s : State), s.rd SFT_TWIN_CFG_EN ≠ 0 → s.rd CAN_STAT_STATE ≠ 2 → s.sft.link = some l →
    s.sft.can = some c → l.seq < 65536 → c.seq < 65536 →
    (k ≤ l.at' + max 2 (s.rd SFT_TWIN_CFG_STALE) → k ≤ c.at' + max 2 (s.rd SFT_TWIN_CFG_STALE) →
      (l.seq = c.seq → l.bytes = c.bytes → (s.twinEvaluate k).rd SFT_TWIN_STAT_STATE = 0 ∧
        (s.twinEvaluate k).rd SFT_TWIN_STAT_MISM_CNT = 0 ∧ (s.twinEvaluate k).gko.twin = l.boxes) ∧
      (l.seq = c.seq → l.bytes ≠ c.bytes → (s.twinEvaluate k).rd SFT_TWIN_STAT_STATE = 2 ∧
        (s.twinEvaluate k).rd SFT_TWIN_STAT_MISM_CNT = min 255 (s.rd SFT_TWIN_STAT_MISM_CNT + 1) ∧
        (s.twinEvaluate k).gko.twin = (l.boxes ++ c.boxes).take 32) ∧
      (∀ a w : Nat, l.seq ≠ c.seq → a = (if 1 ≤ (l.seq + 65536 - c.seq) % 65536 ∧ (l.seq + 65536 - c.seq) % 65536 ≤ 32767 then l.at'
          else c.at') → w = max 1 (min 8 (s.rd SFT_TWIN_CFG_WINDOW)) →
        (s.twinEvaluate k).rd SFT_TWIN_STAT_STATE = (if k < a + w then 1 else 3) ∧
        (s.twinEvaluate k).rd SFT_TWIN_STAT_MISM_CNT = 0 ∧ (s.twinEvaluate k).gko.twin = (l.boxes ++ c.boxes).take 32) ∧
      (s.twinEvaluate k).rd SFT_TWIN_STAT_PERMIT = byteAt l.bytes 2 % 2 * (byteAt c.bytes 2 % 2)) ∧
    (l.at' + max 2 (s.rd SFT_TWIN_CFG_STALE) < k → k ≤ c.at' + max 2 (s.rd SFT_TWIN_CFG_STALE) →
      (s.twinEvaluate k).rd SFT_TWIN_STAT_STATE = 3 ∧ (s.twinEvaluate k).rd SFT_TWIN_STAT_LINK_STALE = 1 ∧
      (s.twinEvaluate k).rd SFT_TWIN_STAT_PERMIT = 0 ∧ (s.twinEvaluate k).gko.twin = c.boxes.take 32 ∧
      (s.sft.missRun = false → s.rd SFT_TWIN_CNT_MISSING < 200 → sends s (s.twinEvaluate k) 0x0D2 0x02 1) ∧
      (s.sft.missRun = true → s.rd SFT_TWIN_CNT_MISSING < 200 → (s.twinEvaluate k).fifo = s.fifo)))

/-- The controller's error states (R290, R295, R296, R299): error passive and bus-off are sent once each; receive errors that
take REC past 127 make the controller error passive until a frame is received without error; out of bus-off only with
AUTO_RECOVER; a frame that is out leaves the queue, and one whose errors take TEC past 255 is not out, the controller being
error passive and then bus-off; the status frame falls
due every PERIOD_TICKS boundaries. A counter that comes to all ones sets FLT_SAT and is sent once (R355, R356). The counters'
steps are those of ISO 11898-1 (log entry 91). -/
def Obligations.CanErrorStates : Prop :=
  ∀ (tec rc tdcv errs : Nat) (f : CanFrame) (s : State), s.life.released = true → tec < 256 → rc < 128 → tdcv < 256 → errs < 256 →
    s.rd CAN_ERRCNT_BUS_OFF < 200 →
    (s.rd CAN_STAT_STATE = 0 → ∃ t : State, exec (.canErrorPassive tec rc) s = .next t ∧ t.rd CAN_STAT_STATE = 1 ∧
      t.rd CAN_STAT_TEC = tec ∧ t.rd CAN_STAT_REC = rc ∧
      newMessages s t ((if tec = 255 ∧ s.rd CAN_STAT_TEC ≠ 255 then [(0x3F1, 0x01, 0x40020)] else []) ++
        (if rc = 127 ∧ s.rd CAN_STAT_REC ≠ 127 then [(0x3F1, 0x01, 0x40020)] else []) ++ [(0x0A0, 0x01, tec)]) ∧
      ((tec = 255 ∧ s.rd CAN_STAT_TEC ≠ 255) ∨ (rc = 127 ∧ s.rd CAN_STAT_REC ≠ 127) → t.rd FLT_SAT_FLAG ≠ 0) ∧
      (tec < 255 → rc < 127 → t.rd FLT_SAT_FLAG = s.rd FLT_SAT_FLAG ∧ t.rd FLT_SAT_ADDR = s.rd FLT_SAT_ADDR) ∧
      keepsBut s t [CAN_STAT_STATE, CAN_STAT_TEC, CAN_STAT_REC, FLT_SAT_ADDR, FLT_SAT_FLAG] ∧
      exec (.canErrorPassive tec rc) t = .next t) ∧
    (s.rd CAN_STAT_STATE = 0 → s.rd CAN_STAT_TEC < 128 → 127 < s.can.recs + errs → s.rd CAN_ERRCNT_IGNORED < 200 →
      ∃ t : State, exec (.canRemoteFrame errs) s = .next t ∧
        newMessages s t ((if s.rd CAN_STAT_REC ≠ 127 then [(0x3F1, 0x01, 0x40020)] else []) ++ [(0x0A0, 0x01, s.rd CAN_STAT_TEC)]) ∧
        119 ≤ t.rd CAN_STAT_REC ∧ t.rd CAN_STAT_REC ≤ 127 ∧ t.rd CAN_STAT_STATE = 0 ∧
        t.rd CAN_ERRCNT_IGNORED = s.rd CAN_ERRCNT_IGNORED + 1 ∧ 
        (s.rd CAN_STAT_REC ≠ 127 → t.rd FLT_SAT_FLAG ≠ 0) ∧
        keepsBut s t [CAN_STAT_REC, CAN_ERRCNT_IGNORED, FLT_SAT_ADDR, FLT_SAT_FLAG]) ∧
    (s.rd CAN_STAT_STATE ≤ 1 → s.can.asm = none → ∃ t : State, exec .canBusOff s = .next t ∧ t.rd CAN_STAT_STATE = 2 ∧
      t.rd CAN_STAT_TEC = 255 ∧ t.rd CAN_ERRCNT_BUS_OFF = s.rd CAN_ERRCNT_BUS_OFF + 1 ∧
      newMessages s t ((if s.rd CAN_STAT_TEC ≠ 255 then [(0x3F1, 0x01, 0x40020)] else []) ++ [(0x0A0, 0x02, 0)]) ∧
      (s.rd CAN_STAT_TEC ≠ 255 → t.rd FLT_SAT_FLAG ≠ 0) ∧
      keepsBut s t [CAN_STAT_STATE, CAN_STAT_TEC, CAN_ERRCNT_BUS_OFF, FLT_SAT_ADDR, FLT_SAT_FLAG] ∧ exec .canBusOff t = .next t) ∧
    (s.rd CAN_STAT_STATE = 2 → s.rd CAN_CTL_AUTO_RECOVER = 0 → exec .canBusOffRecovery s = .next s) ∧
    (s.rd CAN_STAT_STATE = 2 → s.rd CAN_CTL_AUTO_RECOVER ≠ 0 → ∃ t : State, exec .canBusOffRecovery s = .next t ∧
      t.rd CAN_STAT_STATE = 0 ∧ t.rd CAN_STAT_TEC = 0 ∧ t.rd CAN_STAT_REC = 0 ∧
      onlyFields { s with can := { s.can with recs := 0 } } t [CAN_STAT_STATE, CAN_STAT_TEC, CAN_STAT_REC]) ∧
    (s.rd CAN_STAT_STATE = 0 → s.can.status = some f → s.can.recs < 128 → s.rd CAN_STAT_TEC < 128 →
      (∃ t : State, exec (.canFrameSent tdcv 0) s = .next t ∧ t.can.status = none ∧ t.rd CAN_STAT_TEC = s.rd CAN_STAT_TEC - 1 ∧
        t.rd CAN_STAT_TDCV = (if s.rd CAN_CTL_TDC_EN = 0 then s.rd CAN_STAT_TDCV else tdcv % 2 ^ CAN_STAT_TDCV.width) ∧
        keepsBut s t [CAN_STAT_TEC, CAN_STAT_REC, CAN_STAT_TDCV, FLT_SAT_ADDR, FLT_SAT_FLAG] ∧
        (s.rd CAN_STAT_REC = min 127 s.can.recs → keepsBut s t [CAN_STAT_TEC, CAN_STAT_REC, CAN_STAT_TDCV])) ∧
      (255 < s.rd CAN_STAT_TEC + 8 * errs → s.can.asm = none → ∃ t : State, exec (.canFrameSent tdcv errs) s = .next t ∧
        t.can.status = some f ∧ t.rd CAN_STAT_STATE = 2 ∧
        (t.fifo.drop s.fifo.length).map (fun m => (m.source, m.kind)) =
          (if s.can.recs = 127 ∧ s.rd CAN_STAT_REC ≠ 127 then [(0x3F1, 0x01)] else []) ++
            [(0x0A0, 0x01), (0x3F1, 0x01), (0x0A0, 0x02)])) ∧
    (s.rd CAN_CTL_MODE = 1 → s.rd CAN_STAT_CFG_PERIOD_TICKS ≠ 0 → s.rd CAN_STAT_CFG_PERIOD_TICKS ≤ s.can.statTicks →
      ∃ t : State, exec .canStatusPeriod s = .next t ∧ t.can.statTicks = 0 ∧ t.can.status = some s.statusCan ∧
        t.regs = s.regs) ∧
    (s.rd CAN_STAT_CFG_PERIOD_TICKS = 0 ∨ s.can.statTicks < s.rd CAN_STAT_CFG_PERIOD_TICKS →
      exec .canStatusPeriod s = .next s)

/-- The system link (R44, R285, R286, R289): a frame with a wrong check value is counted, sent as a fault and goes no further; the
module's own frame is taken out; that of another module, an echo too, makes it present and goes on; an echo goes out once SL_RX holds lock, trains the ring when it is back, and times out to the
default delay; a loss of signal or of lock ends the training; a peer gone is sent once, and when it was last heard is forgotten
(the model's choice, log 92).

The choice of a master (R44, R45, R48, R50): in role SOLO a module follows nobody; alone and eligible it stays SOLO, which
TCK_SYNC_STAT shows; with another module present that is not eligible it becomes MASTER; HOLDOVER
that has lasted LOSS_TICKS is given up with SYNC_LOST: a module left alone goes SOLO, and one whose master is still present
acquires it again (log entry 45). What of a silent master is kept at HOLDOVER_EXPIRY is the model's choice, log 92. -/
def Obligations.SystemLinkAndMasters : Prop :=
  (∀ (bs : List Nat) (arr rt hops path i mv : Nat) (s : State), s.life.released = true → mv < 65 → (Instr.slFrameReceived bs arr).wf = true →
    (Instr.slEchoReturn rt hops path).wf = true → i < 4 → s.tick.peers.length = 4 → s.rd LNK_SL_CTL_EN ≠ 0 →
    s.rd LNK_SL_CNT_CRC_ERR < 200 → s.rd LNK_LANECNT_LOS < 200 → s.rd LNK_LANECNT_LOL < 200 →
    (Algo.of .crc32 (bs.take 60) ≠ numAt bs 60 4 → ∃ t : State, exec (.slFrameReceived bs arr) s = .next t ∧
      t.rd LNK_SL_CNT_CRC_ERR = s.rd LNK_SL_CNT_CRC_ERR + 1 ∧ sends s t 0x201 0x02 (byteAt bs 0 % 4) ∧
      onlyFieldsAndMessages s t [LNK_SL_CNT_CRC_ERR]) ∧
    (Algo.of .crc32 (bs.take 60) = numAt bs 60 4 → byteAt bs 0 % 4 = s.ownIdx → exec (.slFrameReceived bs arr) s = .next s) ∧
    (Algo.of .crc32 (bs.take 60) = numAt bs 60 4 → byteAt bs 0 % 4 ≠ s.ownIdx →
      ∃ t : State, exec (.slFrameReceived bs arr) s = .next t ∧ ∃ f : List Nat, t.link.slSent = s.link.slSent ++ [f] ∧
        f.getD 0 0 = byteAt bs 0 ∧ (f.drop 16).take 44 = (bs.drop 16).take 44 ∧
        (t.peer (byteAt bs 0 % 4)).age = some 0 ∧ t.present (byteAt bs 0 % 4) = true ∧ t.tick.heardAny = true) ∧
    (s.rd LNK_SL_STAT_LOCK ≠ 0 → s.rd LNK_SL_STAT_TRAINED = 0 → ∃ t : State, exec .slEchoSend s = .next t ∧
      t.link.slEcho = true ∧ t.link.slSent.length = s.link.slSent.length + 1 ∧ t.regs = s.regs ∧
      ∃ u : State, exec (.slEchoReturn rt hops path) t = .next u ∧ u.rd LNK_SL_STAT_TRAINED = 1 ∧ u.link.slEcho = false ∧
        u.link.slSending = true ∧
        keepsBut s u [TCK_SL_HOPDLY_DELAY, LNK_SL_STAT_RING_N, LNK_SL_STAT_RING_CYC, LNK_SL_STAT_TRAINED]) ∧
    (s.rd LNK_SL_STAT_LOCK ≠ 0 → s.rd LNK_SL_STAT_TRAINED = 0 → ∃ t : State, exec .echoFail s = .next t ∧
      t.rd TCK_SL_HOPDLY_DELAY = s.rd LNK_SL_CTL_HOP_DEF % 2 ^ TCK_SL_HOPDLY_DELAY.width ∧ sends s t 0x201 0x03 0 ∧
      keepsBut s t [TCK_SL_HOPDLY_DELAY]) ∧
    (∃ t : State, exec (.slLoss 0 mv) s = .next t ∧ t.rd LNK_SL_STAT_LOCK = 0 ∧ t.rd LNK_SL_STAT_TRAINED = 0 ∧
      t.rd LNK_SL_STAT_LOS = 1 ∧ t.rd LNK_LANECNT_LOS = s.rd LNK_LANECNT_LOS + 1 ∧ sends s t 0x201 0x01 0 ∧
      keepsBut s t [LNK_SL_STAT_LOCK, LNK_SL_STAT_TRAINED, LNK_SL_STAT_LOS, LNK_LANECNT_LOS]) ∧
    (∃ t : State, exec (.slLoss 1 mv) s = .next t ∧ t.rd LNK_SL_STAT_LOCK = 0 ∧ t.rd LNK_SL_STAT_TRAINED = 0 ∧
      t.rd LNK_LANECNT_LOL = s.rd LNK_LANECNT_LOL + 1 ∧ sends s t 0x201 0x01 1 ∧
      keepsBut s t [LNK_SL_STAT_LOCK, LNK_SL_STAT_TRAINED, LNK_LANECNT_LOL]) ∧
    (i ≠ s.ownIdx → (s.peer i).age.isSome = true → s.present i = false → ∃ t : State, exec (.peerLost i) s = .next t ∧
      sends s t (0x208 + i) 0x01 0 ∧ (t.peer i).age = none ∧ keepsBut s t [])) ∧
  (∀ (i : Nat) (s : State), s.life.released = true → s.tick.peers.length = 4 → i < 4 → i ≠ s.ownIdx → s.ownIdx < 4 →
    (s.rd TCK_CTL_SYNC_ROLE = 2 → s.rd TCK_SYNC_STAT_STATE = 0 → exec .eligibilityReached s = .next s) ∧
    (s.rd TCK_CTL_SYNC_ROLE = 0 → s.rd TCK_SYNC_STAT_STATE = 0 → s.tick.heardAny = true →
        (∀ k < 4, (s.peer k).age = none) →
      exec .eligibilityReached s = .next s ∧ ∃ t : State, exec (.readClear .host TCK_SYNC_STAT_ELIGIBLE.off) s = .next t ∧
        t.data / 2 ^ TCK_SYNC_STAT_ELIGIBLE.lo % 2 = 1 ∧ t.data / 2 ^ TCK_SYNC_STAT_PRESENT.lo % 16 = 2 ^ s.ownIdx) ∧
    (s.rd TCK_CTL_SYNC_ROLE = 0 → s.rd TCK_SYNC_STAT_STATE = 0 → s.tick.heardAny = true → (s.peer i).age = some 0 →
        (s.peer i).eligible = false → (s.peer i).mode ≠ .master → (s.peer i).mode ≠ .locked →
        (∀ k < 4, k ≠ i → (s.peer k).age = none) →
      ∃ t : State, exec .eligibilityReached s = .next t ∧ t.rd TCK_SYNC_STAT_STATE = 4 ∧
        t.rd TCK_SYNC_STAT_MASTER_IDX = s.ownIdx ∧ keepsBut s t [TCK_SYNC_STAT_STATE, TCK_SYNC_STAT_MASTER_IDX]) ∧
    (s.rd TCK_SYNC_STAT_STATE = 3 → s.rd TCK_SYNC_STAT_MASTER_IDX = i → max 1 (s.rd TCK_SYNC_CFG_LOSS_TICKS) ≤ s.tick.lostTicks →
        s.rd TCK_SYNC_CNT_LOSS < 200 → s.rd TCK_CTL_SYNC_ROLE = 1 → (∀ k < 4, k ≠ i → (s.peer k).age = none) →
        (s.peer i).eligible = true →
      ∃ t : State, exec .holdoverExpiry s = .next t ∧ sends s t 0x200 0x01 (i + 4) ∧ (t.peer i).age = (s.peer i).age ∧
        t.rd TCK_SYNC_CNT_LOSS = s.rd TCK_SYNC_CNT_LOSS + 1 ∧
        t.rd TCK_SYNC_STAT_STATE = (if s.present i = true then 1 else 0) ∧
        t.rd TCK_SYNC_STAT_MASTER_IDX = (if s.present i = true then i else s.ownIdx)) ∧
    (s.rd TCK_SYNC_STAT_STATE ≠ 3 ∨ s.tick.lostTicks < max 1 (s.rd TCK_SYNC_CFG_LOSS_TICKS) →
      exec .holdoverExpiry s = .next s))

/-- Engines (R88, R91–R93, R99, R121, R250): a fault halts a running engine, shows its kind and sends it from the engine's own
source; a halted one takes no notice, but of an uncorrectable error, which halts an engine in any state; a queued item past its
allowance is preempted, to resume later, and counted; an event of a VENDOR engine is
posted; a held table ends with its hold. The model's choices: an uncorrectable error halts in any state (log 128), and the order
of the queue and of preemption (log 129).

An image whose signature verifies waits for the boundary, with its ENGINE_LOAD still in flight; one whose signature does not
is refused with EXT_SIGNATURE, at the image's IMG_ID, its ENGINE_LOAD completes REFUSED_LOCK, and the engine is left as it was
(R94, R96, R97). The OK of one that verifies is the boundary's at which the program starts. -/
def Obligations.EnginesFollowTheirRules : Prop :=
  (∀ (e a w1 lo hi : Nat) (it : WorkItem) (s : State), s.life.released = true → e < 32 → a < 2 ^ 23 → w1 < 2 ^ 32 → lo < 2 ^ 32 → hi < 2 ^ 32 →
    s.eng.engines.length = 32 →
    (s.rd (NWT_STAT_STATE e) = 2 →
      (∀ p ∈ [(Instr.engineWatchdog e a, 1, a), (.engineIllegalOp e a, 7, a),
          (.engineAccessViolation e a, if s.rd (NWT_CTL_ROLE e) = 2 then 5 else 4, a)],
        ∃ t : State, exec p.1 s = .next t ∧ t.rd (NWT_STAT_STATE e) = 3 ∧ t.rd (NWT_STAT_LAST_KIND e) = p.2.1 ∧
          sends s t (0x040 + e) p.2.1 p.2.2 ∧ keepsBut s t [NWT_STAT_STATE e, NWT_STAT_LAST_KIND e] ∧
          exec p.1 t = .next t)) ∧
    (∃ t : State, exec (.engineEccError e true true a) s = .next t ∧ t.rd (NWT_STAT_STATE e) = 3 ∧
      t.rd (NWT_ECC_UNCORR e) = 1 ∧ sends s t (0x040 + e) 0x02 (a + 2 ^ 23) ∧
      keepsBut s t [NWT_STAT_STATE e, NWT_STAT_LAST_KIND e, NWT_ECC_UNCORR e]) ∧
    (∀ data : Bool, s.rd (NWT_ECC_CORRECTED e) < 200 → ∃ t : State, exec (.engineEccError e false data a) s = .next t ∧
      t.rd (NWT_ECC_CORRECTED e) = s.rd (NWT_ECC_CORRECTED e) + 1 ∧ onlyFields s t [NWT_ECC_CORRECTED e]) ∧
    (s.rd (NWT_STAT_STATE e) = 2 → s.rd (NWT_CTL_ROLE e) = 1 → (s.engine e).items = [it] → it.essential = false →
        (∃ resumed : Bool, (s.engine e).queue = [(0, resumed)]) → s.rd (NWT_DEFER_PREEMPT e) < 200 →
      ∃ t : State, exec (.engineItemPreempt e 0) s = .next t ∧ (t.engine e).preempted.contains 0 = true ∧ (t.engine e).queue = [] ∧
        t.rd (NWT_DEFER_PREEMPT e) = s.rd (NWT_DEFER_PREEMPT e) + 1 ∧ keepsBut s t [NWT_DEFER_PREEMPT e]) ∧
    (s.rd (NWT_STAT_STATE e) = 2 → s.rd (NWT_CTL_ROLE e) = 1 → s.ring.evtEver = true → s.rd RNG_EVT_CFG_EN ≠ 0 →
        s.ring.evtHalted = false → s.evtFull = false → s.rd LNK_STAT_DOWN = 0 → s.ring.batch = 0 →
      ∃ t : State, exec (.engineEventPost e w1 lo hi) s = .next t ∧
        t.rd RNG_EVT_PROD_INDEX = (s.rd RNG_EVT_PROD_INDEX + 1) % 2 ^ 32 ∧ t.ring.evtSeq = (s.ring.evtSeq + 1) % 65536 ∧
        (∃ (addr w0 : Nat) (more : List UpPacket),
          t.link.upQueue = s.link.upQueue ++ .write addr [w0, e + w1 / 32 * 32 % 2 ^ 32, lo, hi] :: more ∧ w0 / 2 % 8 = 1) ∧
        keepsBut s t [RNG_EVT_PROD_INDEX]) ∧
    ((s.engine e).hold = some 0 → ∃ t : State, exec (.extTableHoldExpiry e) s = .next t ∧ (t.engine e).hold = none ∧
      (t.engine e).table = [] ∧ { t with eng := { t.eng with engines := s.eng.engines } } = s) ∧
    ((∀ n : Nat, (s.engine e).hold = some n → 0 < n) → exec (.extTableHoldExpiry e) s = .next s)) ∧
  (∀ (e : Nat) (l : ExtLoad) (s : State), s.life.released = true → e < 32 → s.eng.loads = [l] → l.engine = e → l.step = 0 →
    (∀ f : Flight, s.oneAtWork f 16 → l.id = f.id → ∃ t : State, exec (.engineImageVerified e) s = .next t ∧
      if s.extSigOk l.image = true then t = { s with eng := { s.eng with loads := [{ l with step := 1 }] } }
      else completes s t 16 f.desc 3 0 0 ∧ t.eng.loads = [] ∧ t.rd (NWT_STAT_LAST_KIND e) = 6 ∧
        sends s t (0x040 + e) 0x06 (numAt l.image 8 4) ∧ keepsBut s t (NWT_STAT_LAST_KIND e :: cplFields f.desc) ∧
        t.eng.engines = s.eng.engines) ∧
    (s.ring.flights = [] → s.ring.batch = 0 → ∃ t : State, exec (.engineImageVerified e) s = .next t ∧
      if s.extSigOk l.image = true then t = { s with eng := { s.eng with loads := [{ l with step := 1 }] } }
      else t.eng.loads = [] ∧ t.rd (NWT_STAT_LAST_KIND e) = 6 ∧ sends s t (0x040 + e) 0x06 (numAt l.image 8 4) ∧
        keepsBut s t [NWT_STAT_LAST_KIND e] ∧ t.eng.engines = s.eng.engines))

/-- Acknowledgement (R346): the number of a record in the table takes it out; an unknown number sets ERR and does nothing else;
all of S2 and all injected ones can be taken out at once.

Injection and severities (R345, R351): GO sends one injected message as set up; severities are written in the life-cycle
states that allow it or a password session, to come into force at a boundary, and refused elsewhere. -/
def Obligations.AcknowledgementAndInjection : Prop :=
  (∀ (n : Nat) (s : State), s.life.released = true → n < 2 ^ 32 →
    (s.flt.table.any (fun x => x.2.record == n) = false → ∃ t : State, exec (.fltAck n) s = .next t ∧ t.rd FLT_ACK_CTL_ERR = 1 ∧
      onlyFields s t [FLT_ACK_CTL_ERR]) ∧
    (s.flt.table.any (fun x => x.2.record == n) = true → ∃ t : State, exec (.fltAck n) s = .next t ∧
      t.flt.table = s.flt.table.filter (fun x => x.2.record != n) ∧ t.rd FLT_ACK_CTL_ERR = s.rd FLT_ACK_CTL_ERR) ∧
    (∃ t : State, exec .fltAckAllS2 s = .next t ∧ t.flt.table = s.flt.table.filter (fun x => x.2.sev != 2) ∧
      (t.flt.table = [] → t.rd FLT_STAT_ACK_FULL = 0 ∧ t.rd FLT_STAT_UNACKED = 0 ∧ t.rd FLT_STAT_MAXSEV = 0)) ∧
    (∃ t : State, exec .fltAckAllInj s = .next t ∧ t.flt.table = s.flt.table.filter (fun x => !x.2.injected))) ∧
  (∀ (i v : Nat) (s : State), s.life.released = true → i < 128 → v < 2 ^ 32 →
    (∃ (t : State) (m : Msg), exec .fltInjGo s = .next t ∧ t.fifo = s.fifo ++ [m] ∧ m.source = s.rd FLT_INJ_SRC_SOURCE ∧
      m.kind = s.rd FLT_INJ_SRC_KIND ∧ m.addr = s.rd FLT_INJ_ADDR_ADDR % 2 ^ 24 ∧ m.injected = true ∧ t.regs = s.regs) ∧
    (s.sevWritable = false → ∃ t : State, exec (.fltSevWrite i v) s = .next t ∧ t.rd FLT_STAT_SEV_REFUSED = 1 ∧
      onlyFields s t [FLT_STAT_SEV_REFUSED]) ∧
    (s.sevWritable = true → ∃ t : State, exec (.fltSevWrite i v) s = .next t ∧ t.flt.sevNow = s.flt.sevNow ∧
      (∀ j < 8, assigned (8 * i + j) = true → 8 * i + j ≠ 0x3FF →
        Cells.get t.flt.sevW 0 (8 * i + j) = min 5 (v / 16 ^ j % 8) + 1) ∧
      { t with flt := { t.flt with sevW := s.flt.sevW } } = s))

/-- A message that the collector takes is counted, recorded and entered (R342, R344, R346, R357): here an overrun at its
reset severity S2, with nothing else waiting.

The reactions, by the severity in force (R344, R345): S0 counts the message and does nothing else; S1 makes its record too, but
posts no event and enters no table; from S2 on the event is posted and the table entered, at S3 with GRACE_TICKS to run (R347),
and marked where the module was in FALLBACK or DARK (R348); S4 carries out FALLBACK and S5 DARK at once (R301), and the cause
register names the record (R313). A message of a kind its source has not, or of no source, is taken as BAD_MESSAGE of the
collector, with what it named as the address (R343).

The grace of an S3 entry that runs out escalates it (R347): counted, and FALLBACK unless the record was made in a
lock-out (R348). A fault of the collector itself is
latched and is a fallback cause as well (R353). -/
def Obligations.FaultsAreRecordedAndEscalate : Prop :=
  (∀ (a : Nat) (s : State), s.life.released = true → a < 2 ^ 24 → s.fifo = [] → s.flt.queue = [] → s.flt.table = [] → s.flt.overflow = 0 → s.flt.dropRun = 0 →
    s.flt.sevNow = [] → s.rcd.pf = none → s.rd LCS_BOOT_ENDED = 0 → s.ring.evtEver = false → s.ring.batch = 0 →
    s.rd (FLT_CNT_B0 26) < 100 → s.rcd.buffer = [] → s.rcd.frozenAt = none → s.rcd.dropRun = 0 → s.rcd.prog = none →
    s.rcd.next < 2 ^ 31 →
    ∃ t : State, exec (.faultMessage [(0x068, 1, a)]) s = .next t ∧ t.rd (FLT_CNT_B0 26) = s.rd (FLT_CNT_B0 26) + 1 ∧
      t.flt.table = [(0, ⟨s.rcd.next, 2, false, 0, 0x068, 1, a, false, decide (2 ≤ s.rd SFT_MODE_MODE)⟩)] ∧ t.rcd.buffer.map (fun r => r.number) = [s.rcd.next] ∧
      t.rcd.next = s.rcd.next + 1 ∧ t.rd FLT_STAT_UNACKED = 1 ∧ t.rd FLT_STAT_MAXSEV = 2 ∧ t.fifo = [] ∧ t.flt.queue = []) ∧
  (∀ (src kind a v : Nat) (s : State), s.life.released = true → a < 2 ^ 24 → s.fifo = [] → s.flt.queue = [] → s.flt.table = [] →
    s.flt.overflow = 0 → s.flt.dropRun = 0 → s.rcd.pf = none → s.rd LCS_BOOT_ENDED ≠ 0 → s.rd SFT_MODE_MODE ≤ 1 →
    s.healthy = true → s.bst.tests = [] → s.ring.batch = 0 → s.ring.evtEver = true → s.rd RNG_EVT_CFG_EN = 1 →
    s.ring.evtHalted = false → s.evtFull = false → s.rd LNK_STAT_DOWN = 0 → s.rd RNG_EVT_PROD_INDEX + 1 < 2 ^ 32 →
    s.rcd.buffer = [] → s.rcd.frozenAt = none → s.rcd.dropRun = 0 → s.rcd.prog = none → s.rcd.next < 2 ^ 31 →
    (v ≤ 5 → Cells.find s.flt.sevNow 0x068 = some (v + 1) → s.rd (FLT_CNT_B0 26) < 100 →
      ∃ t : State, exec (.faultMessage [(0x068, 1, a)]) s = .next t ∧ t.rd (FLT_CNT_B0 26) = s.rd (FLT_CNT_B0 26) + 1 ∧
        (v = 0 → keepsBut s t [FLT_CNT_B0 26, SFT_SK_HEALTH_FAIL, SFT_MODE_SK_HEALTHY] ∧ t.rcd = s.rcd ∧ t.link = s.link) ∧
        (1 ≤ v → t.rcd.buffer.map (fun r => (r.number, r.type, r.sev, r.source, r.kind, r.addr)) =
            [(s.rcd.next, 0, v, 0x068, 1, a)] ∧ t.rcd.next = s.rcd.next + 1 ∧ t.rd FLT_LAST_RECORD = s.rcd.next) ∧
        t.rd RNG_EVT_PROD_INDEX = s.rd RNG_EVT_PROD_INDEX + (if 2 ≤ v then 1 else 0) ∧
        t.flt.table = (if 2 ≤ v then [(0, ⟨s.rcd.next, v, false, if v = 3 then max 1 (s.rd FLT_CTL_GRACE_TICKS) else 0, 0x068, 1,
          a, false, decide (4 ≤ v)⟩)] else []) ∧
        (2 ≤ v → t.rd FLT_STAT_UNACKED = 1 ∧ t.rd FLT_STAT_MAXSEV = v) ∧
        t.rd SFT_MODE_MODE = (if v = 5 then 3 else if v = 4 then 2 else s.rd SFT_MODE_MODE) ∧
        (4 ≤ v → t.rd SFT_LOCK_CAUSE_REC = s.rcd.next)) ∧
    (src < 1024 → kind < 63 → (0x20C ≤ src ∧ src < 0x3F0 ∨ src = 0x068 ∧ kind = 0) → Cells.find s.flt.sevNow 0x3F0 = none →
      s.rd (FLT_CNT_B0 252) < 100 →
      ∃ t : State, exec (.faultMessage [(src, kind, a)]) s = .next t ∧ t.rd (FLT_CNT_B0 252) = s.rd (FLT_CNT_B0 252) + 1 ∧
        t.rcd.buffer.map (fun r => (r.number, r.type, r.sev, r.source, r.kind, r.addr)) =
          [(s.rcd.next, 0, 1, 0x3F0, 3, src + 1024 * kind)] ∧
        t.flt.table = [] ∧ t.rd RNG_EVT_PROD_INDEX = s.rd RNG_EVT_PROD_INDEX ∧ t.rd SFT_MODE_MODE = s.rd SFT_MODE_MODE)) ∧
  (∀ (e : Unack) (addr : Nat) (s : State), s.life.released = true → addr < 2 ^ 24 → s.rcd.pf = none → s.rd LCS_BOOT_ENDED ≠ 0 → s.rd SFT_MODE_MODE ≤ 1 →
    s.healthy = true → s.bst.tests = [] → s.ring.batch = 0 → s.rcd.buffer = [] → s.rcd.frozenAt = none →
    s.rd FLT_DROP_ESCALATED < 200 → s.rcd.next < 2 ^ 31 → s.flt.table = [] →
    (s.flt.due = [e] → e.injected = false → e.inLock = false → ∃ t : State, exec .graceExpiry s = .next t ∧ t.flt.due = [] ∧
      t.rd FLT_DROP_ESCALATED = s.rd FLT_DROP_ESCALATED + 1 ∧ t.rd SFT_MODE_MODE = 2 ∧ t.rcd.next = s.rcd.next + 1) ∧
    (s.flt.due = [e] → e.injected = false → e.inLock = true → ∃ t : State, exec .graceExpiry s = .next t ∧ t.flt.due = [] ∧
      t.rd FLT_DROP_ESCALATED = s.rd FLT_DROP_ESCALATED + 1 ∧ t.rd SFT_MODE_MODE = s.rd SFT_MODE_MODE ∧
      t.rcd.next = s.rcd.next + 1) ∧
    (s.flt.due = [] → exec .graceExpiry s = .next s) ∧
    (∃ t : State, exec (.collectorSelfFault 2 addr) s = .next t ∧ t.rd FLT_STAT_SELF = 1 ∧ t.flt.selfLatch = true ∧
      t.rd SFT_MODE_MODE = 2 ∧ t.rcd.next = s.rcd.next + 1))

/-! ### The safety island, monitors and resets (R37, R300–R336, R358–R370, R401–R407, R417, R423) -/

/-- SFT_FEAT_WRITE (R301, R302) notes the features to be switched at the next boundary and moves the mode between NORMAL and
DEGRADED with the write itself: that the write is the cycle R301 means is the model's reading, log 111. A boundary settles the
mode of a module that is in one of the two, or has accepted a RESUME, by the features once more, and leaves any other lock-out
(R315; logs 111 and 114, the model's choices).

The dual-channel inputs (R317, R318, R320): a pair counts as asserted only where both channels agree, and LBF wins where
they do not; a pair that stays equal latches its safe side and reports it, and a pair that reads inactive long enough
arms again. An LBF demand during start-up is collected. The millisecond of a sample is log entry 59, and that LBF_DEMAND is
sent once in each run of the demand is log entry 62: both are the model's choices. -/
def Obligations.FeaturesAndInputs : Prop :=
  ((∀ (v : Nat) (s : State), s.life.released = true → v < 16 → ∃ t : State, exec (.sftFeatWrite v) s = .next t ∧ t.rd SFT_FEAT_FEAT_OFF = v ∧
    t.rd SFT_MODE_MODE = (if 1 < s.rd SFT_MODE_MODE then s.rd SFT_MODE_MODE else if v = 0 then 0 else 1) ∧
    onlyFields s t [SFT_FEAT_FEAT_OFF, SFT_MODE_MODE]) ∧
  (∀ s : State, (s.rd SFT_MODE_MODE ≤ 1 ∨ s.sft.resume = true →
      s.resumeBoundary.rd SFT_MODE_MODE = if s.rd SFT_FEAT_FEAT_OFF = 0 then 0 else 1) ∧
    (1 < s.rd SFT_MODE_MODE → s.sft.resume = false → s.resumeBoundary.rd SFT_MODE_MODE = s.rd SFT_MODE_MODE))) ∧
  (∀ (pins i : Nat) (s : State), s.life.released = true → pins < 16 → i < 2 →
    (s.rd LCS_BOOT_ENDED = 0 → ∃ t : State, exec (.dualInputSample pins) s = .next t ∧ t.rd SFT_INPUTS_PINS = pins ∧
      t.rd SFT_INPUTS_HBP = flag (pins % 4 == 1 && s.rd SFT_INPUTS_HBP_LATCH == 0) ∧
      t.rd SFT_INPUTS_LBF = flag (pins / 4 != 2 || s.rd SFT_INPUTS_LBF_LATCH != 0) ∧
      t.rd SFT_INPUTS_PERMIT = flag t.permitNow ∧ t.sft.ms = s.sft.ms + 1 ∧
      t.sft.hbp.count = (if pins % 4 = 0 ∨ pins % 4 = 3 then min 255 (s.sft.hbp.count + 1) else 0) ∧
      t.sft.lbf.count = (if pins / 4 = 0 ∨ pins / 4 = 3 then min 255 (s.sft.lbf.count + 1) else 0) ∧
      t.sft.hbp.calm = (if pins % 4 = 2 then min 255 (s.sft.hbp.calm + 1) else 0) ∧
      (t.rd SFT_INPUTS_LBF = 1 → s.sft.lbfSent = false → sends s t 0x0D1 0x02 0 ∧ t.sft.lbfSent = true ∧
        ∃ r : CauseRef, t.sft.collected = s.sft.collected ++ [(false, r)]) ∧
      (t.rd SFT_INPUTS_LBF = 0 ∨ s.sft.lbfSent = true → t.fifo = s.fifo ∧ t.sft.collected = s.sft.collected) ∧
      keepsBut s t [SFT_INPUTS_PINS, SFT_INPUTS_HBP, SFT_INPUTS_LBF, SFT_INPUTS_PERMIT, SFT_LOCK_STAT_READ_OK]) ∧
    (∀ (latch shown : Fld) (x : DualIn), (i = 0 ∧ latch = SFT_INPUTS_HBP_LATCH ∧ shown = SFT_INPUTS_HBP ∧ x = s.sft.hbp ∨
        i = 1 ∧ latch = SFT_INPUTS_LBF_LATCH ∧ shown = SFT_INPUTS_LBF ∧ x = s.sft.lbf) →
      (x.count < s.discTime ∨ s.rd latch ≠ 0 → exec (.discrepancy i) s = .next s) ∧
      (s.discTime ≤ x.count → s.rd latch = 0 → ∃ t : State, exec (.discrepancy i) s = .next t ∧ t.rd latch = 1 ∧
        t.rd shown = i ∧ sends s t (0x0D0 + i) 0x01 (s.rd SFT_INPUTS_PINS / 4 ^ i % 4) ∧
        t.rd SFT_INPUTS_PERMIT = flag t.permitNow ∧ onlyFieldsAndMessages s t [latch, shown, SFT_INPUTS_PERMIT]) ∧
      (x.calm < s.discTime ∨ s.rd latch = 0 → exec (.inputRearm i) s = .next s) ∧
      (s.discTime ≤ x.calm → s.rd latch ≠ 0 → ∃ t : State, exec (.inputRearm i) s = .next t ∧ t.rd latch = 0 ∧
        t.rd SFT_INPUTS_PERMIT = flag t.permitNow ∧ onlyFields s t [latch, SFT_INPUTS_PERMIT])))

/-- The life cycle (R328, R330): with the key 0x5EA1 and the conditions of the step met the next state becomes the pending one,
entered in the change log; anything else sets ADV_ERR and does nothing more. RETURNED needs a token that verifies. That a wrong
key sets ADV_ERR, which R328 does not list among its conditions, that a return takes the place of an advance that is pending, and
that a token which verifies in RETURNED sets ADV_ERR, are the model's readings, log 74. -/
def Obligations.LifeCycleStepsNeedTheirKey : Prop :=
  ∀ (target key : Nat) (s : State), s.life.released = true → target < 8 → key < 2 ^ 16 →
    (∀ (met : Prop) (l : Nat), l = s.life.state →
      (met ↔ target = l + 1 ∧ s.life.pending = l ∧ (l = 0 ∨ l = 1 ∧ s.rd CAL_STAT_FACT_OK ≠ 0 ∨
        (l = 2 ∧ s.rd GKO_ENV_CTL_LOADED ≠ 0 ∧ s.rd SFT_COMM_EPOCH_EPOCH ≠ 0 ∨ l = 3) ∧ s.rd SFT_SESS_STAT_ACTIVE ≠ 0 ∧
          s.rd SFT_SESS_STAT_PILOT = 0 ∧ s.rd SFT_SK_STAT_VALID ≠ 0 ∧ s.rd CAL_STAT_USER_DIRTY = 0)) →
    (key ≠ 0x5EA1 ∨ ¬ met → ∃ t : State, exec (.lcsAdvance target key) s = .next t ∧
      t.rd LCS_STATE_ADV_ERR = 1 ∧ onlyFields s t [LCS_STATE_ADV_ERR]) ∧
    (key = 0x5EA1 → met → s.rcd.next < 2 ^ 31 → s.rcd.pf = none → ∃ t : State, exec (.lcsAdvance target key) s = .next t ∧
        t.life = { s.life with pending := target } ∧ t.rcd.next = s.rcd.next + 2 ∧
        t.rd LCS_STATE_ADV_ERR = s.rd LCS_STATE_ADV_ERR)) ∧
    (∃ t : State, exec .lcsReturn s = .next t ∧
      if s.life.state ≠ 5 ∧ ecdsaOk Config.returnKey (sha256 (s.serial ++ leBytes 8 s.life.challenge)) (s.tokenNum 0)
          (s.tokenNum 1) = true then t.life = { s.life with pending := 5 }
      else t.rd LCS_STATE_ADV_ERR = 1 ∧ onlyFields s t [LCS_STATE_ADV_ERR])

/-- Commissioning sessions (R327, R331–R334): what opens one, that every attempt clears the password words, what a wrong password
costs, how the lock ends, how a session closes, and that the epoch changes for a closed session only where it persisted a
change: at once where no descriptor accepted in it runs, and otherwise not before the last of them has ended, whether a session
is opened again or not; two sessions that are settled in turn change it twice. The model's choices: a session is settled at its
close, at that of a later one or at a boundary (log 184), the lock lies in the commissioning area and its count stays when it expires (log 69), the salt is opaque (log 70). -/
def Obligations.SessionsFollowTheirRules : Prop :=
  ∀ (len : Nat) (s : State), s.life.released = true → len < 64 →
    (s.mayOpen = false ∨ len < 8 ∨ 32 < len → ∃ t : State, exec (.sessionOpenPassword len) s = .next t ∧ t.regs = s.regs ∧
      t.flash = s.flash ∧ t.fifo = s.fifo ∧ t.sft.pw = []) ∧
    (s.mayOpen = true → 8 ≤ len → len ≤ 32 →
      (s.flash.pwHash = none → s.life.state = 2 → ∃ t : State, exec (.sessionOpenPassword len) s = .next t ∧
        t.pwSession = true ∧ t.flash.pwHash = some (s.pwHash len) ∧ t.rd SFT_SESS_STAT_PW_SET = 1 ∧ t.sft.pw = []) ∧
      (s.flash.pwHash = some (s.pwHash len) → ∃ t : State, exec (.sessionOpenPassword len) s = .next t ∧
        t.pwSession = true ∧ t.flash = { s.flash with pwFails := 0 } ∧ t.sft.pw = [] ∧ t.fifo = s.fifo ∧
        keepsBut s t [SFT_SESS_STAT_ACTIVE, SFT_SESS_STAT_PILOT, SFT_SESS_STAT_FAILS]) ∧
      (∀ h : Nat, s.flash.pwHash = some h → h ≠ s.pwHash len →
        (s.flash.pwFails < 9 → ∃ t : State, exec (.sessionOpenPassword len) s = .next t ∧
          t.flash = { s.flash with pwFails := s.flash.pwFails + 1 } ∧ t.rd SFT_SESS_STAT_FAILS = s.flash.pwFails + 1 ∧
          t.sft.pw = [] ∧ sends s t 0x0D6 0x01 (s.flash.pwFails + 1) ∧ keepsBut s t [SFT_SESS_STAT_FAILS]) ∧
        (s.flash.pwFails = 9 → ∃ t : State, exec (.sessionOpenPassword len) s = .next t ∧ t.flash.pwFails = 10 ∧
          t.flash.lockEnd = some (s.rd REC_MINUTES_MINUTES + 60) ∧ t.rd SFT_SESS_STAT_LOCKED = 1 ∧
          t.rd SFT_SESS_STAT_LOCK_MIN = 60 ∧ t.mayOpen = false ∧ t.sft.pw = [] ∧
          (t.fifo.drop s.fifo.length).map (fun m => (m.source, m.kind)) = [(0x0D6, 0x01), (0x0D6, 0x02)]))) ∧
    (s.flash.lockEnd = none → exec .passwordLockExpiry s = .next s) ∧
    (∀ e : Nat, s.flash.lockEnd = some e → (s.rd REC_MINUTES_MINUTES < e → exec .passwordLockExpiry s = .next s) ∧
      (e ≤ s.rd REC_MINUTES_MINUTES → ∃ t : State, exec .passwordLockExpiry s = .next t ∧
        t.flash = { s.flash with lockEnd := none } ∧ t.rd SFT_SESS_STAT_LOCKED = 0 ∧ t.rd SFT_SESS_STAT_LOCK_MIN = 0 ∧
        keepsBut s t [SFT_SESS_STAT_LOCKED, SFT_SESS_STAT_LOCK_MIN])) ∧
    (s.life.pilot = true → s.mayOpen = true → ∃ t : State, exec .sessionOpenPilot s = .next t ∧ t.rd SFT_SESS_STAT_ACTIVE = 1 ∧
      t.rd SFT_SESS_STAT_PILOT = 1 ∧ t.sft.pw = [] ∧
      t.sft.changed = (decide (s.rd SFT_SESS_STAT_ACTIVE ≠ 0) && s.sft.changed) ∧ t.sft.closing = s.sft.closing ∧
      keepsBut s t [SFT_SESS_STAT_ACTIVE, SFT_SESS_STAT_PILOT]) ∧
    (s.life.pilot = false ∨ s.mayOpen = false → ∃ t : State, exec .sessionOpenPilot s = .next t ∧ t.sft.pw = [] ∧
      { t with sft := s.sft } = s) ∧
    (s.pwSession = true → 8 ≤ len → len ≤ 32 → ∃ t : State, exec (.sessionSetPassword len) s = .next t ∧
      t.flash.pwHash = some (s.pwHash len) ∧ t.rd SFT_SESS_STAT_PW_SET = 1) ∧
    (s.pwSession = false ∨ len < 8 ∨ 32 < len → ∃ t : State, exec (.sessionSetPassword len) s = .next t ∧
      { t with sft := s.sft } = s) ∧
    (s.sft.changed = false → s.sft.closing = [] → ∃ t : State, exec .sessionClose s = .next t ∧ t.flash = s.flash ∧
      (s.rd SFT_SESS_STAT_ACTIVE ≠ 0 → t.rd SFT_SESS_STAT_ACTIVE = 0 ∧ t.rd SFT_SESS_STAT_PILOT = 0) ∧
      keepsBut s t [SFT_SESS_STAT_ACTIVE, SFT_SESS_STAT_PILOT]) ∧
    ((∃ f ∈ s.ring.flights, f.sess = s.sft.sessNo ∧ f.stage = .accepted ∧ f.ended = false) → s.rd SFT_SESS_STAT_ACTIVE ≠ 0 →
      s.sft.closing = [] → ∃ t : State, exec .sessionClose s = .next t ∧ t.flash = s.flash ∧
      t.sft.closing = [⟨s.sft.sessNo, decide (s.rd SFT_SESS_STAT_PILOT ≠ 0), s.sft.changed⟩] ∧
      t.rd SFT_SESS_STAT_ACTIVE = 0 ∧ t.rd SFT_SESS_STAT_PILOT = 0 ∧ t.sft.epochNext = s.sft.epochNext) ∧
    (∀ (after : Nat → Nat) (e : Nat), (∀ n : Nat, after n = if n < s.rd SFT_SESS_EPOCH_EPOCH then s.rd SFT_SESS_EPOCH_EPOCH else n + 1) →
      e = s.sft.epochNext.getD (s.rd SFT_COMM_EPOCH_EPOCH) → s.sft.changed = true → s.rd SFT_SESS_STAT_ACTIVE ≠ 0 →
      (∀ f ∈ s.ring.flights, f.stage = .accepted → f.ended = true) →
      (s.sft.closing = [] → ∃ t : State, exec .sessionClose s = .next t ∧ t.flash.epoch = after e ∧
        t.sft.epochNext = some (after e) ∧ t.rd SFT_SESS_STAT_ACTIVE = 0 ∧ t.rd SFT_COMM_EPOCH_EPOCH = s.rd SFT_COMM_EPOCH_EPOCH) ∧
      (∀ a : Account, s.sft.closing = [a] → a.changed = true → ∃ t : State, exec .sessionClose s = .next t ∧
        t.flash.epoch = after (after e) ∧ t.sft.epochNext = some (after (after e)) ∧ t.sft.closing = [])) ∧
    (s.sft.ms < s.sft.lastUse + 600000 → exec .sessionTimeout s = .next s) ∧
    (s.sft.lastUse + 600000 ≤ s.sft.ms → s.sft.changed = false → s.sft.closing = [] → ∃ t : State, exec .sessionTimeout s = .next t ∧
      (s.rd SFT_SESS_STAT_ACTIVE ≠ 0 → t.rd SFT_SESS_STAT_ACTIVE = 0 ∧ t.rd SFT_SESS_STAT_PILOT = 0) ∧
      keepsBut s t [SFT_SESS_STAT_ACTIVE, SFT_SESS_STAT_PILOT])

/-- The check value of a pilot session (R333): a descriptor that waits goes ahead where the value written is the one the device
computed, and completes REFUSED_LOCK where it differs or nothing comes within 60 s. -/
def Obligations.PilotValuesAreCompared : Prop :=
  ∀ (v crc t0 : Nat) (f : Flight) (s : State), s.life.released = true → v < 2 ^ 32 →
    (s.sft.pilotWait = [] → exec .pilotConfirmTimeout s = .next s ∧ exec (.sftPilotCrcWrite v) s = .next s) ∧
    (s.oneAtWork f 8 → s.sft.pilotWait = [(f.id, crc, t0)] →
      (s.sft.ms < t0 + 60000 → exec .pilotConfirmTimeout s = .next s) ∧
      (t0 + 60000 ≤ s.sft.ms → ∃ t : State, exec .pilotConfirmTimeout s = .next t ∧ completes s t 8 f.desc 3 0 0 ∧
        t.sft.pilotWait = [] ∧ t.gko = s.gko) ∧
      (v ≠ crc → ∃ t : State, exec (.sftPilotCrcWrite v) s = .next t ∧ completes s t 8 f.desc 3 0 0 ∧ t.sft.pilotWait = [] ∧
        t.gko = s.gko ∧ t.flash = s.flash) ∧
      (v = crc → ∃ t : State, exec (.sftPilotCrcWrite v) s = .next t ∧ completes s t 8 f.desc 0 0 0 ∧ t.sft.pilotWait = [] ∧
        t.flash.env = some f.buf ∧ t.rd GKO_ENV_CTL_LOADED = 1))

/-- Host-wait and the end of start-up (R407, R417): the host-wait time-out is a FALLBACK demand, collected until start-up ends; at
T0 + 120 ms start-up ends, and a cause collected then takes a healthy module to FALLBACK. -/
def Obligations.StartUpEnds : Prop :=
  ∀ (s : State), s.life.released = true →
    (s.rd LCS_BOOT_HW_RUN = 0 ∨ s.sft.ms < s.rd SFT_HOSTWAIT_MS → exec .hostWait s = .next s) ∧
    (s.rd LCS_BOOT_HW_RUN ≠ 0 → s.rd SFT_HOSTWAIT_MS ≤ s.sft.ms → s.rd LCS_BOOT_ENDED = 0 →
      ∃ t : State, exec .hostWait s = .next t ∧ t.rd LCS_BOOT_HW_RUN = 0 ∧ t.rd LCS_BOOT_HW_EXP = 1 ∧
        sends s t 0x0D7 0x01 (s.rd SFT_HOSTWAIT_MS) ∧ (∃ r : CauseRef, t.sft.collected = s.sft.collected ++ [(false, r)]) ∧
        keepsBut s t [LCS_BOOT_HW_RUN, LCS_BOOT_HW_EXP]) ∧
    (s.sft.ms < 120 ∨ s.rd LCS_BOOT_ENDED ≠ 0 → exec .startupDeadline s = .next s) ∧
    (120 ≤ s.sft.ms → s.rd LCS_BOOT_ENDED = 0 → s.healthy = true →
      (s.sft.collected = [] → ∃ t : State, exec .startupDeadline s = .next t ∧ t.rd LCS_BOOT_ENDED = 1 ∧
        keepsBut s t [LCS_BOOT_ENDED, SFT_SK_HEALTH_FAIL, SFT_MODE_SK_HEALTHY]) ∧
      (∀ r : CauseRef, s.sft.collected = [(false, r)] → s.rd SFT_MODE_MODE ≤ 1 → s.bst.tests = [] →
        ∃ t : State, exec .startupDeadline s = .next t ∧ t.rd LCS_BOOT_ENDED = 1 ∧ t.rd SFT_MODE_MODE = 2 ∧
          t.sft.collected = [] ∧ t.rd LCS_BOOT_HW_RUN = 0))

/-- The monitors (R37, R336, R370, R423): a period, a scan clock, the PLL or a supply out of its limits is reported, with nothing
else changed outside the island, but that VDD_CORE under its limit is a power-fail (R365); in its limits nothing happens.

The Skink pattern is watched (R310): a pass that finds its check value changed makes the image invalid and says so, whether
the image was valid still or not; a new envelope has check 3 made again, which fails without one. That only a pattern that
has passed every check once is compared, and that a mismatch SRAM_ERR shows already is no new one, are the model's choices,
log 187; a supply's tolerance (log 98), one TICK_PERIOD for each boundary (log 99), what a pass finds as an operand (log 19). -/
def Obligations.MonitorsAndSkink : Prop :=
  (∀ (us sca scb rail mv : Nat) (s : State), s.life.released = true → us < 2 ^ 16 → sca < 2 ^ 20 → scb < 2 ^ 20 → rail < 6 → mv < 2 ^ 16 →
    s.rd LCS_BOOT_ENDED = 0 →
    (s.periodBad us = false ∨ s.tick.step ≠ 0 ∨ s.tick.periodSent = true → exec (.tickPeriod us) s = .next s) ∧
    (s.periodBad us = true → s.tick.step = 0 → s.tick.periodSent = false →
        100 * (320 * (s.period : Int) + s.tick.applied) ≤ 32000 * (us : Int) →
      ∃ t : State, exec (.tickPeriod us) s = .next t ∧ sends s t 0x0DF 0x01 us ∧ t.tick = { s.tick with periodSent := true } ∧
        t.regs = s.regs) ∧
    (304000 ≤ sca → sca ≤ 336000 → 304000 ≤ scb → scb ≤ 336000 →
      ∃ t : State, exec (.scanClockCheck sca scb) s = .next t ∧ t.fifo = s.fifo ∧ t.sft.clkBad = false ∧
        keepsBut s t [SFT_SK_HEALTH_FAIL, SFT_MODE_SK_HEALTHY]) ∧
    (sca < 304000 ∨ 336000 < sca → 304000 ≤ scb → scb ≤ 336000 →
      ∃ t : State, exec (.scanClockCheck sca scb) s = .next t ∧ sends s t 0x0DF 0x04 1 ∧ t.rd SFT_MODE_SK_HEALTHY = 0 ∧
        keepsBut s t [SFT_SK_HEALTH_FAIL, SFT_MODE_SK_HEALTHY]) ∧
    (∃ t : State, exec .pllUnlock s = .next t ∧ sends s t 0x0DF 0x02 0 ∧ t.rd SFT_MODE_SK_HEALTHY = 0 ∧
      keepsBut s t [SFT_SK_HEALTH_FAIL, SFT_MODE_SK_HEALTHY]) ∧
    (∃ t : State, exec .pllLocked s = .next t ∧ t.fifo = s.fifo ∧ t.sft.pllBad = false ∧
      keepsBut s t [SFT_SK_HEALTH_FAIL, SFT_MODE_SK_HEALTHY]) ∧
    (∀ lo hi : Nat, [(2650, 5700), (715, 795), (860, 955), (860, 955), (1145, 1275), (1680, 1950)].getD rail (0, 0) = (lo, hi) →
      (mv ≤ lo → rail ≠ 1 ∨ s.rcd.pf ≠ none → ∃ t : State, exec (.supplyThresholdCrossing rail false mv) s = .next t ∧
        sends s t (0x0C2 + rail) 0x01 mv ∧ { t with freeCtr := s.freeCtr, fifo := s.fifo, flt := s.flt } = s) ∧
      (mv ≤ lo → rail = 1 → s.rcd.pf = none → s.rcd.frozenAt = none → s.rcd.hold = [] → s.rcd.buffer = [] → s.rcd.prog = none →
        s.rcd.dropRun = 0 → s.rcd.next < 2 ^ 31 → ∃ (t : State) (q : Rec),
          exec (.supplyThresholdCrossing rail false mv) s = .next t ∧ sends s t 0x0C3 0x01 mv ∧ t.rcd.buffer = [q] ∧
          q.type = 6 ∧ q.number = s.rcd.next ∧ t.rcd.pf = some 64 ∧ t.rcd.flushing = true ∧ t.regs = s.regs ∧
          t.flash = s.flash) ∧
      (hi ≤ mv → ∃ t : State, exec (.supplyThresholdCrossing rail true mv) s = .next t ∧ sends s t (0x0C2 + rail) 0x02 mv ∧
        onlyFieldsAndMessages s t []) ∧
      (lo + 60 < mv → exec (.supplyThresholdCrossing rail false mv) s = .next s))) ∧
  (∀ (upsets : List (Nat × Nat)) (s : State), s.life.released = true → (Instr.skinkSramCheck upsets).wf = true →
    (s.rd SFT_SK_STAT_SCALE = 0 ∨ s.rd SFT_SK_STAT_VALID = 0 ∧ s.rd SFT_SK_STAT_SRAM_ERR ≠ 0 →
      ∃ t : State, exec (.skinkSramCheck upsets) s = .next t ∧ { t with skink := s.skink } = s) ∧
    (s.rd SFT_SK_STAT_SCALE ≠ 0 → s.rd SFT_SK_STAT_VALID ≠ 0 ∨ s.rd SFT_SK_STAT_SRAM_ERR = 0 → s.rd LCS_BOOT_ENDED = 0 →
      ∃ t : State, exec (.skinkSramCheck []) s = .next t ∧
        if crcOfCells s.skink.pattern 327740 = s.rd SFT_SK_ID_ID then t = s
        else t.rd SFT_SK_STAT_VALID = 0 ∧ t.rd SFT_SK_STAT_SRAM_ERR = 1 ∧ t.rd SFT_MODE_SK_HEALTHY = 0 ∧
          sends s t 0x0D5 0x02 0 ∧
          onlyFieldsAndMessages s t [SFT_SK_STAT_VALID, SFT_SK_STAT_SRAM_ERR, SFT_SK_HEALTH_FAIL, SFT_MODE_SK_HEALTHY]) ∧
    (s.skink.recheck = false → exec .skinkEnvelopeRecheck s = .next s) ∧
    (s.skink.recheck = true → s.rd SFT_SK_STAT_VALID ≠ 0 → s.rd GKO_ENV_CTL_LOADED = 0 → s.rd LCS_BOOT_ENDED = 0 →
      ∃ t : State, exec .skinkEnvelopeRecheck s = .next t ∧ t.rd SFT_SK_STAT_VALID = 0 ∧ t.rd SFT_SK_STAT_REASON = 3 ∧
        t.skink.recheck = false ∧ sends s t 0x0D5 0x01 3 ∧
        keepsBut s t [SFT_SK_STAT_VALID, SFT_SK_STAT_REASON, SFT_SK_HEALTH_FAIL, SFT_MODE_SK_HEALTHY]))

/-- Resets (R401, R402, R423): VSAFE through its release threshold and any other rail below its reset threshold are cold, and so
is a pulse longer than 21 ms; one from 2 µs to 19 ms is warm, one shorter than 0.5 µs is ignored, and what one in between does
is open. Each shows its cause; before T0 the lowest, and what was cold stays cold (the model's reading, log 8). The flash and
the pending life-cycle state survive; the recorder's counts over all but a power-on; the health memory and the bus trims over
a warm reset, with the registers that only a power-on or a cold reset clears; every other block and register starts afresh.
A threshold is met within its tolerance (log 189). VSAFE below its reset threshold resets nothing yet: records and messages not
done are lost, no pin is driven, PINS read 6, and the inputs their biased levels, the model's reading, log 182. The state has no session, whose close could program the flash (R334), and no
freeze or programming, which a reset ends (R369).

RESET_RELEASE starts the module once, with VSAFE there and every rail above its reset threshold, one that fell below through
its release threshold (R398, R405, R423): the sequence has run,
boundary 0 has fallen and its bask has begun with no step of Axolotl, LIMP_N is low, the host-wait timer runs, and the host
link makes its first attempt. That a bask before the training counts as one without a sweep step and without a neighbour step
is the model's reading, log 169; the tolerance of the thresholds is log 189. -/
def Obligations.ResetsAndRelease : Prop :=
  (∀ (c : Instr) (n rail mv ns : Nat) (b : Bool) (s : State), s.rd SFT_SESS_STAT_ACTIVE = 0 → s.sft.closing = [] →
    s.rcd.frozenAt = none → s.rcd.hold = [] → s.rcd.prog = none → rail < 6 → mv < 2 ^ 16 →
    (c = .vsafePowerOn mv ∧ 2548 ≤ mv ∧ n = 1 ∨ 0 ∉ s.life.low ∧ (
      c = .railBelowReset rail mv ∧ 1 ≤ rail ∧ mv ≤ [0, 710, 850, 850, 1130, 1632].getD rail 0 ∧ n = 2 ∨
      c = .resetNPulse ns b ∧ (21000000 < ns ∨ 19000000 ≤ ns ∧ b = true) ∧ n = 3 ∨
      c = .resetNPulse ns b ∧ (2000 ≤ ns ∧ ns < 19000000 ∨ 500 ≤ ns ∧ ns < 2000 ∧ b = true ∨
        19000000 ≤ ns ∧ ns ≤ 21000000 ∧ b = false) ∧ n = 4) →
      ∀ (cold : Bool) (cause : Nat), cold = (decide (n ≠ 4) || (!s.life.released && s.rd LCS_RESET_WARM == 0)) →
        cause = (if s.life.released then n else min n (s.rd LCS_RESET_CAUSE)) →
        ∃ t : State, exec c s = .next t ∧ t.rd LCS_RESET_CAUSE = cause ∧ t.rd LCS_RESET_WARM = flag !cold ∧
          (∀ g : Fld, g.key ≠ LCS_RESET_CAUSE.key → g.key ≠ LCS_RESET_WARM.key →
            t.rd g = if keepsField cold cause g.key then s.rd g else g.reset) ∧
          t.rd REC_MINUTES_MINUTES = (if cause = 1 then 0 else s.rd REC_MINUTES_MINUTES) ∧
          (cold = true → t.rd REC_CTL_MODE = State.reset.rd REC_CTL_MODE ∧ t.rd REC_PF_PF_MV = State.reset.rd REC_PF_PF_MV) ∧
          (cold = false → t.rd REC_CTL_MODE = s.rd REC_CTL_MODE ∧ t.rd REC_PF_PF_MV = s.rd REC_PF_PF_MV) ∧
          t.rcd = { s.rcd with lastEnd := t.rcd.lastEnd } ∧
          t.life.low = (if cause = 1 then [1, 2, 3, 4, 5] else if n = 2 ∧ rail ∉ s.life.low then rail :: s.life.low
            else s.life.low) ∧
          t = { State.reset with
            pending := s.pending, regs := t.regs, flash := s.flash, rcd := t.rcd
            life := { state := s.life.pending, pending := s.life.pending, low := t.life.low }
            pix := if cold then {} else { health := s.pix.health }
            cal := if cold then {} else { busTrim := s.cal.busTrim }
            jtag := { held := s.jtag.held }
            freeCtr := s.freeCtr }) ∧
    (c = .vsafePowerOn mv ∧ mv < 2548 ∨ c = .railBelowReset rail mv ∧ 1 ≤ rail ∧ [0, 710, 850, 850, 1130, 1632].getD rail 0 < mv ∨
      c = .resetNPulse ns b ∧ (ns < 500 ∨ ns < 2000 ∧ b = false) ∨
      0 ∈ s.life.low ∧ (c = .railBelowReset rail mv ∧ 1 ≤ rail ∨ c = .resetNPulse ns b ∨ ∃ x : StartIn, x.rails.length = 6 ∧
        (Instr.resetRelease x).wf = true ∧ c = .resetRelease x) ∨ c = .vsafeBelowReset mv ∧ 2550 < mv → exec c s = .next s) ∧
    (mv ≤ 2550 → ∃ t : State, exec (.vsafeBelowReset mv) s = .next t ∧ t.life.released = false ∧ t.rd SFT_INPUTS_PINS = 6 ∧
      t.rd SFT_INPUTS_HBP = 0 ∧ t.rd SFT_INPUTS_LBF = 1 ∧ t.rd SFT_INPUTS_PERMIT = flag t.permitNow ∧
      t.life.low = [0, 1, 2, 3, 4, 5] ∧ (∀ pin < 10, t.debugPin pin = none) ∧ (∀ loaded : Bool, t.faultLow loaded = false) ∧
      t.sft.limpHigh = false ∧ t.fifo = [] ∧ t.flt = { sent := s.flt.sent } ∧
      t.rcd = { s.rcd with
        buffer := [], hold := [], prog := none, tries := 0, flushing := false, frozenAt := none, pfFlush := none } ∧
      (s.rcd.pfFlush = none → t.flash = s.flash) ∧
      keepsBut s t [SFT_INPUTS_PINS, SFT_INPUTS_HBP, SFT_INPUTS_LBF, SFT_INPUTS_PERMIT] ∧
      { t with regs := s.regs, flash := s.flash, rcd := s.rcd, life := s.life, sft := s.sft, fifo := s.fifo, flt := s.flt } = s)) ∧
  (∀ (x : StartIn) (s : State), (Instr.resetRelease x).wf = true →
    ∀ least : Nat → Nat, (∀ i : Nat, least i = if i ∈ s.life.low then [2548, 700, 845, 845, 1130, 1627].getD i 0
      else [2451, 691, 831, 831, 1111, 1569].getD i 0) →
    (s.life.released = true ∨ 0 ∈ s.life.low ∨ (∃ i < 6, x.rails.getD i 0 < least i) → exec (.resetRelease x) s = .next s) ∧
    (s.life.released = false → 0 ∉ s.life.low → (∀ i < 6, least i ≤ x.rails.getD i 0) →
      ∃ t : State, exec (.resetRelease x) s = .next t ∧ t.life.released = true ∧ t.life.low = [] ∧ t.life.state = s.life.state ∧
        t.tick.count = s.tick.count ∧ t.tick.time = s.tick.time ∧ t.rd TCK_ROWPOS_BASK = 1 ∧ t.rd SFT_MODE_LIMP = 1 ∧
        t.rd LCS_RESET_EARLY = x.early ∧ t.rd LCS_BOOT_HW_RUN = 1 ∧ t.rd LNK_STAT_ATTEMPT = 1 ∧
        t.rd SFT_COMM_EPOCH_EPOCH = s.flash.epoch ∧ t.pending = s.pending ∧
        (s.rd AXL_SKIP_SWEEP < 200 → t.rd AXL_SKIP_SWEEP = s.rd AXL_SKIP_SWEEP + 1)))

/-- The event recorder (R358–R369): a record programmed well is in its slot and out of the buffer; an erase that ends frees its
block; a freeze ends after 2 s; VSAFE below PF_MV is a power-fail, which ends a freeze, takes the records held into the buffer
ahead of its own, and flushes, on A1 slowly where VSAFE starts below 3.0 V (R450); minutes count. That PF_MV is met within 2 % is
log 186. -/
def Obligations.RecordsAreProgrammed : Prop :=
  ∀ (r : Rec) (vsafe : Nat) (s : State), s.life.released = true → vsafe < 2 ^ 16 →
    (s.rcd.prog = none → ∀ ok : Bool, exec (.recordProgrammed ok) s = .next s) ∧
    (s.rcd.prog = some r.number → s.rcd.buffer = [r] → s.rcd.hold = [] → s.rcd.pf = none → s.rcd.pfFlush = none → 128 ≤ r.number → r.type ≠ 6 →
      ∃ t : State, exec (.recordProgrammed true) s = .next t ∧ t.rcd.buffer = [] ∧ t.rcd.prog = none ∧
        Keyed.get t.flash.slots .torn s.flash.recAt = .valid r ∧ t.flash.recAt = slotAfter s.flash.recAt ∧
        t.rcd.flushing = false ∧ t.regs = s.regs ∧ t.flash.env = s.flash.env) ∧
    (∀ b : Nat, s.rcd.erasing = some b → s.rcd.suspended = false → ∃ t : State, exec .blockEraseDone s = .next t ∧
      t.rcd.erasing = none ∧ (∀ p ∈ t.flash.slots, p.1 / 2048 ≠ b) ∧ t.regs = s.regs) ∧
    (s.rcd.erasing = none ∨ s.rcd.suspended = true → exec .blockEraseDone s = .next s) ∧
    (s.rcd.frozenAt = none → exec .freezeTimeout s = .next s) ∧
    (∀ t0 : Nat, s.rcd.frozenAt = some t0 → (s.sft.ms < t0 + 2000 → exec .freezeTimeout s = .next s) ∧
      (t0 + 2000 ≤ s.sft.ms → s.rcd.hold = [] → s.rcd.holdDrops = 0 → ∃ t : State, exec .freezeTimeout s = .next t ∧
        t.rcd.frozenAt = none ∧ t.rcd.lastEnd = some s.sft.ms ∧ t.rd REC_STAT_FREEZE_TO = 1 ∧ sends s t 0x0E0 0x03 0 ∧
        keepsBut s t [REC_STAT_FREEZE_TO])) ∧
    (∀ lim : Nat, lim = (if s.rd REC_PF_PF_MV < 2800 then 2800 else if 5000 < s.rd REC_PF_PF_MV then 5000 else s.rd REC_PF_PF_MV) →
     (s.rcd.pf ≠ none ∨ 102 * lim < 100 * vsafe → exec (.powerFail vsafe) s = .next s) ∧
     (100 * vsafe ≤ 102 * lim → s.rcd.pf = none → s.rcd.hold = [r] → s.rcd.buffer = [] → s.rcd.prog = none →
      s.rcd.next < 2 ^ 31 → ∃ (t : State) (q : Rec), exec (.powerFail vsafe) s = .next t ∧ t.rcd.buffer = [r, q] ∧
        t.rcd.hold = [] ∧ t.rcd.frozenAt = none ∧ q.type = 6 ∧ q.number = s.rcd.next ∧ q.extra = 2 ∧ t.rcd.pf = some 64 ∧
        t.rcd.flushing = true ∧ t.regs = s.regs ∧ t.flash = s.flash) ∧
     (100 * vsafe ≤ 102 * lim → s.rcd.pf = none → s.rcd.frozenAt = none → s.rcd.hold = [] → s.rcd.buffer = [] → s.rcd.prog = none →
      s.rcd.next < 2 ^ 31 → ∃ (t : State) (q : Rec), exec (.powerFail vsafe) s = .next t ∧ t.rcd.buffer = [q] ∧ q.type = 6 ∧
        q.number = s.rcd.next ∧ q.extra = 1 ∧ t.rcd.pf = some 64 ∧ t.rcd.flushing = true ∧ t.rcd.next = s.rcd.next + 1 ∧
        t.rcd.suspended = s.rcd.erasing.isSome ∧ t.rcd.slow = decide (s.rd LCS_ID_STEPPING = 1 ∧ vsafe < 3000) ∧ t.regs = s.regs ∧ t.flash = s.flash)) ∧
    (s.rd REC_MINUTES_MINUTES < 2 ^ 31 → ∃ t : State, exec .poweredMinute s = .next t ∧
      t.rd REC_MINUTES_MINUTES = s.rd REC_MINUTES_MINUTES + 1 ∧
      ((s.rd REC_MINUTES_MINUTES + 1) % 60 ≠ 0 → onlyFields s t [REC_MINUTES_MINUTES, SFT_SESS_STAT_LOCK_MIN]) ∧
      (∀ e : Nat, s.flash.lockEnd = some e →
        t.rd SFT_SESS_STAT_LOCK_MIN = (e - t.rd REC_MINUTES_MINUTES) % 2 ^ SFT_SESS_STAT_LOCK_MIN.width) ∧
      ((s.rd REC_MINUTES_MINUTES + 1) % 60 = 0 → s.rcd.pf = none → s.rcd.next < 2 ^ 31 → t.rcd.next = s.rcd.next + 1))

/-- A record whose programming fails (R364): it is programmed again into the next slot and PROG_FAIL counts; after three failures
PROGRAM_FAIL is sent, the record is dropped, and the recorder goes on with the next one. The slot of a failed attempt is left torn
(R367). That a record lost so is not counted in REC_CNT.DROPPED is the model's reading, log 68. -/
def Obligations.FailedProgrammingIsRepeated : Prop :=
  ∀ (r : Rec) (rest : List Rec) (s : State), s.life.released = true → s.rcd.prog = some r.number → s.rcd.buffer = r :: rest →
    (∀ q ∈ rest, q.number ≠ r.number) → s.rd REC_TORN_PROG_FAIL < 200 →
    (s.rcd.tries < 2 → ∃ t : State, exec (.recordProgrammed false) s = .next t ∧ t.rcd.buffer = r :: rest ∧
      t.rcd.prog = some r.number ∧ t.rcd.tries = s.rcd.tries + 1 ∧
      t.slotFor r.number = (if r.number < 128 then s.slotFor r.number + 1 else slotAfter (s.slotFor r.number)) ∧
      Keyed.get t.flash.slots (.valid r) (s.slotFor r.number) = .torn ∧
      t.rd REC_TORN_PROG_FAIL = s.rd REC_TORN_PROG_FAIL + 1 ∧ t.fifo = s.fifo ∧ keepsBut s t [REC_TORN_PROG_FAIL]) ∧
    (2 ≤ s.rcd.tries → s.rcd.hold = [] → s.rcd.erasing = none → ∃ t : State, exec (.recordProgrammed false) s = .next t ∧
      t.rcd.buffer = rest ∧
      (rest = [] → t.rcd.prog = none) ∧
      (∀ q : Rec, rest = [q] → s.rd REC_CTL_MODE = 0 ∨ s.rcd.flushing = true → t.rcd.prog = some q.number ∧ t.rcd.tries = 0) ∧
      Keyed.get t.flash.slots (.valid r) (s.slotFor r.number) = .torn ∧
      t.rd REC_TORN_PROG_FAIL = s.rd REC_TORN_PROG_FAIL + 1 ∧ sends s t 0x0E0 0x05 r.number ∧ keepsBut s t [REC_TORN_PROG_FAIL])

/-! ### Check-value units, self-test, and background work that ends (R158, R161, R211–R220, R251, R253, R373–R390) -/

/-- A check-value unit computes the algorithm of the table of R388 that ALGO selects: started, given any number of data writes of
one, two or four bytes and then asked for RESULT, it answers the remainder of dividing the bits of all those bytes, in the
order they were written (R389, R390), and nothing but the unit changes. START loads the initial value; a data write joins
the two entries that wait, where there is room. CRC_RUN takes the same numbers, and the check values
of "123456789" are those of the table.

VALUE is set by a write, which the bytes that wait precede (R389, R390); read back it shows the bits of the algorithm's width. -/
def Obligations.CrcUnitsComputeTheirAlgorithm : Prop :=
  ((∀ (u algo : Nat) (ws : List (Nat × Nat)) (s : State), s.life.released = true → u < 4 → algo < 4 → s.crc.queues.length = 4 →
    (∀ w ∈ ws, (w.1 = 1 ∨ w.1 = 2 ∨ w.1 = 4) ∧ w.2 < 256 ^ w.1) →
    ∃ t : State, execAll ([.crcStart u (algo + 4)] ++ ws.map (fun w => .crcDataWrite u w.1 w.2) ++ [.crcRead u true]) s = .next t ∧
      t.data = crcRow algo (ws.flatMap (fun w => leBytes w.1 w.2)) ∧ t.rd (CRC_CTL_ALGO u) = algo ∧
      keepsBut s t [CRC_CTL_ALGO u, CRC_VALUE_VALUE u] ∧ { t with regs := s.regs, crc := s.crc, data := s.data } = s) ∧
  (∀ (u algo : Nat) (s : State), s.life.released = true → u < 4 → algo < 4 → s.crc.queues.length = 4 →
    ∃ t : State, exec (.crcStart u (algo + 4)) s = .next t ∧ t.rd (CRC_CTL_ALGO u) = algo ∧
      t.rd (CRC_VALUE_VALUE u) = [0xFFFFFFFF, 0xFFFFFFFF, 0xFFFF, 0xFF].getD algo 0 ∧ t.crc.queues = s.crc.queues.set u [] ∧
      keepsBut s t [CRC_CTL_ALGO u, CRC_VALUE_VALUE u] ∧ { t with regs := s.regs, crc := s.crc } = s) ∧
  (∀ (u n v : Nat) (s : State), s.life.released = true → u < 4 → (n = 1 ∨ n = 2 ∨ n = 4) → v < 256 ^ n →
    s.crc.queues.length = 4 → (s.crc.queues.getD u []).length < 2 →
    ∃ t : State, exec (.crcDataWrite u n v) s = .next t ∧
      t.crc.queues = s.crc.queues.set u (s.crc.queues.getD u [] ++ [leBytes n v]) ∧ { t with crc := s.crc } = s) ∧
  (∀ (f : Flight) (bs : List Nat), (∀ b ∈ bs, b < 256) → f.arg 1 / 256 % 2 = 0 → crcRunValue f bs = crcRow (f.arg 1 % 4) bs) ∧
  (∀ p ∈ [(0, 0xE3069283), (1, 0xCBF43926), (2, 0x29B1), (3, 0x4B)],
    crcRow p.1 [0x31, 0x32, 0x33, 0x34, 0x35, 0x36, 0x37, 0x38, 0x39] = p.2)) ∧
  (∀ (u v : Nat) (s : State), s.life.released = true → u < 4 → v < 2 ^ 32 → s.crc.queues.length = 4 →
    ∃ t : State, exec (.crcValueWrite u v) s = .next t ∧ t.rd (CRC_VALUE_VALUE u) = v ∧ t.crcQueue u = [] ∧
      keepsBut s t [CRC_VALUE_VALUE u] ∧
      ∃ q : State, exec (.crcRead u false) t = .next q ∧ q.data = v % 2 ^ (Algo.numbered (s.rd (CRC_CTL_ALGO u))).width)

/-- The self-test controller (R375, R382–R385): a start that is not allowed is refused with its offset shown; an accepted one runs;
an abort cuts short every test whose patterns have not all been folded; a test that runs to its end shows COMPLETE, PASS
where no pattern failed, and the signature over all result words and the trailer; a pattern outside its limit shows its index
and the value measured, and TEST_FAIL goes out. How many patterns a cut test has executed since the last boundary is free, and
what is measured is the command's operand (log 190). -/
def Obligations.TestsStartAndEnd : Prop :=
  ∀ (num : Nat) (x : Test) (s : State), s.life.released = true → num < 256 →
    (fullState s.life.state = false ∨ s.bst.tests ≠ [] → ∃ t : State, exec (.bstStartGo num) s = .next t ∧
      t.rd BST_START_TEST = num ∧ t.rd BST_STAT_REFUSED_WR = 1 ∧ t.rd BST_REFUSED_ADDR_OFFSET = BST_START_GO.off ∧
      onlyFields s t [BST_START_TEST, BST_STAT_REFUSED_WR, BST_REFUSED_ADDR_OFFSET]) ∧
    (fullState s.life.state = true → s.bst.tests = [] → num < 16 →
      s.testRefusal num (s.rd BST_RGN_LO_REGIONS + 2 ^ 32 * s.rd BST_RGN_HI_REGIONS) true = none →
      ∃ t : State, exec (.bstStartGo num) s = .next t ∧ t.bst.tests.map (fun y => y.num) = [num] ∧ t.rd BST_STAT_RUNNING = 1 ∧
        t.rd BST_STAT_ORIGIN = 1 ∧ t.rd BST_RESULT_TEST = num ∧ t.rd BST_RESULT_COMPLETE = 0 ∧ t.rd BST_EXEC_COUNT = 0) ∧
    (s.bst.tests = [] → exec .bstAbort s = .next s ∧ exec (.bistTestEnd []) s = .next s) ∧
    (s.bst.tests = [x] → x.desc = none → x.shown = true →
      (x.expect ≤ x.exec → exec .bstAbort s = .next s) ∧
      (x.exec < x.expect → ∃ t : State, exec .bstAbort s = .next t ∧ t.bst.tests = [] ∧ t.rd BST_STAT_RUNNING = 0 ∧
        t.rd BST_RESULT_ABORTED = 1 ∧ t.rd BST_RESULT_COMPLETE = s.rd BST_RESULT_COMPLETE ∧
        (∃ m ∈ t.fifo, m.source = 0x0F0 + x.num ∧ m.kind = 0x02 ∧ m.addr = 0) ∧ x.exec ≤ t.rd BST_EXEC_COUNT) ∧
      (x.exec < x.expect → x.expect < 2 ^ 32 → x.wait < 200 → x.started = false → x.num < 16 → groupTest x.num = false →
        ∃ t : State, exec .bstAbort s = .next t ∧ t.bst.tests = [] ∧ t.rd BST_EXEC_COUNT = x.exec ∧
        t.rd BST_SIG_CRC = Algo.final .crc32c (Algo.feedAll .crc32c x.crc (leBytes 4 x.exec ++
          [if 0 < x.fails then 2 else 0, 0, 0, 0])) % 2 ^ 32 ∧ sends s t (0x0F0 + x.num) 0x02 0 ∧
        onlyFieldsAndMessages s { t with bst := s.bst } [BST_RESULT_ABORTED, BST_SIG_CRC, BST_STAT_RUNNING, BST_EXEC_COUNT,
          BST_STAT_GROUP, BST_STAT_WAIT]) ∧
      (s.atEnd x = false → exec (.bistTestEnd []) s = .next s) ∧
      (s.atEnd x = true → x.exec ≤ x.expect → x.expect < 2 ^ 24 → x.fails = 0 → x.first = none → x.wait < 200 → x.num < 16 →
        (x.num = 9 → x.exec = x.expect) → (x.num = 7 → s.flashFails = []) →
        (∃ t : State, exec (.bistTestEnd []) s = .next t ∧ t.bst.tests = [] ∧ t.rd BST_STAT_RUNNING = 0 ∧
          t.rd BST_RESULT_COMPLETE = 1 ∧ t.rd BST_RESULT_PASS = 1 ∧ t.rd BST_EXEC_COUNT = x.expect ∧ t.fifo = s.fifo ∧
          t.rd BST_SIG_CRC = Algo.final .crc32c (Algo.feedAll .crc32c x.crc
            ((List.range (x.expect - x.exec)).flatMap (fun k => leBytes 4 (x.exec + k)) ++ leBytes 4 x.expect ++ [1, 0, 0, 0]))
            % 2 ^ 32) ∧
        (∀ i v : Nat, x.exec ≤ i → i < x.expect → v < 2 ^ 32 → outside x.num i v = false →
          exec (.bistTestEnd [(i, v)]) s = exec (.bistTestEnd []) s) ∧
        (∀ i v : Nat, x.exec ≤ i → i < x.expect → v < 2 ^ 32 → outside x.num i v = true → ∃ t : State, exec (.bistTestEnd [(i, v)]) s = .next t ∧
          t.bst.tests = [] ∧ t.rd BST_RESULT_COMPLETE = 1 ∧ t.rd BST_RESULT_PASS = 0 ∧ t.rd BST_RESULT_FAILS = 1 ∧
          t.rd BST_FIRSTFAIL_INDEX = i ∧ t.rd BST_FIRSTFAIL_VALID = 1 ∧ t.rd (BST_FAIL_IDX_INDEX 0) = i ∧
          t.rd (BST_FAIL_VAL_VALUE 0) = v ∧ sends s t (0x0F0 + x.num) 0x01 i)) ∧
      (s.atEnd x = true → x.num = 9 → x.exec < x.expect → x.expect < 2 ^ 24 → x.fails = 0 → x.first = none →
        ∃ t : State, exec (.bistTestEnd []) s = .next t ∧ t.rd BST_RESULT_COMPLETE = 1 ∧ t.rd BST_RESULT_PASS = 0 ∧
          t.rd BST_FIRSTFAIL_INDEX = x.exec))

/-- SYMBOL_LOAD, ENVELOPE_LOAD, RECORDER_READ and CRC_RUN end (R119, R253): the bytes land where they were sent, byte for byte, and
nowhere else, but that a load into the symbol library erases the 64 KiB blocks it touches to 0xFF; a check value that differs
is BAD_ARG; the completion carries the CRC. That data of the local area is written in place is the model's reading, log 81. -/
def Obligations.LoadsEnd : Prop :=
  ∀ (f : Flight) (s : State), s.life.released = true → s.sft.pilotWait = [] →
    (s.oneAtWork f 5 → f.arg 1 = 0 → ∀ bs : List Nat, bs = Cells.take s.flash.library 0xFF (f.arg 2) (f.arg 5) →
      ∃ t : State, exec .symbolLoadDone s = .next t ∧
        (crc32c bs = f.arg 6 → completes s t 5 f.desc 0 0 (crc32c bs)) ∧
        (crc32c bs ≠ f.arg 6 → completes s t 5 f.desc 5 2 (crc32c bs)) ∧ t.flash = s.flash ∧
        (∀ k < f.arg 5, Cells.get t.comp.area 0 (f.arg 4 + k) = bs.getD k 0) ∧
        (∀ k : Nat, k < f.arg 4 ∨ f.arg 4 + f.arg 5 ≤ k → Cells.get t.comp.area 0 k = Cells.get s.comp.area 0 k)) ∧
    (s.oneAtWork f 5 → f.arg 1 = 3 → ∀ bs : List Nat, bs = Cells.take f.buf 0 0 (f.arg 5) →
      (crc32c bs ≠ f.arg 6 → ∃ t : State, exec .symbolLoadDone s = .next t ∧ completes s t 5 f.desc 5 2 (crc32c bs) ∧
        t.flash = s.flash) ∧
      (crc32c bs = f.arg 6 → f.arg 4 % 65536 = 0 → s.pilotChange f bs = false → f.gate ≠ 2 →
        ∃ t : State, exec .symbolLoadDone s = .next t ∧ completes s t 5 f.desc 0 0 (crc32c bs) ∧
          (∀ k < f.arg 5, Cells.get t.flash.library 0xFF (f.arg 4 + k) = bs.getD k 0) ∧
          (∀ k : Nat, k < f.arg 4 ∨ (f.arg 4 + f.arg 5 + 65535) / 65536 * 65536 ≤ k →
            Cells.get t.flash.library 0xFF k = Cells.get s.flash.library 0xFF k) ∧
          (∀ k : Nat, f.arg 4 + f.arg 5 ≤ k → k < (f.arg 4 + f.arg 5 + 65535) / 65536 * 65536 →
            Cells.get t.flash.library 0xFF k = 0xFF) ∧ t.comp.area = s.comp.area)) ∧
    (s.oneAtWork f 8 → f.gate ≠ 2 → ∃ t : State, exec .envelopeLoadDone s = .next t ∧
      if goodEnvelope f.buf = true then completes s t 8 f.desc 0 0 0 ∧ t.flash.env = some f.buf ∧
        t.rd GKO_ENV_CTL_LOADED = 1 ∧ t.skink.recheck = true
      else completes s t 8 f.desc 5 1 0 ∧ t.flash = s.flash ∧ t.gko = s.gko) ∧
    (s.oneAtWork f 11 → (∀ i < f.arg 2, s.recordOf (f.arg 1 + i) = none) →
      ∃ t : State, exec .recorderReadDone s = .next t ∧ completes s t 11 f.desc 0 0 0 ∧ t.rcd = s.rcd ∧ t.sft = s.sft) ∧
    (∀ r : Rec, s.oneAtWork f 11 → f.arg 2 = 1 → s.recordOf (f.arg 1) = some r →
      ∃ (t : State) (more : List UpPacket), exec .recorderReadDone s = .next t ∧ t.ring.flights = [] ∧
        t.link.upQueue = s.link.upQueue ++ .write (f.arg64 3) ((List.range 8).map (fun i => numAt r.bytes (4 * i) 4)) :: more ∧
        (r.number = s.rd SFT_LOCK_CAUSE_REC → s.sft.causeMsg = none → t.sft.readAt = some s.sft.ms)) ∧
    (s.oneAtWork f 13 → crcSpace f = 0 → ∃ t : State, exec .crcRunDone s = .next t ∧
      completes s t 13 f.desc 0 0 (crcRunValue f (Cells.take f.buf 0 0 (f.arg 4))))

/-- A CAL_USER_WRITE as it goes on (R215–R220): data that breaks its limits or its CRC is BAD_ARG and nothing is staged; a held map
group is staged and completes; a write not held goes on to apply, and in a pilot session it waits; the second fetch of
PIXTRIM has to match; a programmed block takes the next sequence number with its check value, and one that fails is reported;
programming waits for a health save that runs and yields to the recorder. The model's readings: a command that comes while it
waits does nothing (log 151); a held map group ends at staging with PERSIST 1 too, and programs nothing (log 199); the number is under the check value (log 143); what stays in force when programming fails (log
75). -/
def Obligations.CalibrationIsWritten : Prop :=
  ∀ (f : Flight) (w : CalWrite) (s : State), s.life.released = true → s.sft.pilotWait = [] → s.oneAtWork f 9 → s.cal.write = some w → w.id = f.id →
    (w.phase = 1 → w.waits = false →
      (crcOfCells f.buf (groupSize w.group) ≠ w.crc ∨ badGroup w.group f.buf = true →
        ∃ t : State, exec .calFirstPassDone s = .next t ∧ completes s t 9 f.desc 5 2 0 ∧ t.cal = { s.cal with write := none } ∧
          t.rd CAL_USER_STAT_BUSY = 0) ∧
      (crcOfCells f.buf (groupSize w.group) = w.crc → badGroup w.group f.buf = false →
        (f.gate ≠ 2 → w.group = 4 → w.hold = true →
          ∃ t : State, exec .calFirstPassDone s = .next t ∧ completes s t 9 f.desc 0 0 0 ∧ t.cal.write = none ∧
            Keyed.get t.cal.staged [] 4 = Cells.take f.buf 0 0 4 ∧ t.rd CAL_AIM_AIM_H = s.rd CAL_AIM_AIM_H) ∧
        (f.gate ≠ 2 → w.group = 4 → w.hold = false →
          ∃ t : State, exec .calFirstPassDone s = .next t ∧ t.ring.flights = [f] ∧ t.cal.write = some { w with phase := 2 } ∧
            t.rd CAL_USER_STAT_PHASE = 2 ∧ Keyed.get t.cal.staged [] 4 = Cells.take f.buf 0 0 4) ∧
        (f.gate = 2 →
          ∃ t : State, exec .calFirstPassDone s = .next t ∧ t.sft.pilotWait = [(f.id, w.crc, s.sft.ms)] ∧
            t.ring.flights = [f] ∧
            t.cal = { s.cal with write := some { w with waits := true } } ∧ t.rd SFT_PILOT_STAT_WAITING = 1))) ∧
    (w.phase = 2 → w.group = 1 → w.persist = false → w.pass2 = false → w.restore = none →
      ∃ t : State, exec .calSecondPassDone s = .next t ∧ t.ring.flights = [f] ∧
        if crcOfCells f.buf 1310720 = w.crc then t.cal.write = some { w with pass2 := true }
        else ∃ old : Cells, t.cal.write = some { w with restore := some old, row := 0 }) ∧
    (w.phase ≠ 3 ∨ w.behind = true ∨ s.rcd.prog ≠ none → ∀ ok : Bool, exec (.calProgramDone ok) s = .next s) ∧
    (w.phase = 3 → w.group = 4 → w.behind = false → s.rcd.prog = none →
      (∃ t : State, exec (.calProgramDone true) s = .next t ∧ completes s t 9 f.desc 0 0 0 ∧ t.cal.write = none ∧
        t.rd CAL_USER_SEQ_MAP = (nextCopy s.flash.map).2 % 65536 ∧ t.cal.dirtyMap = false ∧
        (s.flash.map.length = 2 → ∃ c : Copy, t.flash.map.getD (nextCopy s.flash.map).1 none = some c ∧
          c.seq = (nextCopy s.flash.map).2 ∧ c.bytes = bytesCells s.mapBlock ∧ c.crc = copyCrc 8024 c.seq c.bytes)) ∧
      (∃ t : State, exec (.calProgramDone false) s = .next t ∧ completes s t 9 f.desc 0 0 0 ∧ t.cal.write = none ∧
        t.rd CAL_USER_STAT_ERR = 1 ∧ sends s t 0x0E5 0x03 1))

/-- The health port and the save (R158, R161): a good port write waits for the bask, a bad one is discarded with ERR; a read answers
the word in force; both step the address with AUTOINC. A save is asked for once and ends with its copy and number, or ERR.
The number of a save stops at all ones with FLT_SAT set and no message (R355, R356). The model's readings: a port write stands
over other results on the word (log 140), numbers stand under the check value (log 143), the first save of all writes copy 0 with
number 1 (log 167), which copy was written last (log 196). -/
def Obligations.HealthPortAndSave : Prop :=
  ∀ (b : Bool) (v : Nat) (s : State), s.life.released = true → v < 2 ^ 16 →
    (∀ p next : Nat, p = s.rd AXL_HADDR_PIXEL → next = (if s.rd AXL_HADDR_AUTOINC = 0 then p else if p + 1 < 1310720 then p + 1 else 0) →
      (s.portBad b p v = true → ∃ t : State, exec (.axlHdataWrite b v) s = .next t ∧ t.rd AXL_HPORT_ERR = 1 ∧
        t.rd AXL_HADDR_PIXEL = next ∧ onlyFields s t [AXL_HPORT_ERR, AXL_HADDR_PIXEL]) ∧
      (s.portBad b p v = false → ∃ t : State, exec (.axlHdataWrite b v) s = .next t ∧
        t.pix = { s.pix with queue := s.pix.queue ++ [⟨p, v⟩] } ∧ t.rd AXL_HADDR_PIXEL = next ∧ keepsBut s t [AXL_HADDR_PIXEL]) ∧
      (∃ t : State, exec .axlHdataRead s = .next t ∧ t.data = (if p < 1310720 then s.healthWord p else 0) ∧
        t.rd AXL_HADDR_PIXEL = next ∧ t.pix = s.pix ∧ keepsBut s t [AXL_HADDR_PIXEL])) ∧
    (s.rd AXL_SAVE_BUSY ≠ 0 → ∃ t : State, exec .axlSaveGo s = .next t ∧ t.rd AXL_SAVE_ERR = 1 ∧ onlyFields s t [AXL_SAVE_ERR]) ∧
    (s.rd AXL_SAVE_BUSY = 0 → ∃ t : State, exec .axlSaveGo s = .next t ∧ t.rd AXL_SAVE_BUSY = 1 ∧ t.pix.saveAsked = true ∧
      keepsBut s t [AXL_SAVE_BUSY]) ∧
    (s.pix.saving = none → exec (.healthSaveDone b) s = .next s) ∧
    (∀ (words : Cells) (n : Nat × Nat), s.pix.saving = some words → s.flash.health.length = 2 →
        n = healthCopy s.flash.health (s.rd AXL_SAVE_COPY) →
      (∃ t : State, exec (.healthSaveDone true) s = .next t ∧ t.rd AXL_SAVE_BUSY = 0 ∧ t.pix.saving = none ∧
        t.rd AXL_SAVE_COPY = n.1 ∧ t.rd AXL_SAVE_SEQ = n.2 ∧ n.2 ≤ 65535 ∧
        (∃ c : Copy, t.flash.health.getD n.1 none = some c ∧ c.seq = n.2 ∧
          c.bytes = words ∧ c.crc = copyCrc 1310720 c.seq c.bytes) ∧
        t.flash.health.getD (1 - n.1) none = s.flash.health.getD (1 - n.1) none ∧ t.fifo = s.fifo ∧
        (n.2 = 65535 → s.rd AXL_SAVE_SEQ ≠ 65535 → t.rd FLT_SAT_FLAG ≠ 0) ∧
        (n.2 < 65535 → t.rd FLT_SAT_FLAG = s.rd FLT_SAT_FLAG) ∧
        keepsBut s t [AXL_SAVE_BUSY, AXL_SAVE_COPY, AXL_SAVE_SEQ, FLT_SAT_ADDR, FLT_SAT_FLAG]) ∧
      (∃ t : State, exec (.healthSaveDone false) s = .next t ∧ t.rd AXL_SAVE_BUSY = 0 ∧ t.rd AXL_SAVE_ERR = 1 ∧
        t.pix.saving = none ∧ keepsBut s t [AXL_SAVE_BUSY, AXL_SAVE_ERR]))

/-- Health words change in a bask (R158, R159, R167, R171). A port write that waits lands in the next bask, with DV0 as it stood,
the pixel's kill bit after its state, and WORN reported where the state becomes WORN. A pixel on the list whose reading in the
sweep rows confirms it once more, and often enough, is declared OPEN or SHORT: it is dead, its kill bit and the flag are set,
and it leaves the list. A reading is the true voltage up to the 4,095 mV of the converter (R150); column 63 of a region of die B
reads 6 mV ±1 mV above it on A1 (R451); which of these it is, is left free, log 104. That a port write stands over results on the same word is the model's reading, log 140. -/
def Obligations.BaskAppliesHealth : Prop :=
  ∀ (x : BoundaryIn) (s : State), s.life.released = true → (Instr.tickBoundary x).wf = true → x.ecc = [] →
    (∀ p w old : Nat, s.pix.queue = [⟨p, w⟩] → p < 1310720 → w < 65536 → old = s.healthWord p →
      ∃ t : State, exec (.tickBoundary x) s = .next t ∧ t.pix.queue = [] ∧
        t.healthWord p = (old / 256 * 256 + w % 256) % 65536 ∧ Cells.get t.pix.kill 0 p = (if 3 ≤ w % 8 then 1 else 0) ∧
        (w % 8 = 1 → old % 8 ≠ 1 → t.rd (PXD_FLAGS_WORN (regionOf p)) = 1 ∧
          ∃ m ∈ t.fifo, m.source = regionOf p ∧ m.kind = 0x06 ∧ m.addr = localAddr p)) ∧
    (∀ (n c i g p v seen : Nat) (short : Bool), s.pix.queue = [] → s.bst.tests = [] → x.bandgap = [] → x.lines = {} → x.right = {} →
      x.below = {} → n < 64 → c < 64 → i < 4 → g = s.rd AXL_SWEEP_GROUP → g < 80 → p = regionPix n c (4 * g + i) →
      v = s.vfRead x.forward n i (4 * g + i) c → s.pix.pend.find? (fun q => q.pix == p) = some ⟨n, p, short, seen⟩ →
      (if short = true then v ≤ 20 * s.rd AXL_CFG_VSHORT else 20 * s.rd AXL_CFG_VOPEN ≤ v ∧ 20 * s.rd AXL_CFG_VSHORT < v) →
      max 2 (min 8 (s.rd AXL_CFG_CONFIRM)) ≤ seen + 1 →
      ∃ t : State, exec (.tickBoundary x) s = .next t ∧ (t.rd AXL_SWEEP_BUF ≠ s.rd AXL_SWEEP_BUF →
        t.healthWord p = (s.healthWord p / 8 * 8 + if short = true then 4 else 3) % 65536 ∧ t.dead p = true ∧
        Cells.get t.pix.kill 0 p = 1 ∧ t.rd (if short = true then PXD_FLAGS_SHORT n else PXD_FLAGS_OPEN n) = 1 ∧
        (∀ q ∈ t.pix.pend, q.pix ≠ p) ∧
        ∃ m ∈ t.fifo, m.source = n ∧ m.kind = (if short = true then 0x02 else 0x01) ∧ m.addr = localAddr p)) ∧
    (∀ n i row c u v : Nat, n < 64 → i < 5 → row < 320 → c < 64 → u = x.forward.at' (n * 320 + i * 64 + c) →
      v = s.vfRead x.forward n i row c →
      (s.rd LCS_ID_STEPPING = 1 → 32 ≤ n → c = 63 → u ≤ 4088 → u + 5 ≤ v ∧ v ≤ u + 7) ∧
      (s.rd LCS_ID_STEPPING ≠ 1 ∨ n < 32 ∨ c ≠ 63 → v = min 4095 u))

/-! ### Packets no rule allows (R274, R280) -/

/-! ### The memories -/

/-- Every step keeps the memories, and what they are loaded from, in canonical form (R84, R114, R119, R150–R161, R183, R211,
R244, R307, R408). That a memory is kept as a table without entries for what it reads anyway is the model's own form. -/
def Obligations.MemoryStaysCanonical : Prop :=
  ∀ s t : State, s.memoryOk = true → step s = .next t → t.memoryOk = true
end

