-- ==== Sys2Proof/Laws/Cells.lean ====
section
/-! SUPPORT. The tables of Machine/Cells.lean: what a put and an erase do to each key, and that both keep the canonical
form. -/

namespace Sys2Proof.Machine

theorem Cells.find_erase_same (c : Cells) (k : Nat) : Cells.find (Cells.erase c k) k = none := by
  induction c with
  | nil => rfl
  | cons p t ih =>
    obtain ⟨k', v⟩ := p
    simp only [Cells.erase]
    split
    · exact ih
    · next h => simp [Cells.find, h, ih]

theorem Cells.find_erase_other (c : Cells) {k j : Nat} (h : j ≠ k) : Cells.find (Cells.erase c k) j = Cells.find c j := by
  induction c with
  | nil => rfl
  | cons p t ih =>
    obtain ⟨k', v⟩ := p
    simp only [Cells.erase]
    split
    · next hk => subst hk; simp [Cells.find, h, ih]
    · simp only [Cells.find]; split <;> simp_all

theorem Cells.find_insert_same (c : Cells) (k v : Nat) : Cells.find (Cells.insert c k v) k = some v := by
  induction c with
  | nil => simp [Cells.insert, Cells.find]
  | cons p t ih =>
    obtain ⟨k', w⟩ := p
    simp only [Cells.insert]
    split
    · simp [Cells.find]
    · split
      · simp [Cells.find]
      · next _ h => simp [Cells.find, h, ih]

theorem Cells.find_insert_other (c : Cells) {k j : Nat} (v : Nat) (h : j ≠ k) :
    Cells.find (Cells.insert c k v) j = Cells.find c j := by
  induction c with
  | nil => simp [Cells.insert, Cells.find, h]
  | cons p t ih =>
    obtain ⟨k', w⟩ := p
    simp only [Cells.insert]
    split
    · simp [Cells.find, h]
    · split
      · next hk => subst hk; simp [Cells.find, h]
      · simp only [Cells.find]; split <;> simp_all

/-- A key reads as what was put under it. -/
theorem Cells.get_put_same (c : Cells) (d k v : Nat) : Cells.get (Cells.put c d k v) d k = v := by
  unfold Cells.put
  split
  · next h => simp [Cells.get, Cells.find_erase_same, h]
  · simp [Cells.get, Cells.find_insert_same]

/-- Every other key reads as before. -/
theorem Cells.get_put_other (c : Cells) (d e v : Nat) {k j : Nat} (h : j ≠ k) :
    Cells.get (Cells.put c d k v) e j = Cells.get c e j := by
  unfold Cells.put
  split
  · simp [Cells.get, Cells.find_erase_other c h]
  · simp [Cells.get, Cells.find_insert_other c v h]

theorem Cells.wfFrom_mono {c : Cells} {d lo lo' : Nat} (h : Cells.wfFrom c d lo = true) (hl : lo' ≤ lo) :
    Cells.wfFrom c d lo' = true := by
  cases c with
  | nil => rfl
  | cons p t =>
    obtain ⟨k, v⟩ := p
    simp only [Cells.wfFrom, Bool.and_eq_true, decide_eq_true_eq] at h ⊢
    exact ⟨⟨Nat.le_trans hl h.1.1, h.1.2⟩, h.2⟩

theorem Cells.wfFrom_erase {c : Cells} {d lo k : Nat} (h : Cells.wfFrom c d lo = true) :
    Cells.wfFrom (Cells.erase c k) d lo = true := by
  induction c generalizing lo with
  | nil => rfl
  | cons p t ih =>
    obtain ⟨k', v⟩ := p
    simp only [Cells.wfFrom, Bool.and_eq_true, decide_eq_true_eq] at h
    simp only [Cells.erase]
    split
    · exact Cells.wfFrom_mono (ih h.2) (by omega)
    · simp only [Cells.wfFrom, Bool.and_eq_true, decide_eq_true_eq]
      exact ⟨h.1, ih h.2⟩

theorem Cells.wfFrom_insert {c : Cells} {d lo k v : Nat} (h : Cells.wfFrom c d lo = true) (hl : lo ≤ k) (hv : v ≠ d) :
    Cells.wfFrom (Cells.insert c k v) d lo = true := by
  induction c generalizing lo with
  | nil => simp [Cells.insert, Cells.wfFrom, hl, hv]
  | cons p t ih =>
    obtain ⟨k', w⟩ := p
    simp only [Cells.wfFrom, Bool.and_eq_true, decide_eq_true_eq] at h
    simp only [Cells.insert]
    split
    · next hk =>
      simp only [Cells.wfFrom, Bool.and_eq_true, decide_eq_true_eq]
      exact ⟨⟨hl, hv⟩, ⟨by omega, h.1.2⟩, h.2⟩
    · split
      · next hk => subst hk; simp only [Cells.wfFrom, Bool.and_eq_true, decide_eq_true_eq]; exact ⟨⟨hl, hv⟩, h.2⟩
      · next h1 h2 =>
        simp only [Cells.wfFrom, Bool.and_eq_true, decide_eq_true_eq]
        exact ⟨h.1, ih h.2 (by omega)⟩

/-- A put keeps the canonical form. -/
theorem Cells.wf_put {c : Cells} {d : Nat} (k v : Nat) (h : Cells.wf c d = true) : Cells.wf (Cells.put c d k v) d = true := by
  unfold Cells.put
  split
  · exact Cells.wfFrom_erase h
  · next hv => exact Cells.wfFrom_insert h (Nat.zero_le k) hv

/-- Consecutive puts keep the canonical form. -/
theorem Cells.wf_putMany {d : Nat} (vs : List Nat) {c : Cells} (k : Nat) (h : Cells.wf c d = true) :
    Cells.wf (Cells.putMany c d k vs) d = true := by
  induction vs generalizing c k with
  | nil => exact h
  | cons v t ih => exact ih (k + 1) (Cells.wf_put k v h)

@[simp] theorem Plane.get_put_same (p : Plane) (k v : Nat) : (p.put k v).get k = v := Cells.get_put_same _ _ _ _
theorem Plane.get_put_other (p : Plane) (v : Nat) {k j : Nat} (h : j ≠ k) : (p.put k v).get j = p.get j :=
  Cells.get_put_other _ _ _ _ h
@[simp] theorem Plane.put_fill (p : Plane) (k v : Nat) : (p.put k v).fill = p.fill := rfl
/-- A put keeps a plane's canonical form. -/
theorem Plane.wf_put {p : Plane} (k v : Nat) (h : p.wf = true) : (p.put k v).wf = true := Cells.wf_put k v h

/-- Two tables in canonical form that read alike everywhere are the same table. -/
theorem Cells.ext_of_wf {c e : Cells} {d lo : Nat} (hc : Cells.wfFrom c d lo = true) (he : Cells.wfFrom e d lo = true)
    (h : ∀ k, Cells.get c d k = Cells.get e d k) : c = e := by
  have small : ∀ (t : Cells) (a j : Nat), Cells.wfFrom t d a = true → j < a → Cells.find t j = none := by
    intro t
    induction t with
    | nil => intros; rfl
    | cons p t ih =>
      intro a j ht hj
      obtain ⟨k, v⟩ := p
      simp only [Cells.wfFrom, Bool.and_eq_true, decide_eq_true_eq] at ht
      have hne : j ≠ k := by omega
      simp only [Cells.find, hne, if_false]
      exact ih (k + 1) j ht.2 (by omega)
  induction c generalizing e lo with
  | nil =>
    cases e with
    | nil => rfl
    | cons q u =>
      obtain ⟨k, v⟩ := q
      simp only [Cells.wfFrom, Bool.and_eq_true, decide_eq_true_eq] at he
      have := h k
      simp [Cells.get, Cells.find] at this
      exact absurd this.symm he.1.2
  | cons p t ih =>
    obtain ⟨k, v⟩ := p
    have hc0 := hc
    simp only [Cells.wfFrom, Bool.and_eq_true, decide_eq_true_eq] at hc
    cases e with
    | nil =>
      have := h k
      simp [Cells.get, Cells.find] at this
      exact absurd this hc.1.2
    | cons q u =>
      obtain ⟨k', v'⟩ := q
      have he0 := he
      simp only [Cells.wfFrom, Bool.and_eq_true, decide_eq_true_eq] at he
      have hk : k = k' := by
        rcases Nat.lt_trichotomy k k' with hlt | heq | hgt
        · have h1 := h k
          have h2 := small u (k' + 1) k he.2 (by omega)
          have hne : k ≠ k' := by omega
          simp [Cells.get, Cells.find, hne, h2] at h1
          exact absurd h1 hc.1.2
        · exact heq
        · have h1 := h k'
          have h2 := small t (k + 1) k' hc.2 (by omega)
          have hne : k' ≠ k := by omega
          simp [Cells.get, Cells.find, hne, h2] at h1
          exact absurd h1.symm he.1.2
      subst hk
      have hv : v = v' := by have := h k; simpa [Cells.get, Cells.find] using this
      subst hv
      have : t = u := by
        apply ih hc.2 he.2
        intro j
        by_cases hj : j = k
        · subst hj; simp [Cells.get, small t (j + 1) j hc.2 (by omega), small u (j + 1) j he.2 (by omega)]
        · have := h j; simpa [Cells.get, Cells.find, hj] using this
      rw [this]

end Sys2Proof.Machine
end

