-- ==== Sys2Proof/Laws/State.lean ====
section
/-! SUPPORT. What each field of the state is after each update of one block: one lemma for each, so that no proof unfolds a record update. -/

namespace Sys2Proof.Machine

@[simp] theorem State.wr_pending (s : State) (f : Fld) (v : Nat) : (s.wr f v).pending = s.pending := rfl
@[simp] theorem State.wr_regs (s : State) (f : Fld) (v : Nat) : (s.wr f v).regs = Cells.setReg s.regs f v := rfl
@[simp] theorem State.wr_locked (s : State) (f : Fld) (v : Nat) : (s.wr f v).locked = s.locked := rfl
@[simp] theorem State.wr_tick (s : State) (f : Fld) (v : Nat) : (s.wr f v).tick = s.tick := rfl
@[simp] theorem State.wr_comp (s : State) (f : Fld) (v : Nat) : (s.wr f v).comp = s.comp := rfl
@[simp] theorem State.wr_eng (s : State) (f : Fld) (v : Nat) : (s.wr f v).eng = s.eng := rfl
@[simp] theorem State.wr_gko (s : State) (f : Fld) (v : Nat) : (s.wr f v).gko = s.gko := rfl
@[simp] theorem State.wr_scn (s : State) (f : Fld) (v : Nat) : (s.wr f v).scn = s.scn := rfl
@[simp] theorem State.wr_ring (s : State) (f : Fld) (v : Nat) : (s.wr f v).ring = s.ring := rfl
@[simp] theorem State.wr_link (s : State) (f : Fld) (v : Nat) : (s.wr f v).link = s.link := rfl
@[simp] theorem State.wr_can (s : State) (f : Fld) (v : Nat) : (s.wr f v).can = s.can := rfl
@[simp] theorem State.wr_cal (s : State) (f : Fld) (v : Nat) : (s.wr f v).cal = s.cal := rfl
@[simp] theorem State.wr_pix (s : State) (f : Fld) (v : Nat) : (s.wr f v).pix = s.pix := rfl
@[simp] theorem State.wr_skink (s : State) (f : Fld) (v : Nat) : (s.wr f v).skink = s.skink := rfl
@[simp] theorem State.wr_life (s : State) (f : Fld) (v : Nat) : (s.wr f v).life = s.life := rfl
@[simp] theorem State.wr_sal (s : State) (f : Fld) (v : Nat) : (s.wr f v).sal = s.sal := rfl
@[simp] theorem State.wr_thm (s : State) (f : Fld) (v : Nat) : (s.wr f v).thm = s.thm := rfl
@[simp] theorem State.wr_rcd (s : State) (f : Fld) (v : Nat) : (s.wr f v).rcd = s.rcd := rfl
@[simp] theorem State.wr_flt (s : State) (f : Fld) (v : Nat) : (s.wr f v).flt = s.flt := rfl
@[simp] theorem State.wr_sft (s : State) (f : Fld) (v : Nat) : (s.wr f v).sft = s.sft := rfl
@[simp] theorem State.wr_flash (s : State) (f : Fld) (v : Nat) : (s.wr f v).flash = s.flash := rfl
@[simp] theorem State.wr_bst (s : State) (f : Fld) (v : Nat) : (s.wr f v).bst = s.bst := rfl
@[simp] theorem State.wr_crc (s : State) (f : Fld) (v : Nat) : (s.wr f v).crc = s.crc := rfl
@[simp] theorem State.wr_jtag (s : State) (f : Fld) (v : Nat) : (s.wr f v).jtag = s.jtag := rfl
@[simp] theorem State.wr_sampled (s : State) (f : Fld) (v : Nat) : (s.wr f v).sampled = s.sampled := rfl
@[simp] theorem State.wr_fifo (s : State) (f : Fld) (v : Nat) : (s.wr f v).fifo = s.fifo := rfl
@[simp] theorem State.wr_data (s : State) (f : Fld) (v : Nat) : (s.wr f v).data = s.data := rfl
@[simp] theorem State.wr_freeCtr (s : State) (f : Fld) (v : Nat) : (s.wr f v).freeCtr = s.freeCtr := rfl

@[simp] theorem State.wrI_pending (s : State) (f : Fld) (i : Int) : (s.wrI f i).pending = s.pending := rfl
@[simp] theorem State.wrI_regs (s : State) (f : Fld) (i : Int) : (s.wrI f i).regs = Cells.setReg s.regs f (unsigned f.width i) := rfl
@[simp] theorem State.wrI_locked (s : State) (f : Fld) (i : Int) : (s.wrI f i).locked = s.locked := rfl
@[simp] theorem State.wrI_tick (s : State) (f : Fld) (i : Int) : (s.wrI f i).tick = s.tick := rfl
@[simp] theorem State.wrI_comp (s : State) (f : Fld) (i : Int) : (s.wrI f i).comp = s.comp := rfl
@[simp] theorem State.wrI_eng (s : State) (f : Fld) (i : Int) : (s.wrI f i).eng = s.eng := rfl
@[simp] theorem State.wrI_gko (s : State) (f : Fld) (i : Int) : (s.wrI f i).gko = s.gko := rfl
@[simp] theorem State.wrI_scn (s : State) (f : Fld) (i : Int) : (s.wrI f i).scn = s.scn := rfl
@[simp] theorem State.wrI_ring (s : State) (f : Fld) (i : Int) : (s.wrI f i).ring = s.ring := rfl
@[simp] theorem State.wrI_link (s : State) (f : Fld) (i : Int) : (s.wrI f i).link = s.link := rfl
@[simp] theorem State.wrI_can (s : State) (f : Fld) (i : Int) : (s.wrI f i).can = s.can := rfl
@[simp] theorem State.wrI_cal (s : State) (f : Fld) (i : Int) : (s.wrI f i).cal = s.cal := rfl
@[simp] theorem State.wrI_pix (s : State) (f : Fld) (i : Int) : (s.wrI f i).pix = s.pix := rfl
@[simp] theorem State.wrI_skink (s : State) (f : Fld) (i : Int) : (s.wrI f i).skink = s.skink := rfl
@[simp] theorem State.wrI_life (s : State) (f : Fld) (i : Int) : (s.wrI f i).life = s.life := rfl
@[simp] theorem State.wrI_sal (s : State) (f : Fld) (i : Int) : (s.wrI f i).sal = s.sal := rfl
@[simp] theorem State.wrI_thm (s : State) (f : Fld) (i : Int) : (s.wrI f i).thm = s.thm := rfl
@[simp] theorem State.wrI_rcd (s : State) (f : Fld) (i : Int) : (s.wrI f i).rcd = s.rcd := rfl
@[simp] theorem State.wrI_flt (s : State) (f : Fld) (i : Int) : (s.wrI f i).flt = s.flt := rfl
@[simp] theorem State.wrI_sft (s : State) (f : Fld) (i : Int) : (s.wrI f i).sft = s.sft := rfl
@[simp] theorem State.wrI_flash (s : State) (f : Fld) (i : Int) : (s.wrI f i).flash = s.flash := rfl
@[simp] theorem State.wrI_bst (s : State) (f : Fld) (i : Int) : (s.wrI f i).bst = s.bst := rfl
@[simp] theorem State.wrI_crc (s : State) (f : Fld) (i : Int) : (s.wrI f i).crc = s.crc := rfl
@[simp] theorem State.wrI_jtag (s : State) (f : Fld) (i : Int) : (s.wrI f i).jtag = s.jtag := rfl
@[simp] theorem State.wrI_sampled (s : State) (f : Fld) (i : Int) : (s.wrI f i).sampled = s.sampled := rfl
@[simp] theorem State.wrI_fifo (s : State) (f : Fld) (i : Int) : (s.wrI f i).fifo = s.fifo := rfl
@[simp] theorem State.wrI_data (s : State) (f : Fld) (i : Int) : (s.wrI f i).data = s.data := rfl
@[simp] theorem State.wrI_freeCtr (s : State) (f : Fld) (i : Int) : (s.wrI f i).freeCtr = s.freeCtr := rfl

@[simp] theorem State.sendMsg_pending (s : State) (m : Msg) : (s.sendMsg m).pending = s.pending := rfl
@[simp] theorem State.sendMsg_regs (s : State) (m : Msg) : (s.sendMsg m).regs = s.regs := rfl
@[simp] theorem State.sendMsg_locked (s : State) (m : Msg) : (s.sendMsg m).locked = s.locked := rfl
@[simp] theorem State.sendMsg_tick (s : State) (m : Msg) : (s.sendMsg m).tick = s.tick := rfl
@[simp] theorem State.sendMsg_comp (s : State) (m : Msg) : (s.sendMsg m).comp = s.comp := rfl
@[simp] theorem State.sendMsg_eng (s : State) (m : Msg) : (s.sendMsg m).eng = s.eng := rfl
@[simp] theorem State.sendMsg_gko (s : State) (m : Msg) : (s.sendMsg m).gko = s.gko := rfl
@[simp] theorem State.sendMsg_scn (s : State) (m : Msg) : (s.sendMsg m).scn = s.scn := rfl
@[simp] theorem State.sendMsg_ring (s : State) (m : Msg) : (s.sendMsg m).ring = s.ring := rfl
@[simp] theorem State.sendMsg_link (s : State) (m : Msg) : (s.sendMsg m).link = s.link := rfl
@[simp] theorem State.sendMsg_can (s : State) (m : Msg) : (s.sendMsg m).can = s.can := rfl
@[simp] theorem State.sendMsg_cal (s : State) (m : Msg) : (s.sendMsg m).cal = s.cal := rfl
@[simp] theorem State.sendMsg_pix (s : State) (m : Msg) : (s.sendMsg m).pix = s.pix := rfl
@[simp] theorem State.sendMsg_skink (s : State) (m : Msg) : (s.sendMsg m).skink = s.skink := rfl
@[simp] theorem State.sendMsg_life (s : State) (m : Msg) : (s.sendMsg m).life = s.life := rfl
@[simp] theorem State.sendMsg_sal (s : State) (m : Msg) : (s.sendMsg m).sal = s.sal := rfl
@[simp] theorem State.sendMsg_thm (s : State) (m : Msg) : (s.sendMsg m).thm = s.thm := rfl
@[simp] theorem State.sendMsg_rcd (s : State) (m : Msg) : (s.sendMsg m).rcd = s.rcd := rfl
@[simp] theorem State.sendMsg_flt (s : State) (m : Msg) : (s.sendMsg m).flt = { s.flt with sent := s.flt.sent + 1 } := rfl
@[simp] theorem State.sendMsg_sft (s : State) (m : Msg) : (s.sendMsg m).sft = s.sft := rfl
@[simp] theorem State.sendMsg_flash (s : State) (m : Msg) : (s.sendMsg m).flash = s.flash := rfl
@[simp] theorem State.sendMsg_bst (s : State) (m : Msg) : (s.sendMsg m).bst = s.bst := rfl
@[simp] theorem State.sendMsg_crc (s : State) (m : Msg) : (s.sendMsg m).crc = s.crc := rfl
@[simp] theorem State.sendMsg_jtag (s : State) (m : Msg) : (s.sendMsg m).jtag = s.jtag := rfl
@[simp] theorem State.sendMsg_sampled (s : State) (m : Msg) : (s.sendMsg m).sampled = s.sampled := rfl
@[simp] theorem State.sendMsg_fifo (s : State) (m : Msg) : (s.sendMsg m).fifo = s.fifo ++ [m] := rfl
@[simp] theorem State.sendMsg_data (s : State) (m : Msg) : (s.sendMsg m).data = s.data := rfl
@[simp] theorem State.sendMsg_freeCtr (s : State) (m : Msg) : (s.sendMsg m).freeCtr = s.freeCtr := rfl

@[simp] theorem State.send_pending (s : State) (source kind addr : Nat) : (s.send source kind addr).pending = s.pending := rfl
@[simp] theorem State.send_regs (s : State) (source kind addr : Nat) : (s.send source kind addr).regs = s.regs := rfl
@[simp] theorem State.send_locked (s : State) (source kind addr : Nat) : (s.send source kind addr).locked = s.locked := rfl
@[simp] theorem State.send_tick (s : State) (source kind addr : Nat) : (s.send source kind addr).tick = s.tick := rfl
@[simp] theorem State.send_comp (s : State) (source kind addr : Nat) : (s.send source kind addr).comp = s.comp := rfl
@[simp] theorem State.send_eng (s : State) (source kind addr : Nat) : (s.send source kind addr).eng = s.eng := rfl
@[simp] theorem State.send_gko (s : State) (source kind addr : Nat) : (s.send source kind addr).gko = s.gko := rfl
@[simp] theorem State.send_scn (s : State) (source kind addr : Nat) : (s.send source kind addr).scn = s.scn := rfl
@[simp] theorem State.send_ring (s : State) (source kind addr : Nat) : (s.send source kind addr).ring = s.ring := rfl
@[simp] theorem State.send_link (s : State) (source kind addr : Nat) : (s.send source kind addr).link = s.link := rfl
@[simp] theorem State.send_can (s : State) (source kind addr : Nat) : (s.send source kind addr).can = s.can := rfl
@[simp] theorem State.send_cal (s : State) (source kind addr : Nat) : (s.send source kind addr).cal = s.cal := rfl
@[simp] theorem State.send_pix (s : State) (source kind addr : Nat) : (s.send source kind addr).pix = s.pix := rfl
@[simp] theorem State.send_skink (s : State) (source kind addr : Nat) : (s.send source kind addr).skink = s.skink := rfl
@[simp] theorem State.send_life (s : State) (source kind addr : Nat) : (s.send source kind addr).life = s.life := rfl
@[simp] theorem State.send_sal (s : State) (source kind addr : Nat) : (s.send source kind addr).sal = s.sal := rfl
@[simp] theorem State.send_thm (s : State) (source kind addr : Nat) : (s.send source kind addr).thm = s.thm := rfl
@[simp] theorem State.send_rcd (s : State) (source kind addr : Nat) : (s.send source kind addr).rcd = s.rcd := rfl
@[simp] theorem State.send_flt (s : State) (source kind addr : Nat) : (s.send source kind addr).flt = { s.flt with sent := s.flt.sent + 1 } := rfl
@[simp] theorem State.send_sft (s : State) (source kind addr : Nat) : (s.send source kind addr).sft = s.sft := rfl
@[simp] theorem State.send_flash (s : State) (source kind addr : Nat) : (s.send source kind addr).flash = s.flash := rfl
@[simp] theorem State.send_bst (s : State) (source kind addr : Nat) : (s.send source kind addr).bst = s.bst := rfl
@[simp] theorem State.send_crc (s : State) (source kind addr : Nat) : (s.send source kind addr).crc = s.crc := rfl
@[simp] theorem State.send_jtag (s : State) (source kind addr : Nat) : (s.send source kind addr).jtag = s.jtag := rfl
@[simp] theorem State.send_sampled (s : State) (source kind addr : Nat) : (s.send source kind addr).sampled = s.sampled := rfl
@[simp] theorem State.send_fifo (s : State) (source kind addr : Nat) : (s.send source kind addr).fifo = s.fifo ++ [s.msgOf source kind addr false] := rfl
@[simp] theorem State.send_data (s : State) (source kind addr : Nat) : (s.send source kind addr).data = s.data := rfl
@[simp] theorem State.send_freeCtr (s : State) (source kind addr : Nat) : (s.send source kind addr).freeCtr = s.freeCtr := rfl

@[simp] theorem State.setSft_pending (s : State) (x : SftBlock) : (s.setSft x).pending = s.pending := rfl
@[simp] theorem State.setSft_regs (s : State) (x : SftBlock) : (s.setSft x).regs = s.regs := rfl
@[simp] theorem State.setSft_locked (s : State) (x : SftBlock) : (s.setSft x).locked = s.locked := rfl
@[simp] theorem State.setSft_tick (s : State) (x : SftBlock) : (s.setSft x).tick = s.tick := rfl
@[simp] theorem State.setSft_comp (s : State) (x : SftBlock) : (s.setSft x).comp = s.comp := rfl
@[simp] theorem State.setSft_eng (s : State) (x : SftBlock) : (s.setSft x).eng = s.eng := rfl
@[simp] theorem State.setSft_gko (s : State) (x : SftBlock) : (s.setSft x).gko = s.gko := rfl
@[simp] theorem State.setSft_scn (s : State) (x : SftBlock) : (s.setSft x).scn = s.scn := rfl
@[simp] theorem State.setSft_ring (s : State) (x : SftBlock) : (s.setSft x).ring = s.ring := rfl
@[simp] theorem State.setSft_link (s : State) (x : SftBlock) : (s.setSft x).link = s.link := rfl
@[simp] theorem State.setSft_can (s : State) (x : SftBlock) : (s.setSft x).can = s.can := rfl
@[simp] theorem State.setSft_cal (s : State) (x : SftBlock) : (s.setSft x).cal = s.cal := rfl
@[simp] theorem State.setSft_pix (s : State) (x : SftBlock) : (s.setSft x).pix = s.pix := rfl
@[simp] theorem State.setSft_skink (s : State) (x : SftBlock) : (s.setSft x).skink = s.skink := rfl
@[simp] theorem State.setSft_life (s : State) (x : SftBlock) : (s.setSft x).life = s.life := rfl
@[simp] theorem State.setSft_sal (s : State) (x : SftBlock) : (s.setSft x).sal = s.sal := rfl
@[simp] theorem State.setSft_thm (s : State) (x : SftBlock) : (s.setSft x).thm = s.thm := rfl
@[simp] theorem State.setSft_rcd (s : State) (x : SftBlock) : (s.setSft x).rcd = s.rcd := rfl
@[simp] theorem State.setSft_flt (s : State) (x : SftBlock) : (s.setSft x).flt = s.flt := rfl
@[simp] theorem State.setSft_sft (s : State) (x : SftBlock) : (s.setSft x).sft = x := rfl
@[simp] theorem State.setSft_flash (s : State) (x : SftBlock) : (s.setSft x).flash = s.flash := rfl
@[simp] theorem State.setSft_bst (s : State) (x : SftBlock) : (s.setSft x).bst = s.bst := rfl
@[simp] theorem State.setSft_crc (s : State) (x : SftBlock) : (s.setSft x).crc = s.crc := rfl
@[simp] theorem State.setSft_jtag (s : State) (x : SftBlock) : (s.setSft x).jtag = s.jtag := rfl
@[simp] theorem State.setSft_sampled (s : State) (x : SftBlock) : (s.setSft x).sampled = s.sampled := rfl
@[simp] theorem State.setSft_fifo (s : State) (x : SftBlock) : (s.setSft x).fifo = s.fifo := rfl
@[simp] theorem State.setSft_data (s : State) (x : SftBlock) : (s.setSft x).data = s.data := rfl
@[simp] theorem State.setSft_freeCtr (s : State) (x : SftBlock) : (s.setSft x).freeCtr = s.freeCtr := rfl

@[simp] theorem State.setFlt_pending (s : State) (x : FltBlock) : (s.setFlt x).pending = s.pending := rfl
@[simp] theorem State.setFlt_regs (s : State) (x : FltBlock) : (s.setFlt x).regs = s.regs := rfl
@[simp] theorem State.setFlt_locked (s : State) (x : FltBlock) : (s.setFlt x).locked = s.locked := rfl
@[simp] theorem State.setFlt_tick (s : State) (x : FltBlock) : (s.setFlt x).tick = s.tick := rfl
@[simp] theorem State.setFlt_comp (s : State) (x : FltBlock) : (s.setFlt x).comp = s.comp := rfl
@[simp] theorem State.setFlt_eng (s : State) (x : FltBlock) : (s.setFlt x).eng = s.eng := rfl
@[simp] theorem State.setFlt_gko (s : State) (x : FltBlock) : (s.setFlt x).gko = s.gko := rfl
@[simp] theorem State.setFlt_scn (s : State) (x : FltBlock) : (s.setFlt x).scn = s.scn := rfl
@[simp] theorem State.setFlt_ring (s : State) (x : FltBlock) : (s.setFlt x).ring = s.ring := rfl
@[simp] theorem State.setFlt_link (s : State) (x : FltBlock) : (s.setFlt x).link = s.link := rfl
@[simp] theorem State.setFlt_can (s : State) (x : FltBlock) : (s.setFlt x).can = s.can := rfl
@[simp] theorem State.setFlt_cal (s : State) (x : FltBlock) : (s.setFlt x).cal = s.cal := rfl
@[simp] theorem State.setFlt_pix (s : State) (x : FltBlock) : (s.setFlt x).pix = s.pix := rfl
@[simp] theorem State.setFlt_skink (s : State) (x : FltBlock) : (s.setFlt x).skink = s.skink := rfl
@[simp] theorem State.setFlt_life (s : State) (x : FltBlock) : (s.setFlt x).life = s.life := rfl
@[simp] theorem State.setFlt_sal (s : State) (x : FltBlock) : (s.setFlt x).sal = s.sal := rfl
@[simp] theorem State.setFlt_thm (s : State) (x : FltBlock) : (s.setFlt x).thm = s.thm := rfl
@[simp] theorem State.setFlt_rcd (s : State) (x : FltBlock) : (s.setFlt x).rcd = s.rcd := rfl
@[simp] theorem State.setFlt_flt (s : State) (x : FltBlock) : (s.setFlt x).flt = x := rfl
@[simp] theorem State.setFlt_sft (s : State) (x : FltBlock) : (s.setFlt x).sft = s.sft := rfl
@[simp] theorem State.setFlt_flash (s : State) (x : FltBlock) : (s.setFlt x).flash = s.flash := rfl
@[simp] theorem State.setFlt_bst (s : State) (x : FltBlock) : (s.setFlt x).bst = s.bst := rfl
@[simp] theorem State.setFlt_crc (s : State) (x : FltBlock) : (s.setFlt x).crc = s.crc := rfl
@[simp] theorem State.setFlt_jtag (s : State) (x : FltBlock) : (s.setFlt x).jtag = s.jtag := rfl
@[simp] theorem State.setFlt_sampled (s : State) (x : FltBlock) : (s.setFlt x).sampled = s.sampled := rfl
@[simp] theorem State.setFlt_fifo (s : State) (x : FltBlock) : (s.setFlt x).fifo = s.fifo := rfl
@[simp] theorem State.setFlt_data (s : State) (x : FltBlock) : (s.setFlt x).data = s.data := rfl
@[simp] theorem State.setFlt_freeCtr (s : State) (x : FltBlock) : (s.setFlt x).freeCtr = s.freeCtr := rfl

@[simp] theorem State.setRcd_pending (s : State) (x : RecBlock) : (s.setRcd x).pending = s.pending := rfl
@[simp] theorem State.setRcd_regs (s : State) (x : RecBlock) : (s.setRcd x).regs = s.regs := rfl
@[simp] theorem State.setRcd_locked (s : State) (x : RecBlock) : (s.setRcd x).locked = s.locked := rfl
@[simp] theorem State.setRcd_tick (s : State) (x : RecBlock) : (s.setRcd x).tick = s.tick := rfl
@[simp] theorem State.setRcd_comp (s : State) (x : RecBlock) : (s.setRcd x).comp = s.comp := rfl
@[simp] theorem State.setRcd_eng (s : State) (x : RecBlock) : (s.setRcd x).eng = s.eng := rfl
@[simp] theorem State.setRcd_gko (s : State) (x : RecBlock) : (s.setRcd x).gko = s.gko := rfl
@[simp] theorem State.setRcd_scn (s : State) (x : RecBlock) : (s.setRcd x).scn = s.scn := rfl
@[simp] theorem State.setRcd_ring (s : State) (x : RecBlock) : (s.setRcd x).ring = s.ring := rfl
@[simp] theorem State.setRcd_link (s : State) (x : RecBlock) : (s.setRcd x).link = s.link := rfl
@[simp] theorem State.setRcd_can (s : State) (x : RecBlock) : (s.setRcd x).can = s.can := rfl
@[simp] theorem State.setRcd_cal (s : State) (x : RecBlock) : (s.setRcd x).cal = s.cal := rfl
@[simp] theorem State.setRcd_pix (s : State) (x : RecBlock) : (s.setRcd x).pix = s.pix := rfl
@[simp] theorem State.setRcd_skink (s : State) (x : RecBlock) : (s.setRcd x).skink = s.skink := rfl
@[simp] theorem State.setRcd_life (s : State) (x : RecBlock) : (s.setRcd x).life = s.life := rfl
@[simp] theorem State.setRcd_sal (s : State) (x : RecBlock) : (s.setRcd x).sal = s.sal := rfl
@[simp] theorem State.setRcd_thm (s : State) (x : RecBlock) : (s.setRcd x).thm = s.thm := rfl
@[simp] theorem State.setRcd_rcd (s : State) (x : RecBlock) : (s.setRcd x).rcd = x := rfl
@[simp] theorem State.setRcd_flt (s : State) (x : RecBlock) : (s.setRcd x).flt = s.flt := rfl
@[simp] theorem State.setRcd_sft (s : State) (x : RecBlock) : (s.setRcd x).sft = s.sft := rfl
@[simp] theorem State.setRcd_flash (s : State) (x : RecBlock) : (s.setRcd x).flash = s.flash := rfl
@[simp] theorem State.setRcd_bst (s : State) (x : RecBlock) : (s.setRcd x).bst = s.bst := rfl
@[simp] theorem State.setRcd_crc (s : State) (x : RecBlock) : (s.setRcd x).crc = s.crc := rfl
@[simp] theorem State.setRcd_jtag (s : State) (x : RecBlock) : (s.setRcd x).jtag = s.jtag := rfl
@[simp] theorem State.setRcd_sampled (s : State) (x : RecBlock) : (s.setRcd x).sampled = s.sampled := rfl
@[simp] theorem State.setRcd_fifo (s : State) (x : RecBlock) : (s.setRcd x).fifo = s.fifo := rfl
@[simp] theorem State.setRcd_data (s : State) (x : RecBlock) : (s.setRcd x).data = s.data := rfl
@[simp] theorem State.setRcd_freeCtr (s : State) (x : RecBlock) : (s.setRcd x).freeCtr = s.freeCtr := rfl

@[simp] theorem State.setLink_pending (s : State) (x : LinkBlock) : (s.setLink x).pending = s.pending := rfl
@[simp] theorem State.setLink_regs (s : State) (x : LinkBlock) : (s.setLink x).regs = s.regs := rfl
@[simp] theorem State.setLink_locked (s : State) (x : LinkBlock) : (s.setLink x).locked = s.locked := rfl
@[simp] theorem State.setLink_tick (s : State) (x : LinkBlock) : (s.setLink x).tick = s.tick := rfl
@[simp] theorem State.setLink_comp (s : State) (x : LinkBlock) : (s.setLink x).comp = s.comp := rfl
@[simp] theorem State.setLink_eng (s : State) (x : LinkBlock) : (s.setLink x).eng = s.eng := rfl
@[simp] theorem State.setLink_gko (s : State) (x : LinkBlock) : (s.setLink x).gko = s.gko := rfl
@[simp] theorem State.setLink_scn (s : State) (x : LinkBlock) : (s.setLink x).scn = s.scn := rfl
@[simp] theorem State.setLink_ring (s : State) (x : LinkBlock) : (s.setLink x).ring = s.ring := rfl
@[simp] theorem State.setLink_link (s : State) (x : LinkBlock) : (s.setLink x).link = x := rfl
@[simp] theorem State.setLink_can (s : State) (x : LinkBlock) : (s.setLink x).can = s.can := rfl
@[simp] theorem State.setLink_cal (s : State) (x : LinkBlock) : (s.setLink x).cal = s.cal := rfl
@[simp] theorem State.setLink_pix (s : State) (x : LinkBlock) : (s.setLink x).pix = s.pix := rfl
@[simp] theorem State.setLink_skink (s : State) (x : LinkBlock) : (s.setLink x).skink = s.skink := rfl
@[simp] theorem State.setLink_life (s : State) (x : LinkBlock) : (s.setLink x).life = s.life := rfl
@[simp] theorem State.setLink_sal (s : State) (x : LinkBlock) : (s.setLink x).sal = s.sal := rfl
@[simp] theorem State.setLink_thm (s : State) (x : LinkBlock) : (s.setLink x).thm = s.thm := rfl
@[simp] theorem State.setLink_rcd (s : State) (x : LinkBlock) : (s.setLink x).rcd = s.rcd := rfl
@[simp] theorem State.setLink_flt (s : State) (x : LinkBlock) : (s.setLink x).flt = s.flt := rfl
@[simp] theorem State.setLink_sft (s : State) (x : LinkBlock) : (s.setLink x).sft = s.sft := rfl
@[simp] theorem State.setLink_flash (s : State) (x : LinkBlock) : (s.setLink x).flash = s.flash := rfl
@[simp] theorem State.setLink_bst (s : State) (x : LinkBlock) : (s.setLink x).bst = s.bst := rfl
@[simp] theorem State.setLink_crc (s : State) (x : LinkBlock) : (s.setLink x).crc = s.crc := rfl
@[simp] theorem State.setLink_jtag (s : State) (x : LinkBlock) : (s.setLink x).jtag = s.jtag := rfl
@[simp] theorem State.setLink_sampled (s : State) (x : LinkBlock) : (s.setLink x).sampled = s.sampled := rfl
@[simp] theorem State.setLink_fifo (s : State) (x : LinkBlock) : (s.setLink x).fifo = s.fifo := rfl
@[simp] theorem State.setLink_data (s : State) (x : LinkBlock) : (s.setLink x).data = s.data := rfl
@[simp] theorem State.setLink_freeCtr (s : State) (x : LinkBlock) : (s.setLink x).freeCtr = s.freeCtr := rfl

@[simp] theorem State.setCan_pending (s : State) (x : CanBlock) : (s.setCan x).pending = s.pending := rfl
@[simp] theorem State.setCan_regs (s : State) (x : CanBlock) : (s.setCan x).regs = s.regs := rfl
@[simp] theorem State.setCan_locked (s : State) (x : CanBlock) : (s.setCan x).locked = s.locked := rfl
@[simp] theorem State.setCan_tick (s : State) (x : CanBlock) : (s.setCan x).tick = s.tick := rfl
@[simp] theorem State.setCan_comp (s : State) (x : CanBlock) : (s.setCan x).comp = s.comp := rfl
@[simp] theorem State.setCan_eng (s : State) (x : CanBlock) : (s.setCan x).eng = s.eng := rfl
@[simp] theorem State.setCan_gko (s : State) (x : CanBlock) : (s.setCan x).gko = s.gko := rfl
@[simp] theorem State.setCan_scn (s : State) (x : CanBlock) : (s.setCan x).scn = s.scn := rfl
@[simp] theorem State.setCan_ring (s : State) (x : CanBlock) : (s.setCan x).ring = s.ring := rfl
@[simp] theorem State.setCan_link (s : State) (x : CanBlock) : (s.setCan x).link = s.link := rfl
@[simp] theorem State.setCan_can (s : State) (x : CanBlock) : (s.setCan x).can = x := rfl
@[simp] theorem State.setCan_cal (s : State) (x : CanBlock) : (s.setCan x).cal = s.cal := rfl
@[simp] theorem State.setCan_pix (s : State) (x : CanBlock) : (s.setCan x).pix = s.pix := rfl
@[simp] theorem State.setCan_skink (s : State) (x : CanBlock) : (s.setCan x).skink = s.skink := rfl
@[simp] theorem State.setCan_life (s : State) (x : CanBlock) : (s.setCan x).life = s.life := rfl
@[simp] theorem State.setCan_sal (s : State) (x : CanBlock) : (s.setCan x).sal = s.sal := rfl
@[simp] theorem State.setCan_thm (s : State) (x : CanBlock) : (s.setCan x).thm = s.thm := rfl
@[simp] theorem State.setCan_rcd (s : State) (x : CanBlock) : (s.setCan x).rcd = s.rcd := rfl
@[simp] theorem State.setCan_flt (s : State) (x : CanBlock) : (s.setCan x).flt = s.flt := rfl
@[simp] theorem State.setCan_sft (s : State) (x : CanBlock) : (s.setCan x).sft = s.sft := rfl
@[simp] theorem State.setCan_flash (s : State) (x : CanBlock) : (s.setCan x).flash = s.flash := rfl
@[simp] theorem State.setCan_bst (s : State) (x : CanBlock) : (s.setCan x).bst = s.bst := rfl
@[simp] theorem State.setCan_crc (s : State) (x : CanBlock) : (s.setCan x).crc = s.crc := rfl
@[simp] theorem State.setCan_jtag (s : State) (x : CanBlock) : (s.setCan x).jtag = s.jtag := rfl
@[simp] theorem State.setCan_sampled (s : State) (x : CanBlock) : (s.setCan x).sampled = s.sampled := rfl
@[simp] theorem State.setCan_fifo (s : State) (x : CanBlock) : (s.setCan x).fifo = s.fifo := rfl
@[simp] theorem State.setCan_data (s : State) (x : CanBlock) : (s.setCan x).data = s.data := rfl
@[simp] theorem State.setCan_freeCtr (s : State) (x : CanBlock) : (s.setCan x).freeCtr = s.freeCtr := rfl

@[simp] theorem State.setCal_pending (s : State) (x : CalBlock) : (s.setCal x).pending = s.pending := rfl
@[simp] theorem State.setCal_regs (s : State) (x : CalBlock) : (s.setCal x).regs = s.regs := rfl
@[simp] theorem State.setCal_locked (s : State) (x : CalBlock) : (s.setCal x).locked = s.locked := rfl
@[simp] theorem State.setCal_tick (s : State) (x : CalBlock) : (s.setCal x).tick = s.tick := rfl
@[simp] theorem State.setCal_comp (s : State) (x : CalBlock) : (s.setCal x).comp = s.comp := rfl
@[simp] theorem State.setCal_eng (s : State) (x : CalBlock) : (s.setCal x).eng = s.eng := rfl
@[simp] theorem State.setCal_gko (s : State) (x : CalBlock) : (s.setCal x).gko = s.gko := rfl
@[simp] theorem State.setCal_scn (s : State) (x : CalBlock) : (s.setCal x).scn = s.scn := rfl
@[simp] theorem State.setCal_ring (s : State) (x : CalBlock) : (s.setCal x).ring = s.ring := rfl
@[simp] theorem State.setCal_link (s : State) (x : CalBlock) : (s.setCal x).link = s.link := rfl
@[simp] theorem State.setCal_can (s : State) (x : CalBlock) : (s.setCal x).can = s.can := rfl
@[simp] theorem State.setCal_cal (s : State) (x : CalBlock) : (s.setCal x).cal = x := rfl
@[simp] theorem State.setCal_pix (s : State) (x : CalBlock) : (s.setCal x).pix = s.pix := rfl
@[simp] theorem State.setCal_skink (s : State) (x : CalBlock) : (s.setCal x).skink = s.skink := rfl
@[simp] theorem State.setCal_life (s : State) (x : CalBlock) : (s.setCal x).life = s.life := rfl
@[simp] theorem State.setCal_sal (s : State) (x : CalBlock) : (s.setCal x).sal = s.sal := rfl
@[simp] theorem State.setCal_thm (s : State) (x : CalBlock) : (s.setCal x).thm = s.thm := rfl
@[simp] theorem State.setCal_rcd (s : State) (x : CalBlock) : (s.setCal x).rcd = s.rcd := rfl
@[simp] theorem State.setCal_flt (s : State) (x : CalBlock) : (s.setCal x).flt = s.flt := rfl
@[simp] theorem State.setCal_sft (s : State) (x : CalBlock) : (s.setCal x).sft = s.sft := rfl
@[simp] theorem State.setCal_flash (s : State) (x : CalBlock) : (s.setCal x).flash = s.flash := rfl
@[simp] theorem State.setCal_bst (s : State) (x : CalBlock) : (s.setCal x).bst = s.bst := rfl
@[simp] theorem State.setCal_crc (s : State) (x : CalBlock) : (s.setCal x).crc = s.crc := rfl
@[simp] theorem State.setCal_jtag (s : State) (x : CalBlock) : (s.setCal x).jtag = s.jtag := rfl
@[simp] theorem State.setCal_sampled (s : State) (x : CalBlock) : (s.setCal x).sampled = s.sampled := rfl
@[simp] theorem State.setCal_fifo (s : State) (x : CalBlock) : (s.setCal x).fifo = s.fifo := rfl
@[simp] theorem State.setCal_data (s : State) (x : CalBlock) : (s.setCal x).data = s.data := rfl
@[simp] theorem State.setCal_freeCtr (s : State) (x : CalBlock) : (s.setCal x).freeCtr = s.freeCtr := rfl

@[simp] theorem State.emit_pending (s : State) (p : UpPacket) : (s.emit p).pending = s.pending := rfl
@[simp] theorem State.emit_regs (s : State) (p : UpPacket) : (s.emit p).regs = s.regs := rfl
@[simp] theorem State.emit_locked (s : State) (p : UpPacket) : (s.emit p).locked = s.locked := rfl
@[simp] theorem State.emit_tick (s : State) (p : UpPacket) : (s.emit p).tick = s.tick := rfl
@[simp] theorem State.emit_comp (s : State) (p : UpPacket) : (s.emit p).comp = s.comp := rfl
@[simp] theorem State.emit_eng (s : State) (p : UpPacket) : (s.emit p).eng = s.eng := rfl
@[simp] theorem State.emit_gko (s : State) (p : UpPacket) : (s.emit p).gko = s.gko := rfl
@[simp] theorem State.emit_scn (s : State) (p : UpPacket) : (s.emit p).scn = s.scn := rfl
@[simp] theorem State.emit_ring (s : State) (p : UpPacket) : (s.emit p).ring = s.ring := rfl
@[simp] theorem State.emit_link (s : State) (p : UpPacket) : (s.emit p).link = { s.link with upQueue := s.link.upQueue ++ [p] } := rfl
@[simp] theorem State.emit_can (s : State) (p : UpPacket) : (s.emit p).can = s.can := rfl
@[simp] theorem State.emit_cal (s : State) (p : UpPacket) : (s.emit p).cal = s.cal := rfl
@[simp] theorem State.emit_pix (s : State) (p : UpPacket) : (s.emit p).pix = s.pix := rfl
@[simp] theorem State.emit_skink (s : State) (p : UpPacket) : (s.emit p).skink = s.skink := rfl
@[simp] theorem State.emit_life (s : State) (p : UpPacket) : (s.emit p).life = s.life := rfl
@[simp] theorem State.emit_sal (s : State) (p : UpPacket) : (s.emit p).sal = s.sal := rfl
@[simp] theorem State.emit_thm (s : State) (p : UpPacket) : (s.emit p).thm = s.thm := rfl
@[simp] theorem State.emit_rcd (s : State) (p : UpPacket) : (s.emit p).rcd = s.rcd := rfl
@[simp] theorem State.emit_flt (s : State) (p : UpPacket) : (s.emit p).flt = s.flt := rfl
@[simp] theorem State.emit_sft (s : State) (p : UpPacket) : (s.emit p).sft = s.sft := rfl
@[simp] theorem State.emit_flash (s : State) (p : UpPacket) : (s.emit p).flash = s.flash := rfl
@[simp] theorem State.emit_bst (s : State) (p : UpPacket) : (s.emit p).bst = s.bst := rfl
@[simp] theorem State.emit_crc (s : State) (p : UpPacket) : (s.emit p).crc = s.crc := rfl
@[simp] theorem State.emit_jtag (s : State) (p : UpPacket) : (s.emit p).jtag = s.jtag := rfl
@[simp] theorem State.emit_sampled (s : State) (p : UpPacket) : (s.emit p).sampled = s.sampled := rfl
@[simp] theorem State.emit_fifo (s : State) (p : UpPacket) : (s.emit p).fifo = s.fifo := rfl
@[simp] theorem State.emit_data (s : State) (p : UpPacket) : (s.emit p).data = s.data := rfl
@[simp] theorem State.emit_freeCtr (s : State) (p : UpPacket) : (s.emit p).freeCtr = s.freeCtr := rfl

end Sys2Proof.Machine
end

