-- ==== Sys2Proof/Laws/Ops.lean ====
section
/-! SUPPORT. The named operations: register fields, counters, and how a command ends. -/

namespace Sys2Proof.Machine

/-- A field holds what was written, cut to its width. -/
theorem State.rd_wr_same (s : State) (f : Fld) (v : Nat) : (s.wr f v).rd f = v % 2 ^ f.width :=
  Cells.get_put_same _ _ _ _

/-- A write leaves every other field as it was. -/
theorem State.rd_wr_other (s : State) (f g : Fld) (v : Nat) (h : g.key ≠ f.key) : (s.wr f v).rd g = s.rd g :=
  Cells.get_put_other _ _ _ _ h

/-- A fault message changes no field. -/
@[simp] theorem State.rd_send (s : State) (f : Fld) (a b c : Nat) : (s.send a b c).rd f = s.rd f := rfl
@[simp] theorem State.rd_sendMsg (s : State) (f : Fld) (m : Msg) : (s.sendMsg m).rd f = s.rd f := rfl

/-- A counter that saturates changes no field but what FLT_SAT shows (R355). -/
theorem State.rd_saturated (s : State) (f g : Fld) (h1 : g.key ≠ FLT_SAT_ADDR.key) (h2 : g.key ≠ FLT_SAT_FLAG.key) :
    (s.saturated f).rd g = s.rd g := by
  have e : (s.satFlag (satOffset f)).rd g = s.rd g := by
    unfold State.satFlag
    cases s.isOn FLT_SAT_FLAG
    · exact (State.rd_wr_other _ _ _ _ h2).trans (State.rd_wr_other _ _ _ _ h1)
    · rfl
  unfold State.saturated
  cases plainCounter f
  · exact (State.rd_send _ _ _ _ _).trans e
  · exact e

/-- A counter reads n more, or stays at all ones. -/
theorem State.rd_bumpBy_same (s : State) (f : Fld) (n : Nat) (h1 : f.key ≠ FLT_SAT_ADDR.key)
    (h2 : f.key ≠ FLT_SAT_FLAG.key) : (s.bumpBy f n).rd f = min (2 ^ f.width - 1) (s.rd f + n) := by
  have hlt : satAdd f.width (s.rd f) n % 2 ^ f.width = satAdd f.width (s.rd f) n :=
    Nat.mod_eq_of_lt (by have := Nat.two_pow_pos f.width; simp only [satAdd]; omega)
  by_cases h : satAdd f.width (s.rd f) n = 2 ^ f.width - 1 ∧ s.rd f ≠ satAdd f.width (s.rd f) n
  · simp only [State.bumpBy, if_pos h]
    rw [State.rd_saturated _ _ _ h1 h2, State.rd_wr_same, hlt]
    rfl
  · simp only [State.bumpBy, if_neg h]
    rw [State.rd_wr_same, hlt]
    rfl

/-- A counter that counts changes no other field, but what FLT_SAT shows (R355). -/
theorem State.rd_bumpBy_other (s : State) (f g : Fld) (n : Nat) (h : g.key ≠ f.key) (h1 : g.key ≠ FLT_SAT_ADDR.key)
    (h2 : g.key ≠ FLT_SAT_FLAG.key) : (s.bumpBy f n).rd g = s.rd g := by
  by_cases c : satAdd f.width (s.rd f) n = 2 ^ f.width - 1 ∧ s.rd f ≠ satAdd f.width (s.rd f) n
  · simp only [State.bumpBy, if_pos c]
    rw [State.rd_saturated _ _ _ h1 h2, State.rd_wr_other _ _ _ _ h]
  · simp only [State.bumpBy, if_neg c]
    exact State.rd_wr_other _ _ _ _ h

theorem State.rd_bump_same (s : State) (f : Fld) (h1 : f.key ≠ FLT_SAT_ADDR.key) (h2 : f.key ≠ FLT_SAT_FLAG.key) :
    (s.bump f).rd f = min (2 ^ f.width - 1) (s.rd f + 1) := State.rd_bumpBy_same s f 1 h1 h2

theorem State.rd_bump_other (s : State) (f g : Fld) (h : g.key ≠ f.key) (h1 : g.key ≠ FLT_SAT_ADDR.key)
    (h2 : g.key ≠ FLT_SAT_FLAG.key) : (s.bump f).rd g = s.rd g := State.rd_bumpBy_other s f g 1 h h1 h2

/-- A counter below its last value but one counts and does nothing else (R355). -/
theorem State.bump_below (s : State) (f : Fld) (h : s.rd f + 1 < 2 ^ f.width - 1) : s.bump f = s.wr f (s.rd f + 1) := by
  have e : satAdd f.width (s.rd f) 1 = s.rd f + 1 := by simp only [satAdd]; omega
  simp only [State.bump, State.bumpBy, e]
  rw [if_neg (by omega)]

/-- A counter that counts leaves everything but registers and messages as it was. -/
theorem State.bump_rest (s : State) (f : Fld) :
    { s.bump f with regs := s.regs, fifo := s.fifo, flt := { (s.bump f).flt with sent := s.flt.sent } } = s := by
  simp only [State.bump, State.bumpBy]
  split
  · simp only [State.saturated, State.satFlag]
    split <;> split <;> rfl
  · rfl

/-- Writes of two different fields may be read one by one. -/
theorem keepsBut_wr (s : State) (f : Fld) (v : Nat) : keepsBut s (s.wr f v) [f] := by
  intro g hg
  exact State.rd_wr_other _ _ _ _ (hg f (by simp))

theorem keepsBut_refl (s : State) (fs : List Fld) : keepsBut s s fs := fun _ _ => rfl

theorem keepsBut_trans {s t u : State} {fs : List Fld} (h : keepsBut s t fs) (k : keepsBut t u fs) : keepsBut s u fs :=
  fun g hg => (k g hg).trans (h g hg)

theorem keepsBut_mono {s t : State} {fs es : List Fld} (h : keepsBut s t fs) (hs : ∀ f ∈ fs, f ∈ es) : keepsBut s t es :=
  fun g hg => h g (fun f hf => hg f (hs f hf))

theorem keepsBut_wr_of {s t : State} {f : Fld} {fs : List Fld} (v : Nat) (h : keepsBut s t fs) (hf : f ∈ fs) :
    keepsBut s (t.wr f v) fs :=
  fun g hg => (State.rd_wr_other _ _ _ _ (hg f hf)).trans (h g hg)

/-- What leaves the register words alone keeps every field. -/
theorem keepsBut_regs {s t u : State} {fs : List Fld} (h : keepsBut s t fs) (e : u.regs = t.regs) : keepsBut s u fs :=
  fun g hg => (congrArg (fun r => Cells.reg r g) e).trans (h g hg)

/-- Out of reset a command leaves what its meaning gives (R398). -/
theorem State.heldOr_released {s : State} (h : s.life.released = true) (t : State) : s.heldOr t = t := by
  simp [State.heldOr, h]

/-- In reset it leaves the device as it is (R398). -/
theorem State.heldOr_held {s : State} (h : s.life.released = false) (t : State) : s.heldOr t = s := by
  simp [State.heldOr, h]

/-- What holds of the device before and of what a command's meaning gives holds after. -/
theorem State.heldOr_of {P : State → Prop} {s t : State} (hs : P s) (ht : P t) : P (s.heldOr t) := by
  unfold State.heldOr; split <;> assumption

/-- A well-formed command of `runs` gives its meaning's state, with queue, life cycle and flash kept. -/
theorem runs_true {s : State} (h : s.life.released = true) (t : State) :
    runs true s t = .next { t with pending := s.pending, life := s.life, flash := s.flash } := by
  simp [runs, State.heldOr_released h]
theorem programs_true {s : State} (h : s.life.released = true) (t : State) :
    programs true s t = .next { t with pending := s.pending, life := s.life } := by
  simp [programs, State.heldOr_released h]
theorem advances_true {s : State} (h : s.life.released = true) (t : State) :
    advances true s t = .next { t with pending := s.pending } := by simp [advances, State.heldOr_released h]
theorem holds_true (s t : State) : holds true s t = .next { t with pending := s.pending, life := s.life } := rfl
theorem resetsTo_true (s t : State) : resetsTo true s t = .next { t with pending := s.pending } := rfl

/-- In reset a well-formed command of these kinds does nothing (R398). -/
theorem runs_held {s : State} (h : s.life.released = false) (t : State) : runs true s t = .next s := by
  simp [runs, State.heldOr_held h]
theorem programs_held {s : State} (h : s.life.released = false) (t : State) : programs true s t = .next s := by
  simp [programs, State.heldOr_held h]
theorem advances_held {s : State} (h : s.life.released = false) (t : State) : advances true s t = .next s := by
  simp [advances, State.heldOr_held h]

/-- A well-formed command of `runs` whose meaning keeps queue, life cycle and flash answers its meaning's state. -/
theorem runs_exists {s t : State} {P : State → Prop} (hr : s.life.released = true) (hp : t.pending = s.pending)
    (hl : t.life = s.life) (hf : t.flash = s.flash) (h : P t) : ∃ u : State, runs true s t = .next u ∧ P u := by
  refine ⟨t, ?_, h⟩
  rw [runs_true hr, ← hp, ← hl, ← hf]

theorem runs_next {ok : Bool} {s t u : State} (h : runs ok s t = .next u) :
    ok = true ∧ u = s.heldOr { t with pending := s.pending, life := s.life, flash := s.flash } := by
  cases ok <;> simp_all [runs]
theorem programs_next {ok : Bool} {s t u : State} (h : programs ok s t = .next u) :
    ok = true ∧ u = s.heldOr { t with pending := s.pending, life := s.life } := by
  cases ok <;> simp_all [programs]
theorem advances_next {ok : Bool} {s t u : State} (h : advances ok s t = .next u) :
    ok = true ∧ u = s.heldOr { t with pending := s.pending } := by
  cases ok <;> simp_all [advances]
theorem holds_next {ok : Bool} {s t u : State} (h : holds ok s t = .next u) :
    ok = true ∧ u = { t with pending := s.pending, life := s.life } := by
  cases ok <;> simp_all [holds]
theorem resetsTo_next {ok : Bool} {s t u : State} (h : resetsTo ok s t = .next u) :
    ok = true ∧ u = { t with pending := s.pending } := by
  cases ok <;> simp_all [resetsTo]
theorem boots_next {ok : Bool} {s t u : State} (h : boots ok s t = .next u) :
    ok = true ∧ u = { t with pending := s.pending, life := { t.life with state := s.life.state, pending := s.life.pending } } := by
  cases ok <;> simp_all [boots]

end Sys2Proof.Machine
end

