-- ==== Sys2Proof/Laws/Links.lean ====
section
/-! SUPPORT. What arrives on the links: packets, headers, control blocks and CAN frames. Each lemma says what its operation
answers in one case, so that a proof cites the case and leaves the operation folded. -/

namespace Sys2Proof.Machine

/-- An LLC block that goes out writes no register. -/
@[simp] theorem State.sendLlc_regs (s : State) : s.sendLlc.regs = s.regs := rfl

/-- It leaves the fault messages alone. -/
@[simp] theorem State.sendLlc_fifo (s : State) : s.sendLlc.fifo = s.fifo := rfl

/-- It changes the link in what was sent last and in the discarding alone (R273, R276). -/
@[simp] theorem State.sendLlc_link (s : State) :
    s.sendLlc.link = { s.link with llcSent := s.llcOut, deaf := false } := rfl

/-- Where data is taken a packet is. -/
theorem State.received_taken {s : State} (h : s.link.deaf = false) (w : Wire) (p n k : Nat) (act : State → State) :
    s.received w p n k act = s.takePacket w p n k act := by simp [State.received, h]

/-- After a framing error a packet is discarded, or taken behind the device's next LLC block (R273). -/
theorem State.received_deaf {s : State} (h : s.link.deaf = true) (w : Wire) (p n k : Nat) (act : State → State) :
    s.received w p n k act = s.free.2 ∨ s.received w p n k act = s.free.2.sendLlc.takePacket w p n k act := by
  by_cases e : s.free.1 % 2 = 0
  · exact .inl (by simp only [State.received, h, e, if_true])
  · exact .inr (by simp only [State.received, h, e, if_true, if_false])

/-- An intact packet is carried out, then acknowledged (R276, R277). -/
theorem State.received_intact {s : State} (h : s.link.deaf = false) (p n k : Nat) (act : State → State) :
    s.received .intact p n k act = (act (s.setLink { s.link with
      rxSeq := (s.link.rxSeq + 1) % 4096, nak := false
      took := [(s.link.took.getD 0 0 + p) % 256, (s.link.took.getD 1 0 + ceilDiv (4 * k) 16) % 4096,
        (s.link.took.getD 2 0 + n) % 256] })).sendLlc := State.received_taken h ..

/-- A packet past a gap is answered with a NAK and does nothing else (R277). -/
theorem State.received_gap {s : State} (h : s.link.deaf = false) (p n k : Nat) (act : State → State) :
    s.received .gap p n k act = (s.setLink { s.link with nak := true }).sendLlc := State.received_taken h ..

/-- A packet that is taken and not intact changes fields of the error counters only (R273, R298). -/
theorem State.takePacket_lost {s : State} {w : Wire} (h : w ≠ .intact) (p n k : Nat) (act : State → State) :
    keepsBut s (s.takePacket w p n k act) [LNK_ERR_CRC_ERR, FLT_SAT_ADDR, FLT_SAT_FLAG] := by
  intro g hg
  have e1 := hg LNK_ERR_CRC_ERR (by simp)
  have e2 := hg FLT_SAT_ADDR (by simp)
  have e3 := hg FLT_SAT_FLAG (by simp)
  have count : ((s.setLink { s.link with nak := true }).bump LNK_ERR_CRC_ERR).rd g = s.rd g :=
    State.rd_bump_other (s.setLink _) LNK_ERR_CRC_ERR g e1 e2 e3
  cases w with
  | intact => exact absurd rfl h
  | gap => rfl
  | crc => simpa only [State.takePacket, State.sendLlc, State.rd, State.setLink_regs] using count
  | framing => simpa only [State.takePacket, State.sendLlc, State.rd, State.setLink_regs] using count

/-- A packet that is not intact changes fields of the error counters only (R273, R298). -/
theorem State.received_lost {s : State} {w : Wire} (h : w ≠ .intact) (p n k : Nat) (act : State → State) :
    keepsBut s (s.received w p n k act) [LNK_ERR_CRC_ERR, FLT_SAT_ADDR, FLT_SAT_FLAG] := by
  by_cases d : s.link.deaf = true
  · rcases State.received_deaf d w p n k act with e | e
    · exact keepsBut_regs (keepsBut_refl s _) (by rw [e]; rfl)
    · rw [e]
      exact keepsBut_trans (keepsBut_regs (keepsBut_refl s _) rfl) (State.takePacket_lost h p n k act)
  · rw [State.received_taken (by simpa using d)]
    exact State.takePacket_lost h p n k act

/-- A header as R274 lays it down lets its packet through. -/
theorem State.headed_clean (s : State) (type code : Nat) (act : State → State) : s.headed {} type code act = act s := by
  simp [State.headed]

/-- A reserved TYPE makes a packet malformed whatever else it holds (R274). -/
theorem State.headed_type (s : State) {h : Head} {t : Nat} (e : h.type = some t) (type code : Nat) (act : State → State) :
    s.headed h type code act = s.malformed t code := by simp [State.headed, e]

/-- A control block with no good copy does nothing (R264). -/
theorem State.controlBlock_none {copies : List (List Nat)} (h : goodCopy copies = none) (s : State) (type : Nat)
    (act : List Nat → State → State) : s.controlBlock type copies act = s := by simp [State.controlBlock, h]

/-- The good copy of the type asked for is acted on (R264). -/
theorem State.controlBlock_good {copies : List (List Nat)} {bs : List Nat} (h : goodCopy copies = some bs) (s : State)
    (type : Nat) (act : List Nat → State → State) (e : byteAt bs 0 = type) : s.controlBlock type copies act = act bs s := by
  simp [State.controlBlock, h, e]

/-- Off the bus, or bus-off, the controller hears nothing (R296). -/
theorem State.canReceive_off {s : State} (h : s.canOn = false) (f : CanFrame) (busy : Bool) : s.canReceive f busy = s := by
  simp [State.canReceive, h]

/-- A frame under neither identifier leaves the receive buffer without effect (R292). -/
theorem State.canTake_other {s : State} {f : CanFrame} (h0 : s.canUnder 0 f = false) (h1 : s.canUnder 1 f = false) :
    s.canTake f = s := by simp [State.canTake, h0, h1]

end Sys2Proof.Machine
end

