-- ==== Sys2Proof/Laws/Readings.lean ====
section
/-! SUPPORT. What the converter makes of a true forward voltage, and what the sensors govern. -/

namespace Sys2Proof.Machine

/-- A reading of the converter fits its 12 bits (R150). -/
theorem adc_le (v : Nat) : adc v ≤ 4095 := Nat.min_le_left _ _

/-- Within its range the converter reads the voltage it is given (R150). -/
theorem adc_of_le {v : Nat} (h : v ≤ 4095) : adc v = v := Nat.min_eq_right h

/-- Every forward-voltage reading fits the 12 bits of its entry (R150, R165). -/
theorem State.vfRead_le (s : State) (vf : Readings) (n i row c : Nat) : s.vfRead vf n i row c ≤ 4095 := adc_le _

/-- Off column 63 of die B, and on any other stepping than A1, a reading is the true voltage, up to the end of the
converter's range (R150, R446, R451). -/
theorem State.vfRead_true {s : State} {n c : Nat} (h : s.isA1 = false ∨ n < 32 ∨ c ≠ 63) (vf : Readings) (i row : Nat) :
    s.vfRead vf n i row c = min 4095 (vf.at' (n * 320 + i * 64 + c)) := by
  show adc _ = adc _
  rw [if_neg]
  rintro ⟨a, b, d⟩
  rcases h with h | h | h
  · simp [h] at a
  · omega
  · exact h d

/-- On A1 column 63 of die B reads 5 to 7 mV high, up to the end of the converter's range (R150, R451). -/
theorem State.vfRead_high {s : State} {n : Nat} (a : s.isA1 = true) (h : 32 ≤ n) (vf : Readings) (i row : Nat) :
    ∃ k < 3, s.vfRead vf n i row 63 = min 4095 (vf.at' (n * 320 + i * 64 + 63) + 5 + k) :=
  ⟨Config.vfOffset (regionPix n 63 row) % 3, Nat.mod_lt _ (by decide), by simp [State.vfRead, adc, a, h]⟩

/-- A new choice of the sensors that govern changes no register (R199). -/
@[simp] theorem State.regovern_regs (s : State) : s.regovern.regs = s.regs := rfl

end Sys2Proof.Machine
end

