-- ==== Sys2Proof/Laws/Rings.lean ====
section
/-! SUPPORT. A COMMIT that waits for its ring (R74, R76), and the copies of the health memory (R161, R355). -/

namespace Sys2Proof.Machine

/-- A COMMIT behind background work of its ring leaves the state as it is. -/
theorem State.tryCommit_waits {s : State} {f : Flight} (h : s.awaitsEarlier f = true) : s.tryCommit f = s := by
  simp [State.tryCommit, h]

/-- With nothing before it, a COMMIT is taken. -/
theorem State.tryCommit_taken {s : State} {f : Flight} (h : s.awaitsEarlier f = false) :
    s.tryCommit f = s.doCommitTaken f := by
  simp [State.tryCommit, h]

/-- What a COMMIT waits for: a descriptor of its own ring, before it, whose background work goes on. -/
theorem State.awaitsEarlier_iff {s : State} {f : Flight} :
    s.awaitsEarlier f = true ↔
      ∃ g ∈ s.ring.flights, g.ring = f.ring ∧ g.id < f.id ∧ isBackground g.opcode = true ∧ g.ended = false := by
  simp [State.awaitsEarlier, and_assoc]

/-- No COMMIT waits in an empty ring. -/
theorem State.commitWaiting_nil {s : State} (h : s.ring.flights = []) (id : Nat) : s.commitWaiting id = false := by
  simp [State.commitWaiting, h]

/-- The number of a health save keeps its 16 bits. -/
theorem healthCopy_le (l : List (Option Copy)) (last : Nat) : (healthCopy l last).2 ≤ 65535 := by
  unfold healthCopy; split
  · decide
  · exact Nat.min_le_left _ _

/-- The copies are two. -/
theorem healthCopy_place (l : List (Option Copy)) (last : Nat) : (healthCopy l last).1 < 2 := by
  unfold healthCopy; split
  · decide
  · show 1 - _ < 2
    omega

/-- A save over one good copy goes to the other place. -/
theorem healthCopy_of_newest {l : List (Option Copy)} {last i : Nat} {c : Copy} (h : newestHealth l last = some (i, c)) :
    healthCopy l last = (1 - i, min 65535 (c.seq + 1)) := by
  simp [healthCopy, h]

end Sys2Proof.Machine
end

