-- ==== Sys2Proof/Laws/Sessions.lean ====
section
/-! SUPPORT. What closing, settling and judging can do: sessions and their accounts (R327, R334), measured patterns (R382),
the rails of a release (R423). -/

namespace Sys2Proof.Machine

theorem State.noteChange_only (s : State) (n : Nat) :
    s.noteChange n = s.setSft { s.sft with changed := (s.noteChange n).sft.changed, closing := (s.noteChange n).sft.closing } := rfl
@[simp] theorem State.noteChange_regs (s : State) (n : Nat) : (s.noteChange n).regs = s.regs := rfl
@[simp] theorem State.noteChange_flash (s : State) (n : Nat) : (s.noteChange n).flash = s.flash := rfl

/-- Noting a change opens and settles no account. -/
theorem State.noteChange_numbers (s : State) (n : Nat) :
    (s.noteChange n).sft.closing.map (fun a => a.no) = s.sft.closing.map (fun a => a.no) := by
  simp [State.noteChange, Function.comp_def]

/-- A session that persisted no change leaves the state as it is when it is settled. -/
theorem State.settleSession_unchanged (s : State) {a : Account} (h : a.changed = false) : s.settleSession a = s := by
  simp [State.settleSession, h]

theorem State.carriedEpoch_none (s : State) : s.carriedEpoch 0 = s.epochNow := rfl

/-- The epoch only grows. -/
theorem State.lt_epochAfter (s : State) (e : Nat) : e < s.epochAfter e := by
  unfold State.epochAfter; split <;> omega

theorem State.closeAccount_closed (s : State) : (s.closeAccount).isOn SFT_SESS_STAT_ACTIVE = false := by
  unfold State.closeAccount
  split
  · next h => simpa using h
  · simp only [State.isOn]
    rw [State.rd_wr_other _ _ _ _ (by decide), State.rd_wr_same]
    decide

theorem mem_outsideOf {num : Nat} {l : List (Nat × Nat)} {p : Nat × Nat} :
    p ∈ outsideOf num l ↔ p ∈ l ∧ outside num p.1 p.2 = true := List.mem_filter

/-- Whatever may have risen through its release threshold may be above its reset threshold. -/
theorem aboveReset_of_aboveRelease {rail mv : Nat} (hr : rail < 6) (h : aboveRelease rail mv = true) : aboveReset rail mv = true := by
  unfold aboveRelease at h
  unfold aboveReset
  have : rail = 0 ∨ rail = 1 ∨ rail = 2 ∨ rail = 3 ∨ rail = 4 ∨ rail = 5 := by omega
  obtain rfl | rfl | rfl | rfl | rfl | rfl := this <;> simp [releaseLimit, resetLimit, limitAt] at h ⊢ <;> omega

end Sys2Proof.Machine
end

