-- ==== Sys2Proof/Tests/Slice0.lean ====
section
/-! SUPPORT. The tests: commands that the checks of WellFormed refuse, worked examples of the spec on single commands, and for
each statement states and operands that meet its hypotheses, clause by clause. -/

namespace Sys2Proof.Tests

-- one theorem at a time: checked side by side they would each hold a thread
set_option Elab.async false

open Sys2Proof Sys2Proof.Machine

/-- The state after reset, let go of it (R398), with the test access port free (R393). -/
def up : State :=
  { State.reset with life := { State.reset.life with released := true }, jtag := { State.reset.jtag with held := false } }

/-- That state with some register fields set. -/
def put (l : List (Fld × Nat)) : State := l.foldl (fun s p => s.wr p.1 p.2) up

/-- A descriptor of ring 0, slot 0. -/
def desc (args : List Nat) : Desc := ⟨0, 0, 0, false, false, 0, args⟩

/-- A flight of ring 0 at work: descriptor 5, accepted, its data in. -/
def flight (op : Nat) (args : List Nat) (buf : Cells) : Flight :=
  { id := 5, ring := 0, slot := 3, opcode := op, fence := false, hint := false, cookie := 77, args := args, stage := .accepted,
    buf := buf }

/-- The state with that flight alone. -/
def busy (f : Flight) : State := { up with ring := { up.ring with flights := [f] } }

/-- What a command leaves, where it leaves something that p holds of. -/
def after (o : Host.Outcome State Fault Refusal) (p : State → Bool) : Bool :=
  match o with
  | .next t => p t
  | _ => false

/-! ### Ill-formed commands are refused -/

theorem test_wf_refuses_operands :
    ([.registerWrite (.engine 32) 0 0, .registerWrite .host 0x1000000 0, .registerWrite .host 0 (2 ^ 32),
      .readClear (.engine 32) 0, .readClear .jtag 0x1000000, .broadcastWrite .host 3 0 0, .broadcastWrite .host 0 0x1000 0,
      .broadcastWrite .host 0 2 0, .broadcastRead .host 16 0, .broadcastRead .host 0 1, .tckApplyGo (2 ^ 32), .seedWrite 16,
      .axlHdataWrite false 65536, .ringEnable 8, .ringDisable 8, .fltAck (2 ^ 32), .fltSevWrite 128 0, .lcsAdvance 8 0,
      .lcsAdvance 0 65536, .sessionOpenPassword 64, .sessionSetPassword 64, .sftPilotCrcWrite (2 ^ 32), .sftFeatWrite 16,
      .bstStartGo 256, .crcStart 4 0, .crcDataWrite 0 3 0, .crcDataWrite 0 1 256, .crcValueWrite 4 0, .crcRead 4 true] :
      List Instr).all (fun c => !c.wf) = true := by decide +kernel

theorem test_wf_refuses_link :
    ([.linkReadRequest .intact {} 256 0 1, .linkReadRequest .intact {} 0 0 4096, .linkReadRequest .crc { type := some 4 } 0 0 1,
      .linkWriteRequest .intact {} (2 ^ 64) [], .linkWriteRequest .intact {} 0 [2 ^ 32],
      .linkWriteRequest .intact {} 0 (List.replicate 512 0), .hostReadCompletion .intact {} 256 0 true [],
      .hostReadError .intact {} 256 1, .hostReadError .intact {} 0 16, .hostReadTimeout 256, .descriptorRelease 8,
      .cplRingRetry 8, .cplStall 8, .doorbellHint .intact {} [2 ^ 32], .doorbellHint .gap { code := some 1 } [],
      .tickMark .intact {} [2 ^ 32], .safetyCopy .intact {} [2 ^ 32], .llcBlock [], .llcBlock [List.replicate 16 256],
      .pmL1Entry [[]], .pmL2Request (List.replicate 5 (List.replicate 16 0)), .echoReturn [List.replicate 16 0] (2 ^ 32),
      .trainingBlock 4 (List.replicate 16 0) (List.replicate 16 0), .trainingBlock 0 [] [], .laneSignalDetect 5 200, .laneSignalDetect 0 65536,
      .laneLossOfSignal 4 0, .laneLossOfSignal 0 65536, .blockLockAcquired 5 false 0, .blockLockLost 4, .trainingPhaseDone (2 ^ 32) [],
      .trainingPhaseDone 0 [⟨4, 0, 0, 0⟩], .tagQuarantineEnd 256, .l1RecalStart 4, .l1RecalDone 0 40000 0,
      .slFrameReceived [] 0, .slEchoReturn 0 256 0, .slLoss 2 0, .slLoss 0 65536, .peerLost 4, .canSafetyPart { id := 2048, data := [] } false,
      .canStatusRequest { id := 0, data := [256] } false, .canFallbackRequest { id := 0, fd := true, data := List.replicate 9 0 } false,
      .canFallbackRequest { id := 0, brs := true, data := [] } true, .canRemoteFrame 256, .canErrorPassive 256 0,
      .canFrameSent 256 0, .canFrameSent 0 256] : List Instr).all (fun c => !c.wf) = true := by decide +kernel

theorem test_wf_refuses_rest :
    ([.surfaceBind (desc []), .layerSet ⟨8, 0, 0, false, false, 0, List.replicate 7 0⟩,
      .commit ⟨0, 4096, 0, false, false, 0, List.replicate 7 0⟩, .fadeLoad ⟨0, 0, 64, false, false, 0, List.replicate 7 0⟩,
      .symbolLoad ⟨0, 0, 0, false, false, 65536, List.replicate 7 0⟩, .objectList (desc (List.replicate 7 (2 ^ 32))),
      .budgetSet (desc []), .envelopeLoad (desc []), .calUserWrite (desc []), .bistRun (desc []), .recorderRead (desc []),
      .recorderFreeze (desc []), .crcRun (desc []), .resume (desc []), .statusSnapshot (desc []), .engineLoad (desc []),
      .unknownOpcode 16 (desc (List.replicate 7 0)), .unknownOpcode 256 (desc (List.replicate 7 0)), .engineImageVerified 32,
      .bistTestEnd [(2 ^ 32, 0)], .rowStart [64] [], .rowStart [] [(0, 3)], .geckoBandDone 65536,
      .compositionDone 65536, .resolveDone 65536, .scaleClampDone [(0, 256)], .layerFrozen 8, .vledUnder 2,
      .sensorReadmit 40, .throttleFreezeLift 40, .readbackMismatch 2, .fingerprintMismatch 4, .engineItemPreempt 32 0,
      .engineWatchdog 0 (2 ^ 24), .engineAccessViolation 32 0, .engineEccError 0 true true (2 ^ 23), .engineIllegalOp 32 0,
      .engineEventPost 0 (2 ^ 32) 0 0, .extTableHoldExpiry 32, .faultMessage [(1024, 0, 0)],
      .collectorSelfFault 3 0, .collectorSelfFault 1 (2 ^ 24),
      .dualInputSample 16, .discrepancy 2, .inputRearm 2, .skinkSramCheck [(2 ^ 24, 0)], .tickPeriod (2 ^ 24),
      .scanClockCheck (2 ^ 20) 0, .pixbusLockLost 2 0, .pixbusLockLost 0 4, .emitterCroakTimeout 2,
      .vsafePowerOn 65536, .railBelowReset 0 0, .railBelowReset 6 0, .railBelowReset 1 65536, .vsafeBelowReset 65536,
      .resetRelease { fails := [(22, 0)] }, .resetRelease { rails := [] }, .resetRelease { lanes := [⟨13, 0, 0, []⟩] }, .supplyThresholdCrossing 6 true 0,
      .powerFail 65536, .jtagInstruction (.read 0x1000000), .jtagInstruction (.write 0 (2 ^ 32)), .subPeriodStart 65536 0] :
      List Instr).all (fun c => !c.wf) = true := by decide +kernel

theorem test_wf_refuses_boundaries :
    ([{ measUs := 65536 }, { slackUs := 8192 }, { engines := [⟨32, 0, none⟩] }, { firmware := some [{ cls := 16 }] },
      { tables := [(32, [])] }, { sensors := [] }, { latB := 256 }, { relocked := [8] },
      { rbA := .value (2 ^ 32) }, { utilA := 256 }, { refDev := [(64, 0)] }, { bandgap := [(64, 0)] }, { eq := [⟨4, 0, 0, 0⟩] }, { ecc := [(1310720, true)] },
      { forward := { base := 65536 } }, { groupFails := [(0, 2 ^ 32)] }] : List BoundaryIn).all
      (fun x => !(Instr.tickBoundary x).wf) = true := by decide +kernel

theorem test_wf_accepts_a_boundary : (Instr.tickBoundary {}).wf = true := by decide +kernel

/-- An ill-formed command stops by name (log 106). -/
theorem test_ill_formed_stops : exec (.seedWrite 16) up = .fault .illFormed := rfl

/-! ### Worked examples of the spec -/

/-- The example of R390: CRC-16-CCITT over "123456789", its writes as there, is 0x29B1. -/
theorem test_crc_example :
    after (execAll [.crcStart 1 6, .crcDataWrite 1 4 0x34333231, .crcDataWrite 1 4 0x38373635, .crcDataWrite 1 1 0x39,
      .crcRead 1 true] up) (fun t => t.data == 0x29B1) = true := by decide +kernel

/-- The check value of ASCII "123456789" in R388, for the four algorithms. -/
theorem test_crc_check_values :
    [0, 1, 2, 3].map (fun a => (Algo.numbered a).of [0x31, 0x32, 0x33, 0x34, 0x35, 0x36, 0x37, 0x38, 0x39]) =
      [0xE3069283, 0xCBF43926, 0x29B1, 0x4B] := by decide +kernel

/-- 8,191 takes range 1/4, 8,190 range 1/8; 65,535 range 3 at 4,095 (R131, R132). -/
theorem test_drive_map : driveMap 0 false 8190 = (0, 4095) ∧ driveMap 0 false 8191 = (1, 2048) ∧
    driveMap 0 false 65535 = (3, 4095) := by decide +kernel

/-- Low codes of the 1/8 range with LOWCUT (R132): 14 is code 7, 16 is code 8. -/
theorem test_lowcut : driveMap 0 true 14 = (0, 0) ∧ driveMap 0 true 16 = (0, 16) := by decide +kernel

/-- The default row time of R32: (4,000 − 250) × 320 / 320 cycles. -/
theorem test_row_time : up.rd TCK_ROWTIME_ROW_CYC = 3750 := by decide +kernel

/-- A write of TCK_PERIOD is read back, and comes into force at the third boundary after GO (R33). -/
theorem test_apply : after (exec (.registerWrite .host 0x10004 5000) up) (fun s =>
    after (exec (.tckApplyGo 1) s) (fun t => t.tick.change == some (5000, 250, 3))) = true := by decide +kernel

/-- An RC counter answers and clears (R9). -/
theorem test_read_clear : after (exec (.readClear .host 0x10034) (put [(TCK_OVR_COUNT_COUNT, 7)]))
    (fun t => t.data == 7 && t.rd TCK_OVR_COUNT_COUNT == 0) = true := by decide +kernel

/-- A lane that loses signal is counted and sent as LOS from its source (R266). -/
theorem test_lane_los : after (exec (.laneLossOfSignal 2 60) (put [(LNK_DL_LOS 2, 0), (LNK_STAT_STATE, 7)]))
    (fun t => t.rd LNK_LANECNT_LOS == 1 && t.fifo.map (fun m => (m.source, m.kind)) == [(0x082, 1)]) = true := by
  decide +kernel

/-- A RESET_N pulse of 10 µs is a warm reset of cause 4 (R401). -/
theorem test_warm_reset : after (exec (.resetNPulse 10000 false) up)
    (fun t => t.rd LCS_RESET_CAUSE == 4 && t.rd LCS_RESET_WARM == 1) = true := by decide +kernel

/-- HBP reads permitted only with channel A high and B low (R317). -/
theorem test_hbp : [0, 1, 2, 3].map (fun p => after (exec (.dualInputSample p) up) (fun t => t.rd SFT_INPUTS_HBP == 1)) =
    [false, true, false, false] := by decide +kernel

/-- LBF reads not asserted only at its inactive pair (R317). -/
theorem test_lbf : [0, 4, 8, 12].map (fun p => after (exec (.dualInputSample p) up) (fun t => t.rd SFT_INPUTS_LBF == 1)) =
    [true, true, false, true] := by decide +kernel

/-- The bytes of "abc" hash as in FIPS 180-4, which R96 and R331 name. -/
theorem test_sha256 : sha256 [0x61, 0x62, 0x63] = 0xba7816bf8f01cfea414140de5dae2223b00361a396177a9cb410ff61f20015ad := by
  decide +kernel

/-- A tile's index and the pixel's address (R16, R20). -/
theorem test_tile : pixAddr 2047 639 = 639 * 2048 + 2047 ∧ tileOf (pixAddr 2047 639) = 1279 ∧ tileOf (pixAddr 33 32) = 65 := by
  decide +kernel

/-! ### Witnesses: for each statement, states and operands that meet the hypotheses of each clause -/

/-- The premise of most statements: the device is not held in reset. Every state below is built on this one. -/
theorem witness_released : up.life.released = true ∧ State.reset.life.released = false := by decide

theorem witness_StepRunsTheFrontCommand :
    ({ up with pending := [.baskEnd, .hostWait] } : State).pending = .baskEnd :: [.hostWait] := rfl

theorem witness_CommandsCompleteOrStop : (Instr.seedWrite 15).wf = true ∧ (Instr.seedWrite 16).wf = false ∧
    actsInReset (.seedWrite 15) = false ∧ State.reset.life.released = false := by decide

theorem witness_QueuesRunDown :
    ({ up with pending := [.baskEnd, .seedWrite 15] } : State).orderly = true ∧ up.orderly = true ∧
      up.pending = [] := by decide +kernel

/-- A reset command in SEALED with COMMISSIONED pending: the step brings the pending state into force. -/
def advancing : State :=
  { up with pending := [.railBelowReset 1 700], life := { up.life with state := 2, pending := 3 } }

theorem witness_LifeCycleStaysLegal :
    up.lifeOk = true ∧ step up = .next up ∧ advancing.lifeOk = true ∧
      ranOn (step advancing) = true := ⟨by decide, rfl, by decide, by decide +kernel⟩

theorem witness_LifeCycleNeverGoesBack :
    advancing.lifeOk = true ∧ after (step advancing) (fun t => t.life.state == 3) = true ∧
      ({ up with life := { up.life with state := 5, pending := 5 } } : State).lifeOk = true := by
  decide +kernel

theorem witness_OnlyProgrammingReachesTheFlash :
    writesFlash .baskEnd = false ∧ ranOn (exec .baskEnd up) = true := by decide +kernel

theorem witness_WritesFollowTheAccessTypes :
    2 ^ 32 - 1 < 2 ^ 32 ∧ Cells.get up.locked 0 SFT_HOSTWAIT_MS.key = 0 ∧
      after (exec (.registerWrite .host 0x380050 200) up)
        (fun t => Cells.get t.locked 0 SFT_HOSTWAIT_MS.key != 0) = true := by decide +kernel

theorem witness_ReadsFollowTheAccessTypes :
    up.life.released = true ∧ after (exec (.readClear .host 0x10034) (put [(TCK_OVR_COUNT_COUNT, 5)]))
      (fun t => t.data == 5 && t.rd TCK_OVR_COUNT_COUNT == 0) = true := by decide +kernel

theorem witness_RefusedAccessesDoNothing :
    (0xFFFFC % 4 = 0 ∧ 0xE0000 ≤ 0xFFFFC ∧ 0xFFFFC < 0x100000) ∧ (0x27FFFC % 4 = 0 ∧ 0x250000 ≤ 0x27FFFC) ∧
      (0x82000 % 4 = 0 ∧ 0x82000 < 0xA0000) ∧ (2 ^ 24 - 1 < 2 ^ 24 ∧ (2 ^ 24 - 1) % 4 ≠ 0) ∧
      ((put [(NWT_CTL_ROLE 31, 2), (NWT_STAT_STATE 31, 2)]).rd (NWT_CTL_ROLE 31) = 2 ∧
        (put [(NWT_CTL_ROLE 31, 2), (NWT_STAT_STATE 31, 2)]).rd (NWT_STAT_STATE 31) = 2) := by decide +kernel

/-- A test that runs in slices on region 63. -/
def testing63 : Test := { num := 3, desc := none, regions := [63], deadline := 1, slice := some 0, expect := 80 }

theorem witness_BroadcastWriteReachesEveryMember :
    (Accessor.jtag = .host ∨ Accessor.jtag = .jtag) ∧ (2 < 3 ∧ (8 ≤ 15 ∧ 15 < 16)) ∧ up.jtag.held = false ∧ up.life.state < 4 ∧
      (∃ n < 64, up.aliasMember 2 n = true) ∧
      (∃ n < 64, (put [(TCK_GRP_HI_MEMBERS 7, 0x80000000)]).aliasMember 15 n = true) ∧
      (∃ n < 64, (put [(TCK_GRP_HI_MEMBERS 7, 0x80000000)]).aliasMember 15 n = true ∧
        ({ put [(TCK_GRP_HI_MEMBERS 7, 0x80000000)] with bst := { tests := [testing63] } } : State).regionTested n = true) ∧
      (∀ n < 64, up.aliasMember 2 n = true → up.regionTested n = false) ∧
      Cells.get (Cells.put [] 0 (PXD_SKNOM_LEVEL 63).key 1) 0 (PXD_SKNOM_LEVEL 63).key ≠ 0 := by
  refine ⟨by decide, by decide, by decide, by decide, ⟨32, by decide, by decide +kernel⟩, ⟨63, by decide, by decide +kernel⟩,
    ⟨63, by decide, by decide +kernel, by decide +kernel⟩, by decide +kernel, by decide +kernel⟩

theorem witness_EmptyGroupAlias :
    4092 < 4096 ∧ 4092 % 4 = 0 ∧ up.rd LCS_ID_STEPPING = 1 ∧ up.rd (TCK_GRP_LO_MEMBERS 7) = 0 ∧ up.rd (TCK_GRP_HI_MEMBERS 7) = 0 ∧
      up.jtag.held = false ∧ up.life.state < 4 := by decide +kernel

theorem witness_BroadcastReadAnswersTheLowest :
    (up.aliasOf 1 = some (1, 0 :: (List.range 32).drop 1)) ∧
      (put [(TCK_GRP_LO_MEMBERS 7, 0x80), (TCK_GRP_HI_MEMBERS 7, 0x80000000)]).aliasOf 15 = some (23, 7 :: [63]) ∧
      (put [(PXD_NOM_LEVEL 3, 9)]).showWord 0x203000 ≠ (put [(PXD_NOM_LEVEL 3, 9)]).showWord 0x200000 := by decide +kernel

theorem witness_JtagFollowsItsState :
    ({ up with life := { up.life with state := 4, pending := 4 } } : State).life.state = 4 ∧
      up.jtag.held = false ∧ jtagOk (.write 0xFFFFFF (2 ^ 32 - 1)) = true := by decide

theorem witness_TickRules :
    (isFollower (put [(TCK_SYNC_STAT_STATE, 2)]).sync = true ∨ isFollower (put [(TCK_SYNC_STAT_STATE, 1)]).sync = true) ∧
      (put [(TCK_PERIOD_PERIOD_US, 1999)]).rd TCK_PERIOD_PERIOD_US < 2000 ∧
      5000 < (put [(TCK_PERIOD_PERIOD_US, 5001)]).rd TCK_PERIOD_PERIOD_US ∧
      (put [(TCK_BASK_BASK_US, 99)]).rd TCK_BASK_BASK_US < 100 ∧ 800 < (put [(TCK_BASK_BASK_US, 801)]).rd TCK_BASK_BASK_US ∧
      (isFollower up.sync = false ∧ 2000 ≤ up.rd TCK_PERIOD_PERIOD_US ∧
        up.rd TCK_PERIOD_PERIOD_US ≤ 5000 ∧ 100 ≤ up.rd TCK_BASK_BASK_US ∧
        up.rd TCK_BASK_BASK_US ≤ 800) ∧
      ({ up.tick with change := some (5000, 800, 1) } : TickBlock).change = some (5000, 800, 1) ∧
      1 = min (2 ^ 48 - 1) (up.tick.count + 1) ∧ 2 ≠ min (2 ^ 48 - 1) (up.tick.count + 1) ∧
      (Instr.tickBoundary {}).wf = true ∧ (Instr.rowStart [63] [(63, 2)]).wf = true ∧
      ((put [(TCK_ROWPOS_BASK, 0)]).rd TCK_ROWPOS_BASK = 0 ∧ ({ up.scn with next := 319 } : ScnBlock).next < 320 ∧
        320 ≤ ({ up.scn with next := 320 } : ScnBlock).next ∧ (put [(TCK_ROWPOS_BASK, 1)]).rd TCK_ROWPOS_BASK ≠ 0) := by decide +kernel

/-- At boundary 8 with a frame in this state and its counting from boundary n. -/
def framed (ready : Bool) (from' : Option Nat) (mode : Nat) : State :=
  { put [(SFT_MODE_MODE, mode), (LCS_BOOT_CAPABLE, 1), (LCS_BOOT_IMAGE, 1), (SFT_TWIN_CFG_EN, 0), (SCN_CTL_SOURCE, 2)] with
    tick := { up.tick with count := 7 }
    comp := { up.comp with ready := ready, countFrom := from', committed := true } }

theorem witness_BoundaryBringsTheFrame :
    ((framed true none 1).comp.ready = true ∧ (framed false none 1).comp.ready = false ∧ 8 = min (2 ^ 48 - 1) (7 + 1) ∧
      (framed false (some 9) 1).comp.countFrom = some 9 ∧ 8 < 9 ∧ (framed false (some 8) 1).comp.countFrom = some 8 ∧ 8 ≤ 8) ∧
    (∀ m ∈ [0, 1, 2, 3], (framed true none m).rd SFT_MODE_MODE = m) ∧ (framed true none 1).sft.resume = false ∧
    ((framed true none 1).rd SCN_CTL_SOURCE ≠ 0 ∧ (framed true none 1).can.rx = [] ∧ (framed true none 1).rd SFT_TWIN_CFG_EN = 0 ∧
      (framed true none 1).rd LCS_BOOT_CAPABLE ≠ 0 ∧ (framed true none 1).rd LCS_BOOT_IMAGE ≠ 0) ∧
    (let s := busy (flight 3 [] [])
     s.ring.due = [] ∧ s.bst.tests = [] ∧ s.cal.write = none ∧ s.eng.loads = [] ∧ s.rd CMP_CTL_EPOCH_SYNC = 0 ∧ s.tick.count = 0) ∧
    (∀ d ∈ [1, 2], let a : Armed := ⟨0, 5, 1, d, d == 2, none⟩
      ({ up.comp with armed := some a } : CompBlock).armed = some a ∧ a.seq = (flight 3 [] []).id) ∧
    (let l : ExtLoad := ⟨5, 31, [], 2⟩
     l.id = (flight 16 [] []).id ∧ l.engine < 32 ∧ l.step = 2 ∧ up.comp.armed = none) := by decide +kernel

/-- One tile whose class 3 alone draws 400 units over a limit for half of them, or for all. -/
def oneTile (lim : Rat) : State :=
  { up with
    comp := { up.comp with composed := true }
    sal := { up.sal with
      sums := [(1279, ⟨0, 0, [0, 0, 0, 400], 0⟩)], kt := [(1279, 1)], lc := List.replicate 67 1, la := List.replicate 67 1
      tileLc := List.replicate 64 lim } }

theorem witness_BudgetReducesAFrame :
    (let s := oneTile 0
     let u := s.unitPower 1279
     (Instr.resolveDone 99).wf = true ∧ s.comp.composed = true ∧ s.comp.resolved = false ∧ 0 < u ∧
       (∀ p : Rat, p = u * (((0 * s.floorOf 1279 : Nat) : Rat) + 0) + u * (400 : Nat) → p - u * (400 : Nat) ≤ limOf s.sal.tileLc (regionOfTile 1279) ∧
         limOf s.sal.tileLc (regionOfTile 1279) < p ∧ ∀ m < 67, p ≤ limOf s.sal.lc m ∧ p ≤ limOf s.sal.la m)) ∧
    (let b := (oneTile 1).budgetOf
     b.raw.all (fun p => decide (p.2 ≤ 1)) = true ∧ (∀ m < 67, limOf b.levelRaw m ≤ 1) ∧ b.rel = [false, false]) ∧
    (let s : State := { up with comp := { up.comp with resolved := true, buf1 := { light := [(9, 500)], side := [(9, 1)] } } }
     s.comp.resolved = true ∧ s.comp.ready = false ∧ s.comp.passFailed = false ∧ s.back.pixels = [9]) := by
  refine ⟨⟨by decide, by decide, by decide, by decide +kernel, ?_⟩, ⟨by decide +kernel, by decide +kernel, by decide +kernel⟩,
    by decide +kernel⟩
  rintro p rfl
  decide +kernel

/-- A pixel of region 63, in row 3 of sweep group 79, listed as one that may be open or short. -/
def listed (short : Bool) (seen : Nat) : State :=
  { put [(AXL_SWEEP_GROUP, 79), (AXL_CFG_VOPEN, 175), (AXL_CFG_VSHORT, 50), (AXL_CFG_CONFIRM, 3)] with
    pix := { up.pix with pend := [⟨63, regionPix 63 62 319, short, seen⟩] } }

theorem witness_BaskAppliesHealth :
    (({} : BoundaryIn).ecc = [] ∧ ({ up.pix with queue := [⟨1310719, 65535⟩] } : PixBlock).queue = [⟨1310719, 65535⟩] ∧
      9 % 8 = 1 ∧ up.healthWord 1310719 % 8 ≠ 1) ∧
    (∀ p ∈ [(false, 3500), (true, 1000)], (listed p.1 2).pix.queue = [] ∧ (listed p.1 2).bst.tests = [] ∧
      79 = (listed p.1 2).rd AXL_SWEEP_GROUP ∧ p.2 = (listed p.1 2).vfRead { base := p.2 } 63 3 319 62 ∧
      (listed p.1 2).pix.pend.find? (fun q => q.pix == regionPix 63 62 (4 * 79 + 3)) = some ⟨63, regionPix 63 62 319, p.1, 2⟩ ∧
      (if p.1 = true then p.2 ≤ 20 * (listed p.1 2).rd AXL_CFG_VSHORT
        else 20 * (listed p.1 2).rd AXL_CFG_VOPEN ≤ p.2 ∧ 20 * (listed p.1 2).rd AXL_CFG_VSHORT < p.2) ∧
      max 2 (min 8 ((listed p.1 2).rd AXL_CFG_CONFIRM)) ≤ 2 + 1) ∧
    ((put [(LCS_ID_STEPPING, 1)]).rd LCS_ID_STEPPING = 1 ∧ ({ base := 4088 } : Readings).at' (63 * 320 + 4 * 64 + 63) = 4088 ∧
      (put [(LCS_ID_STEPPING, 2)]).rd LCS_ID_STEPPING ≠ 1) := by decide +kernel

theorem witness_SubPeriodsRun :
    15 < 16 ∧ (Instr.subPeriodStart 65535 0).wf = true ∧
      ({ up.sal with lowest := [some 3, some 4] } : SalBlock).lowest = [some 3, some 4] := by decide

theorem witness_DriveMapperFollowsTheFormula : 3 < 4 ∧ 65535 < 65536 ∧ 65528 ≤ 65535 ∧ 2 < 3 ∧ 0 < 1 := by decide

theorem witness_ClampAndSource_clamp :
    (⟨1, true, false⟩ : Side).base = true ∧ (⟨1, false, false⟩ : Side).base = false ∧ (⟨1, true, false⟩ : Side).cls = 1 := by
  decide

theorem witness_ClampAndSource_source : 2 ≤ 2 ∧ (2 : Nat) ≠ 0 ∧ 1 ≤ 1 := by decide

theorem witness_DieGoesDarkOnItsOwn :
    up.scn.dark.length = 2 ∧ (put [(SCN_BUS_LANES 1, 8)]).rd (SCN_BUS_LANES 1) / 2 ^ 3 % 2 = 1 ∧
      (put [(SCN_BUS_LANES 1, 7)]).rd (SCN_BUS_LANES 1) / 2 ^ 3 % 2 = 0 ∧ up.scn.lost.keys.contains (4 * 1 + 3) = false ∧ dieOf 1024 = 1 ∧ up.croakOverdue 1 = false ∧
      (({ up.scn with croakAt := [none, some 0], croakPer := [none, some 5] } : ScnBlock).croakAt.getD 1 none = some 0 ∧
        ({ up.scn with croakAt := [none, some 0], croakPer := [none, some 5] } : ScnBlock).croakPer.getD 1 none = some 5 ∧
        0 + 2 * 5 < up.tick.time + up.tickLength) := by decide +kernel

theorem witness_FaultsAreSentOncePerRun :
    (max 1 ((put [(TCK_OVR_LIMIT, 2), (TCK_OVR_CONSEC, 2)]).rd TCK_OVR_LIMIT) ≤
        (put [(TCK_OVR_LIMIT, 2), (TCK_OVR_CONSEC, 2)]).rd TCK_OVR_CONSEC ∧ up.comp.repeatSent = false) ∧
    (max 2 ((put [(LYR_STAT_SAME 7, 255), (LYR_CTL_LIVE 7, 1)]).rd (LYR_CTL_STALE 7)) ≤
        (put [(LYR_STAT_SAME 7, 255), (LYR_CTL_LIVE 7, 1)]).rd (LYR_STAT_SAME 7) ∧
        (put [(LYR_STAT_SAME 7, 255), (LYR_CTL_LIVE 7, 1)]).rd (LYR_CTL_LIVE 7) ≠ 0 ∧
        up.comp.frozenSent.contains 7 = false) ∧
    (max 1 ((put [(GKO_OBJ_STAT_STALE_NOW, 255), (GKO_CFG_STALE_TICKS, 255)]).rd GKO_CFG_STALE_TICKS) ≤
        (put [(GKO_OBJ_STAT_STALE_NOW, 255), (GKO_CFG_STALE_TICKS, 255)]).rd GKO_OBJ_STAT_STALE_NOW ∧
        up.gko.staleSent = false) ∧
    (max 1 (({ up with sampled := (put [(SCN_RB_CFG_LIMIT, 1)]).regs } : State).smp SCN_RB_CFG_LIMIT) ≤ ({ up.scn with mism := [0, 1] } : ScnBlock).mism.getD 1 0 ∧
        up.scn.mismSent.getD 1 false = false ∧ up.scn.mismSent.length = 2) ∧
    (max 8 ((put []).smp AXL_CFG2_STALL_TICKS) ≤ ({ up.pix with stall := 100000 } : PixBlock).stall ∧
        up.pix.stallSent = false) ∧
    (2 ≤ ({ up.sal with under := [0, 2] } : SalBlock).under.getD 1 0 ∧ up.sal.underSent.getD 1 false = false ∧
        ({ up.sal with upOnce := [true, true] } : SalBlock).upOnce.getD 1 false = true ∧
        up.sal.underSent.length = 2 ∧ up.rd LCS_BOOT_ENDED = 0 ∧
        (put [(LCS_BOOT_ENDED, 1), (SFT_MODE_MODE, 2)]).rd LCS_BOOT_ENDED ≠ 0 ∧
        (put [(LCS_BOOT_ENDED, 1), (SFT_MODE_MODE, 2)]).rd SFT_MODE_MODE = 2 ∧
        (put [(LCS_BOOT_ENDED, 1), (SFT_MODE_MODE, 3)]).rd SFT_MODE_MODE ≠ 2) ∧
    (3 ≤ ((up.setPeer 3 { fpDiff := 3 }).peer 3).fpDiff ∧ ((up.setPeer 3 { fpDiff := 3 }).peer 3).fpSent = false ∧
        (up.setPeer 3 { fpDiff := 3 }).tick.peers.length = 4) ∧
    (max 1 ((put [(SFT_TWIN_CFG_PERSIST, 1), (SFT_TWIN_STAT_MISM_CNT, 1)]).rd SFT_TWIN_CFG_PERSIST) ≤
        (put [(SFT_TWIN_CFG_PERSIST, 1), (SFT_TWIN_STAT_MISM_CNT, 1)]).rd SFT_TWIN_STAT_MISM_CNT ∧
        up.sft.mismSent = false) := by decide +kernel

/-- A frame whose bands are done, and so on through the stages. -/
def stage (bands : Nat) (composed resolved ready : Bool) : State :=
  { put [(GKO_ENV_CTL_LOADED, 0)] with
    comp := { up.comp with bands := bands, composed := composed, resolved := resolved, ready := ready, passFailed := false } }

theorem witness_FrameStagesRunInOrder :
    (Instr.resolveDone 65535).wf = true ∧ (Instr.scaleClampDone [(0xFFFFFF, 255)]).wf = true ∧ (stage 7 false false false).comp.bands < 8 ∧
      8 ≤ (stage 8 false false false).comp.bands ∧ (stage 8 true false false).comp.composed = true ∧
      (8 ≤ (stage 8 false false false).comp.bands ∧ (stage 8 false false false).comp.composed = false ∧
        (stage 8 false false false).fetched = true) ∧
      (stage 8 true true false).comp.resolved = true ∧
      ((stage 8 true true false).comp.ready = false ∧ (stage 8 true true false).comp.passFailed = false ∧
        (stage 8 true true false).gko.passLoaded = false ∧ ({ up.gko with passLoaded := true } : GkoBlock).passLoaded = true) ∧ (stage 8 true true true).comp.ready = true := by decide +kernel

/-- The check value of a pass over a loaded envelope is the one kept, or another: CRC holds any value. -/
theorem witness_envelope_checked (crc : Nat) : ∃ s : State, s.comp.resolved = true ∧ s.comp.ready = false ∧ s.comp.passFailed = false ∧
    s.gko.passLoaded = true ∧ s.gko.env = up.gko.env ∧ s.gko.floor = up.gko.floor ∧ s.rd GKO_ENV_CRC_CRC = crc :=
  ⟨{ stage 8 true true false with
      regs := Cells.put [] GKO_ENV_CRC_CRC.reset GKO_ENV_CRC_CRC.key crc, gko := { up.gko with passLoaded := true } },
    rfl, rfl, rfl, rfl, rfl, rfl, Cells.get_put_same _ _ _ _⟩

/-- A commit armed for boundary 5 that waits for its epoch, at boundary 8. -/
def waiting : State :=
  { put [(TCK_SYNC_STAT_STATE, 1)] with
    sampled := (put [(CMP_EPOCH_CFG_TIMEOUT_TICKS, 3), (CMP_CTL_EPOCH_SYNC, 1)]).regs,
    comp := { up.comp with armed := some ⟨0, 5, 9, 5, false, none⟩ },
    ring := { up.ring with flights := [flight 3 [9] []] }, tick := { up.tick with count := 8 } }

theorem witness_WaitsAndLimitsEnd :
    up.comp.armed = none ∧
    (waiting.comp.armed = some ⟨0, 5, 9, 5, false, none⟩ ∧ waiting.epochSync = true ∧
      5 + max 1 (waiting.smp CMP_EPOCH_CFG_TIMEOUT_TICKS) ≤ waiting.tick.count ∧ waiting.oneAtWork (flight 3 [9] []) 3 ∧
      (⟨0, 5, 9, 5, false, none⟩ : Armed).seq = (flight 3 [9] []).id) ∧
    up.tick.count < 5 + max 1 (up.smp CMP_EPOCH_CFG_TIMEOUT_TICKS) ∧
    (up.comp.cutoff = false ∧ ({ up.comp with cutoff := true } : CompBlock).cutoff = true) ∧
    (⟨0, 0, 9, 5, false, some 6⟩ : Armed).released ≠ none ∧
    ((put [(GKO_TB_STAT_STATE, 2)]).rd GKO_TB_STAT_STATE = 2 ∧
      max 16 ((put []).rd GKO_TB_CFG_LOSS_TICKS) ≤ ({ quiet := 100000 } : TimeBase).quiet) ∧
    (max 1 (up.rd SAL_GRANT_CFG_FORCE) ≤ ({ up.sal with withheld := 1000 } : SalBlock).withheld) ∧
    (up.sal.withheld < max 1 (up.rd SAL_GRANT_CFG_FORCE)) ∧ up.rd GKO_TB_STAT_STATE ≠ 2 ∧
    ((Instr.sensorReadmit 39).wf = true ∧ 39 < up.thm.impl.length ∧
      ((up.thm.impl.set 39 true).getD 39 false = true ∧
        max 4 (up.rd THM_CFG_READMIT) ≤ (up.thm.okRun.set 39 64).getD 39 0) ∧
      up.thm.impl.getD 39 false = false ∧ up.thm.okRun.getD 39 0 < 64 ∧ 64 ≤ (up.thm.okRun.set 39 64).getD 39 0) := by
  unfold State.oneAtWork
  decide +kernel

theorem witness_clear : up.clearFor (desc [0, 0, 0, 0, 0, 0, 0]) ∧ descOk (desc [0, 0, 0, 0, 0, 0, 0]) = true ∧
    (desc [0, 0, 0, 0, 0, 0, 0]).rsvd = 0 := by unfold State.clearFor; decide +kernel

theorem witness_BadDescriptorsAreRefused :
    (Instr.unknownOpcode 0 (desc [0, 0, 0, 0, 0, 0, 0])).wf = true ∧ (Instr.unknownOpcode 255 (desc [0, 0, 0, 0, 0, 0, 0])).wf = true ∧
      descOk ⟨0, 0, 63, false, false, 0, [0, 0, 0, 0, 0, 0, 0]⟩ = true ∧
      (∀ p ∈ [(0, 0xFFFFFFFE), (1, 0xFFFFFFFF), (6, 0xFFFFFFFF)],
        descOk (desc ((List.replicate 7 0).set p.1 p.2)) = true ∧
        Nat.land ((desc ((List.replicate 7 0).set p.1 p.2)).args.getD p.1 0) (0xFFFFFFFF - ([1, 0, 0, 0, 0, 0, 0].getD p.1 0)) ≠ 0 ∧
        ∀ k < p.1, Nat.land ((desc ((List.replicate 7 0).set p.1 p.2)).args.getD k 0) (0xFFFFFFFF - ([1, 0, 0, 0, 0, 0, 0].getD k 0)) = 0) ∧
      (desc [2, 0, 0, 0, 0, 0, 0]).args.getD 0 0 / 2 % 2 ≠ 0 ∧ (desc [1, 0, 0, 0, 0, 0, 0]).args.getD 0 0 / 2 % 2 = 0 := by
  decide +kernel

theorem witness_ShadowWritesTakeEffect :
    (descOk (desc [31 + 32 * 2 + 1024, 64, 1, 8192 + 65536 * 2560, 8192 * 4, 7, 0]) = true ∧ 8192 * bytesPer 2 ≤ 8192 * 4 ∧
      8192 * 4 % 64 = 0 ∧ 8192 * 4 < 2 ^ 20) ∧
    (∀ c ∈ [0, 1, 2],
      64 + surfExtent ⟨64, 64, 2, 1, c, true, 255, true, 128, 0⟩ 0 ≤ areaSize ∧
      descOk (desc [0 + 32 * 1 + 128 * c + 512 * 1 + 1024 * 255, 64, 0, 64 + 65536 * 2, 128, 0, 0]) = true) ∧
    (up.ruleWord 1 / 8 % 32 = 0 ∧ up.ruleWord 2 < 2 ^ 24) ∧
    (budgetDetail 7 (up.ruleWord 0) (up.ruleWord 1) (up.ruleWord 2) = 0 ∧
      descOk (desc [7, up.ruleWord 0, up.ruleWord 1, up.ruleWord 2, 0, 0, 0]) = true) ∧
    (∀ i < 4, 1 ≤ 0x64016401 / 256 ^ i % 256 ∧ 0x64016401 / 256 ^ i % 256 ≤ 100) ∧
    (100 < 0x65016401 / 256 ^ 3 % 256 ∧ descOk (desc [1, 0x65016401, 0, 0, 0, 0, 0]) = true) := by
  decide +kernel

theorem witness_layers_are_set :
    (descOk (desc [7 + 256 * 13, 1, 0, 2048 + 65536 * 640, 0, 0, 0]) = true ∧ 0 + 2048 ≤ 2048 ∧ 0 + 640 ≤ 640) ∧
    (descOk (desc [0 + 256 * 29, 1, 1, 2048 + 65536 * 640, 0, 0, 0]) = true ∧ 2048 < 1 + 2048) ∧
    (descOk (desc [2 + 256 * 28, 0, 0, 16 + 65536 * 16, 0, 1 + 65536 * 64, 0]) = true ∧ 16 ≤ 16 * 1 ∧ 64 ≤ 4 * 16 ∧
      4 * 16 < 65 ∧ 16 * 1 < 17) ∧ ∀ n < 8, up.rd (LYRSH_CTL_EN n) < 2 := by decide +kernel

theorem witness_gecko_parameters :
    (descOk (desc [8 + 256, 255 + 256 * 8 + 4096 * 15 + 65536 * 1000, 0xF3210, 1, 2, 3, 4]) = true ∧
      (256 * 8 + 4096 * 15) % 256 = 0 ∧ 64536 ≤ (1 + 65536 * 64536) / 2 ^ 16) ∧
    (0x30000 / 2 ^ (16 + 0) % 2 = 1 ∧ 0x30000 / 2 ^ (16 + 1) % 2 = 1 ∧ 0x30000 / 16 ^ 0 % 16 = 0x30000 / 16 ^ 1 % 16) ∧
    (∀ i < 4, ∀ j < 4, i < j → 0xF3210 / 16 ^ i % 16 ≠ 0xF3210 / 16 ^ j % 16) ∧
    descOk (desc [15, 0, 0, 0, 0, 0, 0]) = true := by decide +kernel

theorem witness_CommitIsArmed :
    (put [(LYRSH_CTL_EN 7, 1)]).shadowFault ≠ none ∧ up.shadowFault = none ∧ 0 ≤ up.rd CMP_EPOCH_ACTIVE_EPOCH ∧
      up.rd CMP_EPOCH_ACTIVE_EPOCH < 2 ^ 32 - 1 ∧ descOk (desc [2 ^ 32 - 1, 0, 0, 0, 0, 0, 0]) = true := by
  decide +kernel

/-- A COMMIT that was issued, behind a SYMBOL_LOAD of its ring or alone. -/
def issued : Flight := { flight 3 [9] [] with id := 6, stage := .working }

theorem witness_CommitIsArmed_waits :
    (issued.ring < 8 ∧ issued.opcode = 3 ∧ issued.stage = .working ∧ issued.ended = false ∧ issued.arg 1 < 2 ^ 32 ∧
      up.ring.batch = 0 ∧ up.shadowFault = none ∧ up.rd CMP_EPOCH_ACTIVE_EPOCH < issued.arg 1) ∧
    (let g := { flight 5 [] [] with id := 5 }
     g.ring = issued.ring ∧ g.id < issued.id ∧ isBackground g.opcode = true ∧ g.stage = .accepted ∧ g.ended = false) := by
  decide +kernel

/-- LAYER_SET with a side of 0 breaks no edge: the word is that of DSZ (R253, log 43). -/
theorem test_layer_side_0 (l : Layer) (h : l.outside = false) : layerDetail 0xC00 l = 4 := by
  simp [layerDetail, h, bitOf]

/-- FACTORY. -/
def factory : State := { up with life := { up.life with state := 1, pending := 1 } }

theorem witness_DescriptorWorkStarts :
    (descOk (desc [7 + 256 * 64, 4, 9, 0, 0, 0, 0]) = true ∧ 0 < 64 ∧ 64 ≤ 64) ∧ (65 < 128 ∧ 64 < 65) ∧
    (descOk (desc [32, 9, 32, 0, 0, 0, 0]) = true ∧ 32 % 32 = 0) ∧ (31 < 32 ∧ 33 % 32 ≠ 0) ∧
    (factory.bst.tests = [] ∧ factory.life.state = 1) ∧ factory.clearFor (desc []) ∧
    (0xC00000 - 64 + 64 ≤ 0xC00000 ∧ 1507328 - 64 + 64 ≤ 1507328 ∧ (1507328 - 64) % 64 = 0 ∧ (0xC00000 - 64) % 64 = 0 ∧
      factory.namedBytes.all (fun r => decide (1507328 - 64 + 64 ≤ r.1) || decide (r.2 ≤ 1507328 - 64)) = true ∧
      descOk (desc [0, 0xC00000 - 64, 0, 1507328 - 64, 64, 5, 0]) = true) ∧
    (factory.comp.taken = false ∧ descOk (desc [64, 9, 1313284, 0, 0, 0, 0]) = true) ∧
    descOk (desc [4, 64, 9, 4, 3, 0, 0]) = true ∧ (1152 ≤ 1152 ∧ descOk (desc [5, 1152, 32, 9, 0, 0, 0]) = true) ∧
    (0x3FFFFFF + 1 ≤ 0x4000000 ∧ descOk (desc [0x10, 0x3FFFFFF, 0, 1, 0, 0, 0]) = true) ∧
    ((put [(NWT_CTL_ROLE 31, 2)]).rd (NWT_CTL_ROLE 31) = 2 ∧ 192 ≤ 196736 ∧ descOk (desc [31, 64, 9, 196736, 0, 0, 0]) = true) ∧
    (factory.testRefusal 8 0 false = none ∧ descOk (desc [8, 0, 0, 65535, 0, 0, 0]) = true ∧
      factory.testRefusal 9 0 false = none) := by
  refine ⟨?_, ?_, ?_, ?_, ?_, ?_, ?_⟩
  all_goals first | decide +kernel | (unfold State.clearFor; decide +kernel)

/-- An OBJECT_LIST whose header is being fetched. -/
def fetchingList : State :=
  let f := { flight 6 [0, 0, 32, 0, 0, 0, 0] [] with stage := .working, waiting := 1 }
  { up with
    ring := { up.ring with flights := [f] }
    link := { up.link with tags := [{ tag := 255, req := .arg 5, addr := f.base, words := 8 }] } }

theorem witness_object_list_header :
    fetchingList.link.deaf = false ∧ fetchingList.link.tags.map TagUse.req = [.arg 5] ∧
    fetchingList.link.tags.map (fun u => (u.tag, u.words, u.got)) = [(255, 8, [])] ∧
    fetchingList.ring.flights.map Flight.stage = [.working] ∧
    fetchingList.ring.flights.map (fun f => (f.id, f.opcode, f.waiting, f.arg 3)) = [(5, 6, 1, 32)] ∧
    fetchingList.ring.flights.all (fun f => f.todo.isEmpty && f.buf.isEmpty && !f.ended && !f.failed) = true ∧ fetchingList.gko.input = none ∧ fetchingList.rd LNK_STAT_DOWN = 0 ∧
    fetchingList.ring.gather = false ∧ fetchingList.ring.batch = 0 ∧ fetchingList.ring.rings.length = 8 ∧
    (fetchingList.ringAt 0).queue = [] ∧ fetchingList.cplFull 0 = false ∧
    (∀ n ∈ [0, 1, 128, 129], [7, n, 0, 0, crc32c [], 0, 0, 0].getD 1 0 % 2 ^ 16 = n ∧
      [7, n, 0, 0, crc32c [], 0, 0, 0].all (fun w => decide (w < 2 ^ 32)) = true) ∧ 1 ≠ crc32c [] := by decide +kernel

/-- In FALLBACK by record 9, read a moment ago, with nothing that speaks against a RESUME. -/
def lockedOut : State :=
  { put [(SFT_MODE_MODE, 2), (SFT_SK_STAT_VALID, 1), (SFT_LOCK_CAUSE_REC, 9), (SFT_INPUTS_LBF, 0)] with
    sal := { up.sal with newest := [some 2700, some 5000] }
    sft := { up.sft with readAt := some 0, ms := 500 } }

theorem witness_FreezeAndResume :
    up.bst.tests = [] ∧ up.rcd.frozenAt = none ∧ up.rcd.hold = [] ∧ up.rcd.lastEnd = none ∧
      ({ up.rcd with frozenAt := some 3 } : RecBlock).frozenAt = some 3 ∧
      (({ up.rcd with lastEnd := some 0 } : RecBlock).lastEnd = some 0 ∧ 0 + 100 ≤ 100 ∧ 99 < 0 + 100 ∧
        up.rcd.holdDrops = 0 ∧ up.rcd.buffer = [] ∧ up.rcd.prog = none ∧ up.rcd.dropRun = 0 ∧
        ({ up.rcd with frozenAt := some 3, hold := [{ number := 3, type := 0 }] } : RecBlock).hold ≠ []) ∧
      lockedOut.clearFor (desc []) ∧ 2 ≤ lockedOut.rd SFT_MODE_MODE ∧ lockedOut.rd SFT_INPUTS_LBF = 0 ∧
      lockedOut.rd SFT_INPUTS_HBP_LATCH = 0 ∧ lockedOut.rd SFT_INPUTS_LBF_LATCH = 0 ∧ lockedOut.healthy = true ∧
      lockedOut.sal.newest = [some 2700, some 5000] ∧ lockedOut.sft.link.toList ++ lockedOut.sft.can.toList = [] ∧
      lockedOut.rd SFT_LOCK_CAUSE_REC = 9 ∧ lockedOut.sft.causeMsg = none ∧ lockedOut.sft.readAt = some 0 ∧
      ¬ 0 + 500 < lockedOut.sft.ms ∧ 8 ≠ lockedOut.rd SFT_LOCK_CAUSE_REC ∧ up.rd SFT_MODE_MODE < 2 := by
  refine ⟨by decide, by decide, by decide, by decide, by decide, by decide, ?_, by decide +kernel⟩
  unfold State.clearFor; decide +kernel

theorem witness_BadPacketsDoNothing_corrupted :
    ([Instr.linkReadRequest .gap {} 255 0 1, .linkWriteRequest .crc { stray := true } (2 ^ 64 - 1) [2 ^ 32 - 1],
      .hostReadCompletion .framing { type := some 15 } 0 1023 true [], .hostReadError .gap {} 0 15, .doorbellHint .crc {} [255],
      .tickMark .framing {} [0, 0], .safetyCopy .gap { code := some 255 } [0]] : List Instr).all Instr.wf = true ∧
    up.link.deaf = false ∧ ({ up.link with deaf := true } : LinkBlock).deaf = true := by decide +kernel

theorem witness_BadPacketsDoNothing_malformed :
    ([Instr.linkReadRequest .intact { type := some 5 } 255 0 1, .linkWriteRequest .intact { stray := true } 0 [0],
      .hostReadCompletion .intact { type := some 15 } 0 0 true [0], .hostReadError .intact { stray := true } 0 1,
      .doorbellHint .intact { code := some 4 } [1], .tickMark .intact { code := some 0 } [0, 0, 0],
      .safetyCopy .intact { code := some 255 } [0, 0, 0], .doorbellHint .intact {} [0, 0], .tickMark .intact {} [0, 0],
      .safetyCopy .intact {} [0, 0], .safetyCopy .intact {} (List.replicate 37 0), .hostReadError .intact {} 0 0,
      .hostReadError .intact {} 0 4] : List Instr).all Instr.wf = true ∧ up.link.deaf = false ∧
    up.rd LNK_PROTO_MALFORMED + 1 < 2 ^ LNK_PROTO_MALFORMED.width - 1 := by decide +kernel

theorem witness_HostRequestsReachTheRegisters :
    (0x1000000 % 4 = 0 ∧ 0x1000000 % 4096 + 4 * 1 ≤ 4096) ∧ (0xFFFFFC < 0x1000000 ∧ 0xFFF000 % 4096 + 4 * 1024 ≤ 4096) ∧
      (0xFFFFFC < 2 ^ 24 ∧ 0xFFFFFC % 4 = 0 ∧ 0x1FFFC < 0x20000 ∧ 0x40000 ≤ 0x40000) ∧
      (List.replicate 64 (2 ^ 32 - 1)).length ≤ 64 ∧ (List.replicate 64 (2 ^ 32 - 1)).all (fun w => decide (w < 2 ^ 32)) = true ∧
      List.replicate 64 (2 ^ 32 - 1) ≠ [] ∧ up.link.deaf = false := by decide +kernel

/-- The time base in this state, boundary 1 of device time 0, after so many rejected answers and accepted ones. -/
def timed (state rejRun inAcquire : Nat) : State :=
  let s := put [(GKO_TB_STAT_STATE, state)]
  { s with
    tick := { s.tick with count := 1, past := [(1, 0)] }
    gko := { s.gko with tb := { rejRun := rejRun, inAcquire := inAcquire } } }

theorem witness_tick_marks :
    up.boundaryTime 9 = none ∧ ([1, 0, 0] : List Nat).length = 3 ∧
    (∀ st < 4, ∀ r ∈ [6, 7], ∀ a ∈ [14, 15],
      (timed st r a).boundaryTime 1 = some 0 ∧ (timed st r a).rd GKO_TB_STAT_STATE = st ∧ (timed st r a).gko.tb.rejRun = r ∧
        (timed st r a).gko.tb.inAcquire = a ∧ (timed st r a).link.deaf = false) ∧
    (let lim : Rat := ((1000 * max 1 (up.rd GKO_TB_CFG_REJECT_US) : Nat) : Rat)
     let hk (lo : Nat) : Rat := (lo : Rat) - (up.rd GKO_TB_DLY_UP_NS : Rat)
     (hk 0 ≤ lim ∧ -lim ≤ hk 0) ∧ lim < hk (2 ^ 32 - 1)) := by decide +kernel

theorem witness_TrainingAndLoss :
    (175 ≤ 175 ∧ 65 ≤ 65 ∧ 64 < 65 ∧ 175 < 176 ∧ 2 ^ 16 - 1 < 2 ^ 16) ∧
    (up.rd LNK_STAT_STATE = 0 ∧ (put [(LNK_CTL_EN, 1)]).rd LNK_CTL_EN ≠ 0) ∧
    (∀ l < 4, ({ up.link with ts1 := [0, 1, 2, 3] } : LinkBlock).ts1.contains l = true ∧
      (put [(LNK_STAT_STATE, 1), (LNK_DL_LOCK l, 1)]).rd LNK_STAT_STATE = 1 ∧
      (put [(LNK_STAT_STATE, 1), (LNK_DL_LOCK l, 1)]).rd (LNK_DL_LOCK l) ≠ 0) ∧
    (let p := put [(LNK_STAT_STATE, 2), (LNK_DL_LOCK 0, 1)]
      let s : State := { p with link := { p.link with rates := 15 } }
      s.rd LNK_STAT_STATE = 2 ∧ s.chosenRate = some 3 ∧ s.dlLocked ≠ []) ∧
    (∀ n < 4, (put [(LNK_STAT_STATE, n), (LNK_CTL_EN, 1)]).rd LNK_STAT_STATE = n ∧
      (put [(LNK_STAT_STATE, n), (LNK_CTL_EN, 1)]).rd LNK_CTL_EN ≠ 0) ∧
    ((put [(LNK_STAT_STATE, 7), (LNK_STAT_ATTEMPT, 7)]).rd LNK_STAT_STATE = 7 ∧
      (put [(LNK_STAT_STATE, 7), (LNK_STAT_ATTEMPT, 7)]).rd LNK_STAT_ATTEMPT < 8) ∧
    (8 ≤ (put [(LNK_STAT_STATE, 7), (LNK_STAT_ATTEMPT, 8), (LNK_STAT_DOWN, 1)]).rd LNK_STAT_ATTEMPT ∧
      (put [(LNK_STAT_STATE, 7), (LNK_STAT_ATTEMPT, 8), (LNK_STAT_DOWN, 1)]).rd LNK_STAT_DOWN ≠ 0) ∧
    (put [(LNK_STAT_STATE, 8)]).rd LNK_STAT_STATE = 8 ∧ (put [(LNK_STAT_STATE, 5)]).rd LNK_STAT_STATE = 5 ∧
    ((put [(LNK_DL_LOCK 3, 1), (LNK_LANECNT_LOL, 199)]).rd (LNK_DL_LOCK 3) ≠ 0 ∧
      (put [(LNK_DL_LOCK 3, 1), (LNK_LANECNT_LOL, 199)]).rd LNK_LANECNT_LOL < 200) ∧
    ((put [(LNK_STAT_STATE, 7), (LNK_DL_LOS 3, 0)]).rd LNK_STAT_DL_L1 = 0 ∧
      (put [(LNK_STAT_STATE, 7), (LNK_DL_LOS 3, 0)]).rd (LNK_DL_LOS 3) = 0) ∧
    (({ up.link with hostLoss := true, everL0 := true } : LinkBlock).hostLoss = true ∧ up.rd LNK_STAT_DOWN = 0 ∧
      up.ring.flights = [] ∧ up.link.tags = [] ∧ up.rd SFT_SESS_STAT_ACTIVE = 0 ∧
      up.eventWrites (up.link.upQueue ++ up.link.unacked.map (fun u => u.2)) = 0 ∧
      (put [(RNG_EVT_CFG_EN, 1)]).rd RNG_EVT_CFG_EN ≠ 0 ∧
      ∀ r < 8, (up.ringAt r).queue = []) := by decide +kernel

/-- A control block with this first byte and this filling. -/
def block (first : Nat) (fill : Nat) : List Nat := [first, 0, 0xF, 0, 0] ++ List.replicate 11 fill

/-- A control block of this type and these first bytes with a good check value. -/
def good (l : List Nat) : List Nat := let b := l ++ List.replicate (14 - l.length) 0; b ++ leBytes 2 (Algo.of .crc16 b)

theorem witness_ControlBlocksAreChecked :
    ((Instr.trainingBlock 3 (block 0x1E 0x4A) (block 0x1F 0)).wf = true ∧ byteAt (block 0x1E 0x4A) 0 = 0x1E ∧
      fillOk (block 0x1E 0x4A) 5 0x4A = true) ∧ byteAt (block 0x1F 0) 0 ∉ [0x1E, 0x2D, 0x33] ∧
    (trainingOk (block 0x1E 0x4A) = true ∧ trainingOk (0x33 :: List.replicate 15 0xAA) = true ∧
      block 0x1E 0x4A ≠ 0x33 :: List.replicate 15 0xAA) ∧
    (copiesOk [block 0x1F 0] = true ∧ goodCopy [block 0x1F 0] = none) ∧
    (∀ g ∈ [good [0x4B], good [0x55, 1], good [0x55, 2], good [0x66, 1, 9]],
      copiesOk [block 0x1F 0, g] = true ∧ goodCopy [block 0x1F 0, g] = some g) ∧
    (byteAt (good [0x4B]) 0 = 0x4B ∧ byteAt (good [0x4B]) 11 = 0 ∧ up.rd LNK_STAT_STATE ≠ 4 ∧ byteAt (good [0x4B]) 0 ≠ 0x66) ∧
    (byteAt (good [0x66, 1, 9]) 0 = 0x66 ∧ byteAt (good [0x66, 1, 9]) 1 = 1 ∧ (put [(LNK_STAT_STATE, 3)]).rd LNK_STAT_STATE = 3 ∧
      ({ up.link with echoId := some 9 } : LinkBlock).echoId = some (numAt (good [0x66, 1, 9]) 2 4) ∧
      up.link.echoId ≠ some (numAt (good [0x66, 1, 9]) 2 4)) := by decide +kernel

theorem witness_PowerStatesReplayAndRecalibration :
    (∀ p ∈ [(RNG_CTL_EN, 0), (RNG_CTL_EN, 1), (LNK_CTL_L2_ALLOW, 0), (LNK_CTL_L2_ALLOW, 1), (LNK_PM_L1_IDLE_US, 1)],
      (put [(LNK_STAT_STATE, 4), p]).rd LNK_STAT_STATE = 4 ∧ (put [(LNK_STAT_STATE, 4), p]).rd p.1 = p.2) ∧
    up.link.upQueue = [] ∧ up.rd LNK_CNT_RECOVERIES < 200 ∧
    (({ up.link with unacked := [(0, .cple 1 1)], replays := 3 } : LinkBlock).unacked ≠ [] ∧ 3 < 4 ∧ 4 ≤ 4) ∧
    (∀ p ∈ [(-32768, 32767), (-32, 31), (-33, 32)], (Instr.l1RecalDone 3 p.1 p.2).wf = true) ∧
    ((put [(LNK_STAT_DL_L1, 1), (CAL_CTL_L1_RECAL, 8)]).rd LNK_STAT_DL_L1 ≠ 0 ∧
      (put [(LNK_STAT_DL_L1, 1), (CAL_CTL_L1_RECAL, 8)]).rd CAL_CTL_L1_RECAL / 2 ^ 3 % 2 = 1 ∧ up.link.recal = []) ∧
    ({ up.link with recal := [3] } : LinkBlock).recal = [3] ∧
    (∀ k < 3, copiesOk [good [0x55, k]] = true ∧ goodCopy [good [0x55, k]] = some (good [0x55, k]) ∧
      byteAt (good [0x55, k]) 0 = 0x55 ∧ byteAt (good [0x55, k]) 1 = k) := by decide +kernel

theorem witness_HostReadsEnd :
    (∃ u : TagUse, u.tag < 256 ∧ u.req = .poll ∧ u.words = 17 ∧ u.got = [] ∧
      ({ up.link with tags := [u] } : LinkBlock).tags = [u]) ∧
    up.link.deaf = false ∧ up.ring.pollAgain = false ∧ up.rd RNG_CTL_EN = 0 ∧ up.rd RNG_EVT_CFG_EN = 0 ∧
    up.ring.batch = 0 ∧ (∀ r < 8, up.rd (RNG_CMD_CFG_EN r) = 0 ∧ (up.ringAt r).queue = []) ∧
    (List.replicate 17 (2 ^ 32 - 1)).length = 17 ∧ (List.replicate 17 (2 ^ 32 - 1)).all (fun w => decide (w < 2 ^ 32)) = true :=
  ⟨⟨{ tag := 255, req := .poll, addr := 0, words := 17 }, by decide⟩, by decide +kernel⟩

/-- The read of 4 descriptors of ring 7 from the last place on, or of an argument, under tag 255. -/
def reading (q : Req) (l : List Flight) : State :=
  { up with
    link := { up.link with tags := [{ tag := 255, req := q, addr := 0, words := 32 }] }
    ring := { up.ring with flights := l } }

theorem witness_HostReadsEnd_failing :
    (∀ q ∈ [Req.desc 7 (2 ^ 20 - 1) 4, .arg 5], (reading q []).link.deaf = false ∧ (reading q []).ring.tagWait = false ∧
      (∀ n < 8, ((reading q []).fetch n).todo = []) ∧ (reading q []).ring.rings.length = 8) ∧
    (∀ op ∈ [4, 9, 16], let f : Flight := { flight op [] [] with waiting := 1 }
      (reading (.arg 5) [f]).ring.flights = [f] ∧ f.id = 5 ∧
      ((reading (.arg 5) [f]).setFlight { f with waiting := 0 }).ring.flights = [{ f with waiting := 0 }] ∧
      f.stage = .accepted ∧ f.ended = false ∧ f.todo = [] ∧ f.failed = false ∧
      (reading (.arg 5) [f]).cplFull f.ring = false ∧ (reading (.arg 5) [f]).rd LNK_STAT_DOWN = 0 ∧
      ((reading (.arg 5) [f]).ringAt f.ring).queue = []) := by decide +kernel

/-- A completion of ring 7. -/
def done : Cpl := ⟨3, 7, 4, 5, 6, false, 0, 0, 9, 10, false⟩

theorem witness_RingsFollowTheirRules :
    7 < 8 ∧ up.ring.rings.length = 8 ∧
    ((put [(RNG_CMD_STAT_DRAINING 7, 1)]).rd (RNG_CMD_STAT_DRAINING 7) ≠ 0 ∧ up.rd (RNG_CMD_STAT_DRAINING 7) = 0) ∧
    (up.rd (RNG_CMD_CFG_EN 7) = 0 ∧ (put [(RNG_CMD_CFG_EN 7, 1)]).rd (RNG_CMD_CFG_EN 7) ≠ 0 ∧
      (put [(RNG_CMD_STAT_HALTED 7, 1)]).rd (RNG_CMD_STAT_HALTED 7) ≠ 0 ∧ up.rd (RNG_CMD_STAT_HALTED 7) = 0 ∧
      up.rd RNG_EVT_CFG_EN = 0 ∧ (put [(RNG_EVT_CFG_EN, 1)]).rd RNG_EVT_CFG_EN ≠ 0 ∧ up.ring.evtHalted = false ∧
      up.link.deaf = false) ∧
    (up.ring.flights = [] ∧ up.ring.batch = 0) ∧
    ((put [(RNG_CTL_HINT_EN, 0)]).rd RNG_CTL_HINT_EN = 0 ∧ (put [(RNG_CTL_HINT_EN, 1)]).rd RNG_CTL_HINT_EN ≠ 0 ∧ up.rd RNG_CNT_HINTS + 1 < 2 ^ RNG_CNT_HINTS.width - 1) ∧
    (max 1 (up.rd RNG_CFG_CPL_STALL_TICKS) ≤ 100000 ∧ (up.ringAt 7).stallSent = false) ∧
    (((up.setRing 7 { up.ringAt 7 with queue := [done] }).ringAt 7).queue = [done] ∧ done.ring = 7 ∧
      (up.setRing 7 { up.ringAt 7 with queue := [done] }).cplFull 7 = false) ∧
    (∃ f : Flight, f.ring = 7 ∧ f.stage = .held ∧ f.ended = false ∧ f.opcode = 0 ∧ up.rd LNK_STAT_DOWN = 0 ∧
      up.ring.gather = false ∧ (up.ringAt 7).queue = [] ∧ up.cplFull 7 = false ∧
      (busy f).ring.flights = [f]) := by
  refine ⟨by decide, by decide, by decide +kernel, by decide +kernel, by decide, by decide +kernel, by decide +kernel, by decide +kernel, ?_⟩
  exact ⟨{ flight 0 [] [] with ring := 7, stage := .held }, by decide +kernel⟩

theorem witness_PhaseBitsAlternate :
    (∀ s : State, s = (put [(RNG_EVT_CFG_EN, 1)]) → done.ring < 8 ∧ s.ring.rings.length = 8 ∧ s.rd RNG_EVT_CFG_EN ≠ 0 ∧
      s.ring.evtHalted = false ∧ s.evtFull = false ∧ s.rd LNK_STAT_DOWN = 0) ∧
    ({ up.ring with evtEver := true } : RingBlock).evtEver = true := by
  refine ⟨?_, by decide⟩
  rintro s rfl
  decide +kernel

/-- The data of a limp command of the given first byte for every module, with a good check value. -/
def limp (first : Nat) : List Nat := let b := [first, 15, 3, 0, 0, 0, 0]; b ++ [Algo.of .crc8 b]

/-- A frame under identifier 0x120 + k, and a state in which CAN_ID_SAFE is 0x120 and CAN_ID_LIMP 0x121. -/
def frame (k : Nat) (fd : Bool) (data : List Nat) : CanFrame := { id := 0x120 + k, fd := fd, data := data }
def onCan : State := put [(CAN_ID_ID 0, 0x120), (CAN_ID_IDE 0, 0), (CAN_ID_ID 1, 0x121), (CAN_ID_IDE 1, 0), (CAN_CTL_MODE, 1), (CAN_STAT_STATE, 1)]

theorem witness_CanFramesAndBlocks :
    ((frame 1 false (limp 2)).ok = true ∧ onCan.rd CAN_ERRCNT_IGNORED < 200 ∧ onCan.rd CAN_ERRCNT_OVERRUN < 200 ∧
      onCan.can.recs < 128 ∧ onCan.rd CAN_STAT_TEC < 128) ∧
    (2 ≤ (put [(CAN_STAT_STATE, 2)]).rd CAN_STAT_STATE ∧ onCan.rd CAN_STAT_STATE ≤ 1) ∧
    (onCan.can.rx = [] ∧ (∀ d : Bool, onCan.canUnder 0 (frame 0 d []) = true ∧ onCan.canUnder 1 (frame 0 d []) = false ∧
      onCan.canUnder 0 (frame 1 d []) = false ∧ onCan.canUnder 1 (frame 1 d []) = true ∧
      onCan.canUnder 0 (frame 2 d []) = false ∧ onCan.canUnder 1 (frame 2 d []) = false)) ∧
    (onCan.rd CAN_CTL_MODE = 1 ∧ (∀ k ∈ [1, 2], limpOk onCan.can.limpSeen (limp k) = true ∧ byteAt (limp k) 0 = k ∧
      bitOf (byteAt (limp k) 1) onCan.ownIdx = true) ∧ onCan.rd LCS_BOOT_ENDED = 0) ∧
    ((frame 1 false ((limp 1).set 7 (255 - byteAt (limp 1) 7))).ok = true ∧
      Algo.of .crc8 (((limp 1).set 7 (255 - byteAt (limp 1) 7)).take 7) ≠ byteAt ((limp 1).set 7 (255 - byteAt (limp 1) 7)) 7) ∧
    (({ onCan.can with rx := List.replicate 16 (frame 0 true []) } : CanBlock).rx.length = 16 ∧ onCan.can.overRun = false) ∧
    onCan.rd CAN_ERRCNT_ASM_DISCARD < 200 ∧ onCan.rd CAN_RXCNT_FORMAT < 200 ∧ onCan.can.asm = none ∧
    ((frame 0 true [12, 9, 1]).ok = true ∧ byteAt [12, 9, 1] 0 % 4 = 0 ∧ byteAt [12, 9, 1] 0 / 4 % 4 ≠ 0) ∧
    ((frame 0 true [7, 9]).ok = true ∧ byteAt [7, 9] 0 % 4 ≠ 0 ∧ (frame 0 false [0, 9]).ok = true) := by decide +kernel

/-- The words of a safety block: SEQ, PERMIT, MODULES and boxes of luminance 4,096, with a good check value. -/
def copyWords (seq permit modules n : Nat) : List Nat :=
  let b := leBytes 2 seq ++ [permit, n] ++ leBytes 4 modules ++
    (List.replicate n (leBytes 4 0 ++ leBytes 2 4096 ++ leBytes 2 4096)).flatten
  let bs := b ++ leBytes 4 (crc32c b)
  (List.range (bs.length / 4)).map (fun k => numAt bs (4 * k) 4)

theorem witness_safety_copies :
    (∀ n ∈ [0, 16], ∀ permit < 4,
      let ws := copyWords 65535 permit 15 n
      let bs := wordBytes ws
      byteAt bs 3 % 32 = n ∧ ws.length = 3 + 2 * n ∧ ws.all (fun w => decide (w < 2 ^ 32)) = true ∧ byteAt bs 2 = permit ∧
        byteAt bs 3 < 32 ∧ numAt bs 4 4 < 16 ∧ (∀ i < n, numAt bs (12 + 8 * i) 2 ≤ 4096 ∧ numAt bs (14 + 8 * i) 2 ≤ 4096) ∧
        crc32c (bs.take (8 + 8 * n)) = numAt bs (8 + 8 * n) 4 ∧ numAt bs 0 2 = 65535 ∧ bitOf (byteAt bs 4) up.ownIdx = true) ∧
    bitOf (byteAt (wordBytes (copyWords 0 0 14 0)) 4) up.ownIdx = false ∧
    (byteAt (wordBytes (copyWords 0 4 1 0)) 2 = 4 ∧ byteAt (wordBytes (copyWords 0 0 1 32)) 3 % 32 = 0 ∧
      numAt (wordBytes (copyWords 0 0 16 0)) 4 4 = 16) ∧
    ((put [(SFT_TWIN_CFG_EN, 1)]).rd SFT_TWIN_CFG_EN ≠ 0 ∧ up.sft.link = none ∧ up.rd LCS_BOOT_ENDED = 0 ∧
      up.rd SFT_TWIN_CNT_MISMATCH < 65534 ∧ up.rd SFT_TWIN_CNT_MISSING < 65534 ∧
      (32767 + 65536 - 0) % 65536 ≤ 32767 ∧ 32767 < (32768 + 65536 - 0) % 65536 ∧ (5 + 65536 - 5) % 65536 = 0) := by decide +kernel

/-- The twin path on, with these blocks. -/
def twins (l c : SafeBlock) (miss : Bool) : State :=
  let s := put [(SFT_TWIN_CFG_EN, 1), (SFT_TWIN_CFG_STALE, 3), (SFT_TWIN_CFG_WINDOW, 2)]
  { s with sft := { s.sft with link := some l, can := some c, missRun := miss } }

theorem witness_twin_path :
    ∀ b : Bool, let s := twins ⟨9, 5, [1]⟩ ⟨9, 8, [1]⟩ b
      (s.rd SFT_TWIN_CFG_EN ≠ 0 ∧ s.rd CAN_STAT_STATE ≠ 2 ∧ s.sft.link = some ⟨9, 5, [1]⟩ ∧ s.sft.can = some ⟨9, 8, [1]⟩ ∧
        s.sft.missRun = b ∧ s.rd SFT_TWIN_CNT_MISSING < 200) ∧
      (8 ≤ 5 + max 2 (s.rd SFT_TWIN_CFG_STALE) ∧ 5 + max 2 (s.rd SFT_TWIN_CFG_STALE) < 9 ∧ 9 ≤ 8 + max 2 (s.rd SFT_TWIN_CFG_STALE)) ∧
      (let t := twins ⟨9, 5, [1]⟩ ⟨8, 5, [2]⟩ b
       t.sft.can = some ⟨8, 5, [2]⟩ ∧ 6 < 5 + max 1 (min 8 (t.rd SFT_TWIN_CFG_WINDOW)) ∧
         ¬ 7 < 5 + max 1 (min 8 (t.rd SFT_TWIN_CFG_WINDOW)) ∧ 7 ≤ 5 + max 2 (t.rd SFT_TWIN_CFG_STALE)) := by decide +kernel

theorem witness_CanErrorStates :
    255 < 256 ∧ 127 < 128 ∧ up.rd CAN_ERRCNT_BUS_OFF < 200 ∧
    (up.rd CAN_STAT_TEC ≠ 255 ∧ up.rd CAN_STAT_REC ≠ 127 ∧ up.rd CAN_STAT_REC = min 127 up.can.recs) ∧
    (∀ n < 3, (put [(CAN_STAT_STATE, n)]).rd CAN_STAT_STATE = n) ∧
    (up.rd CAN_STAT_TEC < 128 ∧ 127 < up.can.recs + 255 ∧ up.can.recs < 128 ∧
      up.rd CAN_ERRCNT_IGNORED < 200 ∧ 255 < up.rd CAN_STAT_TEC + 8 * 32) ∧
    (∀ n < 2, (put [(CAN_STAT_STATE, 2), (CAN_CTL_AUTO_RECOVER, n)]).rd CAN_CTL_AUTO_RECOVER = n) ∧ up.can.asm = none ∧
    ({ up.can with status := some (frame 2 false [1]) } : CanBlock).status = some (frame 2 false [1]) ∧
    ((put [(CAN_CTL_MODE, 1), (CAN_STAT_CFG_PERIOD_TICKS, 10)]).rd CAN_STAT_CFG_PERIOD_TICKS ≠ 0 ∧
      (put [(CAN_CTL_MODE, 1), (CAN_STAT_CFG_PERIOD_TICKS, 10)]).rd CAN_STAT_CFG_PERIOD_TICKS ≤
        ({ up.can with statTicks := 10 } : CanBlock).statTicks) := by decide +kernel

/-- A system-link frame of this origin with a good check value. -/
def slFrame (origin : Nat) : List Nat := let b := origin :: List.replicate 59 0; b ++ leBytes 4 (Algo.of .crc32 b)

/-- In HOLDOVER with module 1, its last frame this many ticks ago, in role FOLLOWER only. -/
def holdover (age : Nat) : State :=
  let s := put [(TCK_SYNC_STAT_STATE, 3), (TCK_SYNC_STAT_MASTER_IDX, 1), (TCK_CTL_SYNC_ROLE, 1)]
  { s with tick := { s.tick with lostTicks := 255 } }.setPeer 1 { age := some age, eligible := true }

theorem witness_SystemLinkAndMasters :
    ((Instr.slFrameReceived (slFrame 1) (2 ^ 32 - 1)).wf = true ∧ (Instr.slEchoReturn 9 255 9).wf = true ∧
      up.tick.peers.length = 4 ∧ (put [(LNK_SL_CTL_EN, 1)]).rd LNK_SL_CTL_EN ≠ 0 ∧
      up.rd LNK_SL_CNT_CRC_ERR < 200 ∧ up.rd LNK_LANECNT_LOS < 200 ∧ up.rd LNK_LANECNT_LOL < 200) ∧
    (Algo.of .crc32 ((slFrame 1).take 60) = numAt (slFrame 1) 60 4 ∧ byteAt (slFrame 1) 0 % 4 ≠ up.ownIdx) ∧
    (Algo.of .crc32 ((slFrame 0).take 60) = numAt (slFrame 0) 60 4 ∧ byteAt (slFrame 0) 0 % 4 = up.ownIdx) ∧
    ((Instr.slFrameReceived (List.replicate 64 0) 0).wf = true ∧
      Algo.of .crc32 ((List.replicate 64 0).take 60) ≠ numAt (List.replicate 64 0) 60 4) ∧
    ((put [(LNK_SL_STAT_LOCK, 1)]).rd LNK_SL_STAT_LOCK ≠ 0 ∧ (put [(LNK_SL_STAT_LOCK, 1)]).rd LNK_SL_STAT_TRAINED = 0) ∧
    (3 ≠ up.ownIdx ∧ ((up.setPeer 3 { age := some 200 }).peer 3).age.isSome = true ∧
      (up.setPeer 3 { age := some 200 }).present 3 = false) ∧
    (1 ≠ up.ownIdx ∧ up.ownIdx < 4 ∧ (put [(TCK_CTL_SYNC_ROLE, 2)]).rd TCK_CTL_SYNC_ROLE = 2 ∧
      (put [(TCK_CTL_SYNC_ROLE, 0)]).rd TCK_CTL_SYNC_ROLE = 0 ∧ up.rd TCK_SYNC_STAT_STATE = 0 ∧
      ({ up.tick with heardAny := true } : TickBlock).heardAny = true ∧ ∀ k < 4, (up.peer k).age = none) ∧
    (64 < 65 ∧ ((up.setPeer 3 { age := some 0 }).peer 3).age = some 0 ∧ ((up.setPeer 3 { age := some 0 }).peer 3).eligible = false ∧
      ((up.setPeer 3 { age := some 0 }).peer 3).mode ≠ .master ∧ ((up.setPeer 3 { age := some 0 }).peer 3).mode ≠ .locked ∧
      ∀ k < 4, k ≠ 3 → ((up.setPeer 3 { age := some 0 }).peer k).age = none) ∧
    (∀ age ∈ [1, 254], (holdover age).rd TCK_SYNC_STAT_STATE = 3 ∧ (holdover age).rd TCK_SYNC_STAT_MASTER_IDX = 1 ∧
      max 1 ((holdover age).rd TCK_SYNC_CFG_LOSS_TICKS) ≤ (holdover age).tick.lostTicks ∧ (holdover age).rd TCK_SYNC_CNT_LOSS < 200 ∧
      (holdover age).rd TCK_CTL_SYNC_ROLE = 1 ∧ ∀ k < 4, k ≠ 1 → ((holdover age).peer k).age = none) ∧
    ((holdover 1).present 1 = true ∧ (holdover 254).present 1 = false ∧ ((holdover 1).peer 1).eligible = true) ∧
    (up.rd TCK_SYNC_STAT_STATE ≠ 3 ∨ up.tick.lostTicks < max 1 (up.rd TCK_SYNC_CFG_LOSS_TICKS)) := by
  decide +kernel

/-- Engine 31 runs in this role, with this item. -/
def engine31 (role : Nat) (ess : Bool) : State :=
  let s := put [(NWT_STAT_STATE 31, 2), (NWT_CTL_ROLE 31, role), (RNG_EVT_CFG_EN, 1)]
  { s with
    eng := { s.eng with engines := s.eng.engines.set 31 { items := [⟨0, 9, ess⟩], queue := [(0, false)], hold := some 0 } },
    ring := { s.ring with evtEver := true } }

theorem witness_EnginesFollowTheirRules :
    31 < 32 ∧ 2 ^ 23 - 1 < 2 ^ 23 ∧ (engine31 1 false).eng.engines.length = 32 ∧
    ((engine31 1 false).rd (NWT_STAT_STATE 31) = 2 ∧ (engine31 1 false).rd (NWT_CTL_ROLE 31) = 1 ∧
      ((engine31 1 false).engine 31).items = [⟨0, 9, false⟩] ∧
      ((engine31 1 false).engine 31).queue = [(0, false)] ∧ (engine31 1 false).rd (NWT_DEFER_PREEMPT 31) < 200) ∧
    ((engine31 2 true).rd (NWT_STAT_STATE 31) = 2 ∧ (engine31 2 true).rd (NWT_CTL_ROLE 31) = 2) ∧
    ((engine31 1 false).ring.evtEver = true ∧ (engine31 1 false).rd RNG_EVT_CFG_EN ≠ 0 ∧
      (engine31 1 false).ring.evtHalted = false ∧ (engine31 1 false).evtFull = false ∧
      (engine31 1 false).rd LNK_STAT_DOWN = 0 ∧ (engine31 1 false).ring.batch = 0) ∧
    ((engine31 1 false).engine 31).hold = some 0 ∧ (up.engine 31).hold = none ∧
    up.rd (NWT_ECC_CORRECTED 31) < 200 ∧
    (∃ l : ExtLoad, ({ up with eng := { up.eng with loads := [l] } } : State).eng.loads = [l] ∧
      l.engine = 31 ∧ l.step = 0 ∧ up.ring.flights = [] ∧ up.ring.batch = 0) := by
  refine ⟨by decide, by decide, by decide +kernel, by decide +kernel, by decide +kernel, by decide +kernel, by decide +kernel,
    by decide +kernel, by decide +kernel, ⟨5, 31, [], 0⟩, rfl, rfl, rfl, rfl, rfl⟩

/-- One entry of the unacknowledged table: record 7 of this severity. -/
def entry (sev : Nat) : Unack := ⟨7, sev, false, 100, 0x068, 1, 2, false, false⟩

/-- With that entry in the table. -/
def entered (sev : Nat) : State := { up with flt := { up.flt with table := [(0, entry sev)] } }

theorem witness_AcknowledgementAndInjection :
    (entered 2).flt.table.any (fun x => x.2.record == 7) = true ∧ (entered 2).flt.table.any (fun x => x.2.record == 8) = false ∧
    ((entered 2).flt.table.filter (fun x => x.2.sev != 2) = [] ∧ after (exec .fltAckAllS2 (entered 2)) (fun t => t.flt.table == []) = true) ∧
    (127 < 128 ∧ 2 ^ 32 - 1 < 2 ^ 32) ∧
    ({ up with life := { up.life with state := 4, pending := 4 } } : State).sevWritable = false ∧
    up.sevWritable = true ∧ (assigned (8 * 0 + 0) = true ∨ ∃ j < 8, assigned (8 * 12 + j) = true ∧ 8 * 12 + j ≠ 0x3FF) := by
  refine ⟨by decide +kernel, by decide +kernel, by decide +kernel, by decide, by decide +kernel, by decide +kernel, .inr ⟨0, by decide +kernel⟩⟩

theorem witness_FaultsAreRecordedAndEscalate :
    2 ^ 24 - 1 < 2 ^ 24 ∧
    (up.fifo = [] ∧ up.flt.queue = [] ∧ up.flt.table = [] ∧ up.flt.overflow = 0 ∧
      up.flt.dropRun = 0 ∧ up.flt.sevNow = [] ∧ up.rcd.pf = none ∧
      up.rd LCS_BOOT_ENDED = 0 ∧ up.ring.evtEver = false ∧ up.ring.batch = 0 ∧
      up.rd (FLT_CNT_B0 26) < 100 ∧ up.rcd.buffer = [] ∧ up.rcd.frozenAt = none ∧
      up.rcd.dropRun = 0 ∧ up.rcd.prog = none ∧ up.rcd.next < 2 ^ 31) ∧
    ∃ s : State, (s.rcd.pf = none ∧ s.rd LCS_BOOT_ENDED ≠ 0 ∧ s.rd SFT_MODE_MODE ≤ 1 ∧ s.healthy = true ∧ s.bst.tests = [] ∧
      s.ring.batch = 0 ∧ s.rcd.buffer = [] ∧ s.rcd.frozenAt = none ∧ s.rd FLT_DROP_ESCALATED < 200 ∧ s.rcd.next < 2 ^ 31 ∧
      s.flt.table = []) ∧ s.flt.due = [entry 3] ∧ ((entry 3).injected = false ∧ (entry 3).inLock = false ∧ ({ entry 3 with inLock := true } : Unack).injected = false) ∧
      ({ s with flt := { s.flt with due := [] } } : State).flt.due = [] := by
  refine ⟨by decide, by decide +kernel, ?_⟩
  let base := put [(LCS_BOOT_ENDED, 1), (SFT_SK_STAT_VALID, 1)]
  exact ⟨{ base with flt := { base.flt with due := [entry 3] } }, by decide +kernel⟩

/-- After start-up, with events enabled and source 0x068 at severity v. -/
def reacting (v : Nat) : State :=
  let base := put [(LCS_BOOT_ENDED, 1), (SFT_SK_STAT_VALID, 1), (RNG_EVT_CFG_EN, 1)]
  { base with flt := { base.flt with sevNow := [(0x068, v + 1)] }, ring := { base.ring with evtEver := true } }

theorem witness_FaultsAreRecordedAndEscalate_severities :
    (∀ v < 6, (reacting v).fifo = [] ∧ (reacting v).flt.queue = [] ∧ (reacting v).flt.table = [] ∧ (reacting v).flt.overflow = 0 ∧
      (reacting v).flt.dropRun = 0 ∧ (reacting v).rcd.pf = none ∧ (reacting v).rd LCS_BOOT_ENDED ≠ 0 ∧
      (reacting v).rd SFT_MODE_MODE ≤ 1 ∧ (reacting v).healthy = true ∧ (reacting v).bst.tests = [] ∧
      (reacting v).ring.batch = 0 ∧ (reacting v).rd RNG_EVT_CFG_EN = 1 ∧ (reacting v).ring.evtHalted = false ∧
      (reacting v).evtFull = false ∧ (reacting v).rd LNK_STAT_DOWN = 0 ∧ (reacting v).rd RNG_EVT_PROD_INDEX + 1 < 2 ^ 32 ∧
      (reacting v).rcd.buffer = [] ∧ (reacting v).rcd.frozenAt = none ∧ (reacting v).rcd.dropRun = 0 ∧
      (reacting v).rcd.prog = none ∧ (reacting v).rcd.next < 2 ^ 31 ∧ Cells.find (reacting v).flt.sevNow 0x068 = some (v + 1) ∧
      Cells.find (reacting v).flt.sevNow 0x3F0 = none ∧ (reacting v).rd (FLT_CNT_B0 26) < 100 ∧
      (reacting v).rd (FLT_CNT_B0 252) < 100) ∧ 0x20C ≤ 0x3EF ∧ 0x3EF < 0x3F0 := by decide +kernel

/-- Both dual-channel inputs with these counts. -/
def sampled (count calm : Nat) (l : List (Fld × Nat)) : State :=
  let s := put l
  { s with sft := { s.sft with hbp := ⟨count, calm⟩, lbf := ⟨count, calm⟩ } }

theorem witness_FeaturesAndInputs :
    (15 < 16 ∧ up.rd SFT_MODE_MODE ≤ 1 ∧ 1 < (put [(SFT_MODE_MODE, 2)]).rd SFT_MODE_MODE ∧
      up.sft.resume = false) ∧
    (up.rd LCS_BOOT_ENDED = 0 ∧ up.sft.lbfSent = false ∧
      after (exec (.dualInputSample 15) up) (fun t => t.rd SFT_INPUTS_LBF == 1) = true ∧
      after (exec (.dualInputSample 8) up) (fun t => t.rd SFT_INPUTS_LBF == 0) = true) ∧
    (∀ i < 2, ∀ p ∈ [(SFT_INPUTS_HBP_LATCH, 0), (SFT_INPUTS_LBF_LATCH, 1)], p.2 = i →
      ((sampled 255 255 []).discTime ≤ 255 ∧ (sampled 255 255 [(p.1, 0)]).rd p.1 = 0 ∧ (sampled 255 255 [(p.1, 1)]).rd p.1 ≠ 0 ∧
        0 < (sampled 0 0 []).discTime)) := by decide +kernel

theorem witness_LifeCycleStepsNeedTheirKey :
    (1 < 8 ∧ 0x5EA1 < 2 ^ 16 ∧ up.rcd.next < 2 ^ 31 ∧ up.rcd.pf = none ∧ 0x5EA2 ≠ 0x5EA1 ∧ up.life.pending = up.life.state) ∧
    (∀ l ∈ [0, 1, 2, 3],
      let s := { put [(CAL_STAT_FACT_OK, 1), (SFT_SESS_STAT_ACTIVE, 1), (GKO_ENV_CTL_LOADED, 1), (SFT_COMM_EPOCH_EPOCH, 1),
        (SFT_SK_STAT_VALID, 1)] with life := { up.life with state := l, pending := l } }
      s.life.state = l ∧ s.rd CAL_STAT_FACT_OK ≠ 0 ∧ s.rd GKO_ENV_CTL_LOADED ≠ 0 ∧ s.rd SFT_COMM_EPOCH_EPOCH ≠ 0 ∧
        s.rd SFT_SESS_STAT_ACTIVE ≠ 0 ∧ s.rd SFT_SESS_STAT_PILOT = 0 ∧ s.rd SFT_SK_STAT_VALID ≠ 0 ∧
        s.rd CAL_STAT_USER_DIRTY = 0) := by decide +kernel

/-- SEALED, with this session and flash. -/
def sealed (l : List (Fld × Nat)) (f : FlashBlock → FlashBlock) : State :=
  let s := put l
  { s with life := { s.life with state := 2, pending := 2 }, flash := f s.flash }

theorem witness_SessionsFollowTheirRules :
    up.mayOpen = false ∧ ((sealed [] id).mayOpen = true ∧ (sealed [] id).flash.pwHash = none ∧ (sealed [] id).life.state = 2) ∧
    (∀ n : Nat, (sealed [] fun f => { f with pwHash := some n }).flash.pwHash = some n) ∧
    (∀ n < 10, (sealed [] fun f => { f with pwHash := some ((sealed [] id).pwHash 8 + 1), pwFails := n }).flash.pwFails = n) ∧
    (up.flash.lockEnd = none ∧ (sealed [] fun f => { f with lockEnd := some 60 }).rd REC_MINUTES_MINUTES < 60 ∧
      60 ≤ (sealed [(REC_MINUTES_MINUTES, 60)] fun f => { f with lockEnd := some 60 }).rd REC_MINUTES_MINUTES) ∧
    ((({ sealed [] id with life := { (sealed [] id).life with pilot := true } } : State).mayOpen = true) ∧
      up.life.pilot = false) ∧
    ((sealed [(SFT_SESS_STAT_ACTIVE, 1)] id).pwSession = true ∧ up.pwSession = false) ∧
    (up.sft.changed = false ∧ (sealed [(SFT_SESS_STAT_ACTIVE, 1)] id).rd SFT_SESS_STAT_ACTIVE ≠ 0 ∧
      up.sft.closing = [] ∧ up.ring.flights = [] ∧
      ({ up.sft with changed := true, closing := [⟨1, true, true⟩], sessNo := 2 } : SftBlock).changed = true) ∧
    ((busy { flight 9 [] [] with sess := 2 }).ring.flights = [{ flight 9 [] [] with sess := 2 }] ∧
      ({ flight 9 [] [] with sess := 2 } : Flight).stage = .accepted ∧ ({ flight 9 [] [] with sess := 2 } : Flight).ended = false ∧
      (sealed [(SFT_SESS_STAT_ACTIVE, 1), (SFT_SESS_STAT_PILOT, 1)] id).rd SFT_SESS_STAT_PILOT ≠ 0) ∧
    (up.sft.ms < up.sft.lastUse + 600000 ∧
      ({ up.sft with ms := 600000 } : SftBlock).lastUse + 600000 ≤ ({ up.sft with ms := 600000 } : SftBlock).ms) := by
  refine ⟨by decide +kernel, by decide +kernel, fun _ => rfl, fun _ _ => rfl, by decide +kernel, by decide +kernel,
    by decide +kernel, by decide +kernel, by decide +kernel, by decide +kernel⟩

/-- With this flight alone at work and these milliseconds, and a check value awaited. -/
def awaiting (f : Flight) (ms : Nat) : State :=
  { busy f with sft := { up.sft with ms := ms, pilotWait := [(f.id, 3, 0)] } }

theorem witness_PilotValuesAreCompared :
    up.sft.pilotWait = [] ∧
    ((awaiting (flight 8 [] []) 60000).oneAtWork (flight 8 [] []) 8 ∧
      (awaiting (flight 8 [] []) 60000).sft.pilotWait = [((flight 8 [] []).id, 3, 0)] ∧
      0 + 60000 ≤ (awaiting (flight 8 [] []) 60000).sft.ms) ∧
    ((awaiting (flight 8 [] []) 59999).oneAtWork (flight 8 [] []) 8 ∧ (awaiting (flight 8 [] []) 59999).sft.ms < 0 + 60000) ∧
    (4 ≠ 3 ∧ 3 < 2 ^ 32) := by
  unfold State.oneAtWork
  decide +kernel

/-- A healthy module, this many milliseconds from T0, with these causes collected. -/
def starting (ms : Nat) (l : List (Fld × Nat)) (c : List (Bool × CauseRef)) : State :=
  let s := put ((SFT_SK_STAT_VALID, 1) :: l)
  { s with sft := { s.sft with ms := ms, collected := c } }

theorem witness_StartUpEnds :
    (up.rd LCS_BOOT_HW_RUN = 0 ∧ up.sft.ms < up.rd SFT_HOSTWAIT_MS) ∧
    ((starting 5000 [(LCS_BOOT_HW_RUN, 1)] []).rd LCS_BOOT_HW_RUN ≠ 0 ∧
      (starting 5000 [(LCS_BOOT_HW_RUN, 1)] []).rd SFT_HOSTWAIT_MS ≤ (starting 5000 [(LCS_BOOT_HW_RUN, 1)] []).sft.ms ∧
      (starting 5000 [(LCS_BOOT_HW_RUN, 1)] []).rd LCS_BOOT_ENDED = 0) ∧
    (starting 119 [] []).sft.ms < 120 ∧ (put [(LCS_BOOT_ENDED, 1)]).rd LCS_BOOT_ENDED ≠ 0 ∧
    (120 ≤ (starting 120 [] []).sft.ms ∧ (starting 120 [] []).rd LCS_BOOT_ENDED = 0 ∧ (starting 120 [] []).healthy = true ∧
      (starting 120 [] []).sft.collected = []) ∧
    (120 ≤ (starting 120 [] [(false, .msg 0)]).sft.ms ∧ (starting 120 [] [(false, .msg 0)]).rd LCS_BOOT_ENDED = 0 ∧
      (starting 120 [] [(false, .msg 0)]).healthy = true ∧ (starting 120 [] [(false, .msg 0)]).sft.collected = [(false, .msg 0)] ∧
      (starting 120 [] [(false, .msg 0)]).rd SFT_MODE_MODE ≤ 1 ∧ (starting 120 [] [(false, .msg 0)]).bst.tests = []) := by
  decide +kernel

theorem witness_MonitorsAndSkink :
    up.rd LCS_BOOT_ENDED = 0 ∧ up.periodBad (up.period) = false ∧
    (up.periodBad 65535 = true ∧ up.tick.step = 0 ∧ up.tick.periodSent = false ∧
      100 * (320 * (up.period : Int) + up.tick.applied) ≤ 32000 * (65535 : Int)) ∧
    (303999 < 304000 ∧ 336000 < 336001 ∧ 304000 ≤ 304000 ∧ 336000 ≤ 336000) ∧
    (∀ p ∈ [(2650, 5700), (715, 795), (860, 955), (860, 955), (1145, 1275), (1680, 1950)], p.1 + 61 < 2 ^ 16 ∧ p.2 < 2 ^ 16) ∧
    (1 = 1 ∧ 715 ≤ 715 ∧ up.rcd.pf = none ∧ up.rcd.frozenAt = none ∧ up.rcd.hold = [] ∧ up.rcd.buffer = [] ∧ up.rcd.prog = none ∧
      up.rcd.dropRun = 0 ∧ up.rcd.next < 2 ^ 31 ∧ ({ up.rcd with pf := some 3 } : RecBlock).pf ≠ none ∧ 0 ≠ 1) ∧
    (Instr.skinkSramCheck [(327739, 7)]).wf = true ∧ up.rd SFT_SK_STAT_SCALE = 0 ∧
    ((put [(SFT_SK_STAT_SCALE, 1), (SFT_SK_STAT_SRAM_ERR, 1)]).rd SFT_SK_STAT_VALID = 0 ∧
      (put [(SFT_SK_STAT_SCALE, 1), (SFT_SK_STAT_SRAM_ERR, 1)]).rd SFT_SK_STAT_SRAM_ERR ≠ 0) ∧
    ((put [(SFT_SK_STAT_SCALE, 1), (SFT_SK_STAT_VALID, 1)]).rd SFT_SK_STAT_SCALE ≠ 0 ∧
      (put [(SFT_SK_STAT_SCALE, 1)]).rd SFT_SK_STAT_SRAM_ERR = 0) ∧
    ((put [(SFT_SK_STAT_VALID, 1)]).rd SFT_SK_STAT_VALID ≠ 0 ∧ (put [(SFT_SK_STAT_VALID, 1)]).rd LCS_BOOT_ENDED = 0 ∧
      (put [(SFT_SK_STAT_VALID, 1)]).rd GKO_ENV_CTL_LOADED = 0) ∧
    (up.skink.recheck = false ∧ ({ up.skink with recheck := true } : SkinkBlock).recheck = true) := by
  decide +kernel

theorem witness_ResetsAndRelease :
    (∀ s ∈ [up, State.reset, { up with regs := (put [(LCS_RESET_WARM, 1)]).regs }],
      s.rd SFT_SESS_STAT_ACTIVE = 0 ∧ s.sft.closing = [] ∧ 0 ∉ s.life.low ∧ s.rcd.frozenAt = none ∧ s.rcd.hold = [] ∧ s.rcd.prog = none) ∧
    (2548 ≤ 2548 ∧ (∀ rail ∈ [1, 2, 3, 4, 5], 1 ≤ rail ∧ rail < 6 ∧ 0 < [0, 710, 850, 850, 1130, 1632].getD rail 0 ∧
      [0, 710, 850, 850, 1130, 1632].getD rail 0 + 1 < 2 ^ 16)) ∧
    ((∀ ns ∈ [2000, 18999999], 2000 ≤ ns ∧ ns < 19000000) ∧ (500 ≤ 500 ∧ 1999 < 2000) ∧ (19000000 ≤ 19000000 ∧ 21000000 ≤ 21000000) ∧
      21000000 < 21000001 ∧ 499 < 500) ∧ (2547 < 2548 ∧ 2550 < 2551) ∧ State.reset.rcd.pfFlush = none ∧
    (Instr.resetRelease { rails := [2451, 700, 845, 845, 1130, 1627] }).wf = true ∧
    (∀ i < 6, ((if i ∈ State.reset.life.low then [2548, 700, 845, 845, 1130, 1627] else [2451, 691, 831, 831, 1111, 1569]) :
      List Nat).getD i 0 ≤ [2451, 700, 845, 845, 1130, 1627].getD i 0) ∧
    (∃ i < 6, ([2450, 700, 845, 845, 1130, 1627] : List Nat).getD i 0 < [2451, 700, 845, 845, 1130, 1627].getD i 0) ∧
    (0 ∉ State.reset.life.low ∧ 0 ∈ ({ up.life with low := [0, 1, 2, 3, 4, 5] } : LifeBlock).low) ∧
    State.reset.life.released = false ∧ State.reset.rd AXL_SKIP_SWEEP < 200 := by
  refine ⟨by decide +kernel, by decide, by decide, by decide, by decide, by decide +kernel, by decide, ⟨0, by decide⟩, by decide, by decide,
    by decide +kernel⟩

/-- The recorder with these contents. -/
def recording (x : RecBlock) : State := { up with rcd := x }

/-- Record n, a message. -/
def record (n : Nat) : Rec := { number := n, type := 0 }

theorem witness_RecordsAreProgrammed :
    (up.rcd.prog = none ∧ up.rcd.erasing = none ∧ up.rcd.frozenAt = none ∧ up.rcd.pf = none ∧
      up.rcd.hold = [] ∧ up.rcd.buffer = [] ∧ up.rcd.holdDrops = 0 ∧ up.rcd.next < 2 ^ 31 ∧
      up.rd REC_MINUTES_MINUTES < 2 ^ 31) ∧
    ((recording { prog := some 128, buffer := [record 128] }).rcd.prog = some (record 128).number ∧ 128 ≤ (record 128).number ∧
      (record 128).type ≠ 6) ∧
    ((recording { erasing := some 63 }).rcd.erasing = some 63 ∧ (recording { erasing := some 63 }).rcd.suspended = false ∧
      (recording { suspended := true }).rcd.suspended = true) ∧
    ((recording { frozenAt := some 0 }).sft.ms < 0 + 2000 ∧
      0 + 2000 ≤ ({ recording { frozenAt := some 0 } with sft := { up.sft with ms := 2000 } } : State).sft.ms) ∧
    ((recording { pf := some 64 }).rcd.pf ≠ none ∧ 2999 < 3000 ∧ 2 ^ 16 - 1 < 2 ^ 16 ∧ up.rcd.pfFlush = none ∧
      ((recording { hold := [record 9], frozenAt := some 0 }).rcd.hold = [record 9] ∧ 100 * 2856 ≤ 102 * 2800 ∧ 102 * 2800 < 100 * 2857 ∧
        (put [(REC_PF_PF_MV, 0)]).rd REC_PF_PF_MV < 2800 ∧ 5000 < (put [(REC_PF_PF_MV, 8191)]).rd REC_PF_PF_MV)) ∧
    (((put [(REC_MINUTES_MINUTES, 59)]).rd REC_MINUTES_MINUTES + 1) % 60 = 0 ∧ (up.rd REC_MINUTES_MINUTES + 1) % 60 ≠ 0) := by
  decide +kernel

theorem witness_FailedProgrammingIsRepeated :
    (∀ tries ∈ [0, 1, 2], ∀ rest ∈ [[], [record 8]],
      let s := recording { prog := some 7, buffer := record 7 :: rest, tries := tries, flushing := true }
      s.rcd.prog = some (record 7).number ∧ (∀ q ∈ rest, q.number ≠ 7) ∧ s.rd REC_TORN_PROG_FAIL < 200 ∧ s.rcd.hold = [] ∧
        s.rcd.erasing = none ∧ s.rcd.flushing = true) ∧ up.rd REC_CTL_MODE = 0 := by decide +kernel

theorem witness_CrcUnitsComputeTheirAlgorithm :
    up.crc.queues.length = 4 ∧ (∀ w ∈ [(1, 255), (2, 65535), (4, 2 ^ 32 - 1)], (w.1 = 1 ∨ w.1 = 2 ∨ w.1 = 4) ∧ w.2 < 256 ^ w.1) ∧
    (up.crc.queues.getD 3 []).length < 2 ∧
    (∀ b ∈ [0, 255], b < 256) ∧ (flight 13 [3, 0, 0, 2, 0] []).arg 1 / 256 % 2 = 0 := by decide +kernel

theorem witness_CrcUnitsComputeTheirAlgorithm_value : 3 < 4 ∧ 2 ^ 32 - 1 < 2 ^ 32 ∧ up.crc.queues.length = 4 := by decide

/-- Test 8 started by the host, with this many patterns of four run and folded. -/
def running (exec : Nat) (started : Bool) : Test :=
  { num := 8, desc := none, regions := [], deadline := 1000, expect := 4, exec := exec, started := started }

theorem witness_TestsStartAndEnd :
    (255 < 256 ∧ fullState up.life.state = true ∧ up.bst.tests = [] ∧ fullState 4 = false) ∧
    (let s := put [(BST_RGN_LO_REGIONS, 1)]
     3 < 16 ∧ s.testRefusal 3 (s.rd BST_RGN_LO_REGIONS + 2 ^ 32 * s.rd BST_RGN_HI_REGIONS) true = none) ∧
    ((running 4 false).desc = none ∧ (running 4 false).shown = true ∧ (running 4 false).expect ≤ (running 4 false).exec) ∧
    ((running 3 false).exec < (running 3 false).expect ∧ up.atEnd (running 3 false) = false ∧ (running 3 false).wait < 200 ∧
      (running 3 false).started = false ∧ groupTest (running 3 false).num = false) ∧
    (up.atEnd (running 3 true) = true ∧ (running 3 true).exec ≤ (running 3 true).expect ∧ (running 3 true).expect < 2 ^ 24 ∧
      (running 3 true).fails = 0 ∧ (running 3 true).first = none ∧ (running 3 true).num < 16 ∧ (running 3 true).num ≠ 9 ∧
      (running 3 true).num ≠ 7 ∧ outside (running 3 true).num 3 (2 ^ 32 - 1) = true ∧ outside (running 3 true).num 3 0 = false) ∧
    (let x : Test := { running 3 true with num := 9 }
     up.atEnd x = true ∧ x.exec < x.expect ∧ x.num = 9) := by decide +kernel

/-- The state with this flight alone meets what a completion needs. -/
theorem witness_oneAtWork (op : Nat) (args : List Nat) (buf : Cells) :
    (busy (flight op args buf)).oneAtWork (flight op args buf) op := by
  unfold State.oneAtWork
  refine ⟨rfl, by simp [flight], rfl, rfl, rfl, rfl, rfl, rfl, ?_, rfl, rfl, rfl, rfl, ?_⟩
  · have : up.rd LNK_STAT_DOWN = 0 := by decide +kernel
    exact this
  · have : up.cplFull 0 = false := by decide +kernel
    exact this

theorem witness_LoadsEnd :
    (busy (flight 5 [0, 0, 0, 9, 1, 0] [])).sft.pilotWait = [] ∧
    (crc32c (Cells.take up.flash.library 0xFF 0 1) ≠ (flight 5 [0, 0, 0, 9, 1, 0] []).arg 6 ∧
      crc32c (Cells.take up.flash.library 0xFF 0 1) = (flight 5 [0, 0, 0, 9, 1, crc32c [0xFF]] []).arg 6) ∧
    (let f := flight 5 [3, 0, 0, 0x400000, 1, crc32c [7]] [(0, 7)]
     f.arg 1 = 3 ∧ crc32c (Cells.take f.buf 0 0 (f.arg 5)) = f.arg 6 ∧ (busy f).pilotChange f [7] = false ∧ f.gate ≠ 2 ∧ f.arg 4 % 65536 = 0 ∧
       (f.arg 4 + f.arg 5 + 65535) / 65536 * 65536 = 0x410000) ∧
    (let f := flight 5 [3, 0, 0, 0x400000, 1, 0] [(0, 7)]
     crc32c (Cells.take f.buf 0 0 (f.arg 5)) ≠ f.arg 6) ∧
    (∀ i < (flight 11 [0, 2] []).arg 2, (busy (flight 11 [0, 2] [])).recordOf ((flight 11 [0, 2] []).arg 1 + i) = none) ∧
    (let f := flight 11 [7, 1, 0, 0] []
     let s : State := { busy f with rcd := { buffer := [record 7] } }
     f.arg 2 = 1 ∧ s.recordOf (f.arg 1) = some (record 7)) ∧
    crcSpace (flight 13 [3, 0, 0, 2, 0] []) = 0 := by decide +kernel

/-- A write of the aim in this phase, with this check value. -/
def aimWrite (phase crc : Nat) (hold : Bool) : CalWrite := { id := 5, group := 4, persist := true, hold := hold, crc := crc, phase := phase }

theorem witness_CalibrationIsWritten :
    (∀ (w : CalWrite), w.id = 5 → ∀ s : State, s = { busy (flight 9 [] []) with cal := { up.cal with write := some w } } →
      s.sft.pilotWait = [] ∧ s.oneAtWork (flight 9 [] []) 9 ∧ s.cal.write = some w ∧ w.id = (flight 9 [] []).id) ∧
    ((aimWrite 1 0 true).waits = false ∧ crcOfCells [] (groupSize 4) ≠ 0 ∧ badGroup 4 [] = false ∧
      badGroup 4 [(1, 0x40)] = true ∧ (aimWrite 1 (crcOfCells [] (groupSize 4)) true).hold = true ∧
      crcOfCells (flight 9 [] []).buf (groupSize 4) = (aimWrite 1 (crcOfCells [] (groupSize 4)) false).crc) ∧
    ((flight 9 [] []).gate ≠ 2 ∧ ({ flight 9 [] [] with gate := 2 } : Flight).gate = 2) ∧
    (let w : CalWrite := { id := 5, group := 1, persist := false, hold := false, crc := 0, phase := 2 }
     w.phase = 2 ∧ w.group = 1 ∧ w.persist = false ∧ w.pass2 = false ∧ w.restore = none ∧ w.phase ≠ 3) ∧
    ((aimWrite 3 0 false).behind = false ∧ up.rcd.prog = none ∧ ({ aimWrite 3 0 false with behind := true } : CalWrite).behind = true) ∧
    ((aimWrite 3 0 false).phase = 3 ∧ (aimWrite 3 0 false).group = 4 ∧ up.flash.map.length = 2) := by
  refine ⟨?_, by decide +kernel, by decide +kernel, by decide, by decide +kernel, by decide⟩
  rintro w hw s rfl
  unfold State.oneAtWork
  refine ⟨rfl, ?_, rfl, hw⟩
  exact witness_oneAtWork 9 [] []

theorem witness_gated : (busy { flight 9 [] [] with gate := 2 }).oneAtWork { flight 9 [] [] with gate := 2 } 9 := by
  unfold State.oneAtWork
  decide +kernel

theorem witness_HealthPortAndSave :
    (2 ^ 16 - 1 < 2 ^ 16 ∧ up.portBad true 0 7 = false ∧ up.portBad true 1310720 7 = true) ∧
    ((put [(AXL_HADDR_AUTOINC, 1), (AXL_HADDR_PIXEL, 1310719)]).rd AXL_HADDR_AUTOINC ≠ 0 ∧
      (put [(AXL_HADDR_AUTOINC, 1), (AXL_HADDR_PIXEL, 1310719)]).rd AXL_HADDR_PIXEL + 1 = 1310720) ∧
    ((put [(AXL_SAVE_BUSY, 1)]).rd AXL_SAVE_BUSY ≠ 0 ∧ up.rd AXL_SAVE_BUSY = 0) ∧
    (up.pix.saving = none ∧ ({ up.pix with saving := some [] } : PixBlock).saving = some [] ∧
      up.flash.health.length = 2) ∧
    ((healthCopy up.flash.health 0).2 < 65535 ∧ up.rd AXL_SAVE_SEQ ≠ 65535 ∧
      healthCopy [some ⟨65535, [], 0⟩, none] 0 = (1, 65535)) := by decide +kernel

/-- Between two copies held at all ones the one written last is the newest (R161, R355). -/
theorem test_health_tie : healthCopy [some ⟨65535, [], 0⟩, some ⟨65535, [], 0⟩] 1 = (0, 65535) ∧
    healthCopy [some ⟨65535, [], 0⟩, some ⟨65535, [], 0⟩] 0 = (1, 65535) ∧
    healthCopy [some ⟨1, [], 0⟩, some ⟨65535, [], 0⟩] 0 = (0, 65535) := by decide

theorem witness_MemoryStaysCanonical :
    State.reset.memoryOk = true ∧ ({ up with pending := [.seedWrite 1] } : State).memoryOk = true ∧
      ranOn (step { up with pending := [.seedWrite 1] }) = true := by decide +kernel

/-! ### Words the host's questions start from: the opcode table gives its rows no bits -/

theorem test_no_row_has_bits : decodeTableWord 32 0 = none ∧ up.withFetchWord 32 0 = up := ⟨rfl, rfl⟩

end Sys2Proof.Tests
end

/-! The broadcast aliases of the register window and a read through them (R24, R26, R30). Each lemma says what its
operation answers in one case, so that a proof cites the case and leaves the operation folded. -/

namespace Sys2Proof.Machine

/-! ### Who the members are -/

/-- The regions of a mask come lowest first. -/
theorem regionsOf_pairwise_lt (mask : Nat) : (regionsOf mask).Pairwise (· < ·) :=
  List.pairwise_lt_range.filter _

theorem lt_of_mem_regionsOf {mask n : Nat} (h : n ∈ regionsOf mask) : n < 64 :=
  List.mem_range.mp (List.mem_filter.mp h).1

/-- The broadcast pages are all regions, the two dies and the eight groups (R24). -/
theorem pageOk_iff {k : Nat} : pageOk k = true ↔ k < 3 ∨ 8 ≤ k ∧ k < 16 := by
  simp only [pageOk, List.contains_iff_mem, List.mem_cons, List.not_mem_nil, or_false]
  omega

/-- A page with members is one of the eleven broadcast pages, its number fits ALIAS, and its members are regions in rising
order (R24, R27, R30). -/
theorem State.aliasOf_some {s : State} {k ali : Nat} {ms : List Nat} (h : s.aliasOf k = some (ali, ms)) :
    pageOk k = true ∧ ali < 256 ∧ ms.Pairwise (· < ·) ∧ ∀ n ∈ ms, n < 64 := by
  unfold State.aliasOf at h
  split at h
  case isTrue all =>
    cases h
    exact ⟨pageOk_iff.mpr (by omega), by decide, List.pairwise_lt_range, fun _ => List.mem_range.mp⟩
  split at h
  case isTrue dieA =>
    cases h
    exact ⟨pageOk_iff.mpr (by omega), by decide, List.pairwise_lt_range,
      fun n hn => Nat.lt_trans (List.mem_range.mp hn) (by decide)⟩
  split at h
  case isTrue dieB =>
    cases h
    exact ⟨pageOk_iff.mpr (by omega), by decide, by decide, by decide⟩
  split at h
  case isTrue group =>
    cases h
    exact ⟨pageOk_iff.mpr (.inr group), by omega, regionsOf_pairwise_lt _, fun _ => lt_of_mem_regionsOf⟩
  case isFalse => cases h

/-! ### The flags of R30 -/

/-- A broadcast flag that is set changes no field but itself and the access shown (R30). -/
theorem State.bcastFlag_onlyFields (s : State) (f : Fld) (ali off : Nat) :
    onlyFields s (s.bcastFlag f ali off) [f, TCK_BCAST_MIXED_ALIAS, TCK_BCAST_MIXED_OFFSET] :=
  ⟨keepsBut_wr_of _ (keepsBut_wr_of _ (keepsBut_wr_of _ (keepsBut_refl s _) (by simp)) (by simp)) (by simp), rfl⟩

theorem State.bcastFlag_rd_offset (s : State) (f : Fld) {ali off : Nat} (h : off < 4096) :
    (s.bcastFlag f ali off).rd TCK_BCAST_MIXED_OFFSET = off :=
  (State.rd_wr_same ..).trans (Nat.mod_eq_of_lt h)

theorem State.bcastFlag_rd_alias (s : State) (f : Fld) {ali off : Nat} (h : ali < 256) :
    (s.bcastFlag f ali off).rd TCK_BCAST_MIXED_ALIAS = ali :=
  calc (s.bcastFlag f ali off).rd TCK_BCAST_MIXED_ALIAS
    _ = ((s.wr f 1).wr TCK_BCAST_MIXED_ALIAS ali).rd TCK_BCAST_MIXED_ALIAS := State.rd_wr_other _ _ _ _ (by decide)
    _ = ali % 2 ^ 8 := State.rd_wr_same ..
    _ = ali := Nat.mod_eq_of_lt h

/-- The flag itself reads 1, whichever of MIXED, EMPTY and SKIPPED it is. -/
theorem State.bcastFlag_rd_flag (s : State) {f : Fld} (ali off : Nat) (hw : f.width = 1)
    (ha : f.key ≠ TCK_BCAST_MIXED_ALIAS.key) (ho : f.key ≠ TCK_BCAST_MIXED_OFFSET.key) :
    (s.bcastFlag f ali off).rd f = 1 :=
  calc (s.bcastFlag f ali off).rd f
    _ = ((s.wr f 1).wr TCK_BCAST_MIXED_ALIAS ali).rd f := State.rd_wr_other _ _ _ _ ho
    _ = (s.wr f 1).rd f := State.rd_wr_other _ _ _ _ ha
    _ = 1 % 2 ^ f.width := State.rd_wr_same ..
    _ = 1 := Nat.mod_eq_of_lt (by rw [hw]; decide)

/-! ### A broadcast read -/

/-- It answers the lowest member's word (R26). -/
theorem State.aliasRead_value {s : State} {k ali n : Nat} {rest : List Nat} (h : s.aliasOf k = some (ali, n :: rest))
    (off : Nat) : (s.aliasRead k off).1 = s.showWord (pxdAt n off) := by
  simp [State.aliasRead, h]

/-- Where the members agree nothing changes (R26). -/
theorem State.aliasRead_agree {s : State} {k ali n off : Nat} {rest : List Nat}
    (h : s.aliasOf k = some (ali, n :: rest))
    (agree : ∀ i ∈ rest, s.showWord (pxdAt i off) = s.showWord (pxdAt n off)) : (s.aliasRead k off).2 = s := by
  simp only [State.aliasRead, h]
  rw [if_pos (by simpa using agree)]

/-- Where one differs MIXED is set (R26, R30). -/
theorem State.aliasRead_differ {s : State} {k ali n off : Nat} {rest : List Nat}
    (h : s.aliasOf k = some (ali, n :: rest))
    (differ : ∃ i ∈ rest, s.showWord (pxdAt i off) ≠ s.showWord (pxdAt n off)) :
    (s.aliasRead k off).2 = s.bcastFlag TCK_BCAST_MIXED_MIXED ali off := by
  simp only [State.aliasRead, h]
  rw [if_neg (by simpa using differ)]

/-- Whatever the members are, it changes nothing but register fields (R26, R28). -/
theorem State.aliasRead_rest (s : State) (k off : Nat) : ∃ r, (s.aliasRead k off).2 = { s with regs := r } := by
  unfold State.aliasRead
  split
  · exact ⟨s.regs, rfl⟩
  · exact ⟨_, rfl⟩
  · dsimp only
    split
    · exact ⟨s.regs, rfl⟩
    · exact ⟨_, rfl⟩

/-! ### The reads of the register window that these are -/

/-- A read in the window of a broadcast page is a read through that page (R24). -/
theorem State.windowRead_alias (s : State) {k off : Nat} (hk : k < 16) (ho : off < 4096) :
    s.windowRead (aliasAt k off) = s.aliasRead k off := by
  have page : (aliasAt k off - 0x240000) / 0x1000 = k := by unfold aliasAt; omega
  have within : aliasAt k off % 0x1000 = off := by unfold aliasAt; omega
  unfold State.windowRead
  rw [if_neg (by unfold aliasAt; omega), if_pos (by unfold aliasAt; omega), page, within]

/-- A read at a region's own address answers the word shown there. -/
theorem State.windowRead_pxd (s : State) {n off : Nat} (hn : n < 64) (ho : off < 4096) :
    (s.windowRead (pxdAt n off)).1 = s.showWord (pxdAt n off) := by
  have ready : s.readReady (pxdAt n off) = s := if_neg (by unfold pxdAt; omega)
  unfold State.windowRead
  rw [if_neg (by unfold pxdAt; omega), if_neg (by unfold pxdAt; omega), ready]

/-- The host, and JTAG out of reset, read an aligned word of the window as it answers (R6, R230, R393). -/
theorem State.regRead_aligned {s : State} {acc : Accessor} {off : Nat} (ha : acc = .host ∨ acc = .jtag)
    (hj : acc = .jtag → s.jtag.held = false) (h4 : off % 4 = 0) :
    s.regRead acc off = { (s.windowRead off).2 with data := (s.windowRead off).1 } := by
  obtain rfl | rfl := ha
  · simp [State.regRead, State.hostRegRead, h4]
  · simp [State.regRead, State.hostRegRead, h4, hj rfl]

/-- READ_CLEAR by one of them at any aligned offset answers that word (R9). -/
theorem exec_readClear_data {s : State} {acc : Accessor} {off : Nat} (hr : s.life.released = true)
    (ha : acc = .host ∨ acc = .jtag) (hj : acc = .jtag → s.jtag.held = false) (hoff : off < 2 ^ 24) (h4 : off % 4 = 0) :
    ∃ q : State, exec (.readClear acc off) s = .next q ∧ q.data = (s.windowRead off).1 := by
  have wf : (Instr.readClear acc off).wf = true := by
    show (accOk acc && offOk off) = true
    obtain rfl | rfl := ha <;> simpa [accOk, offOk] using hoff
  refine ⟨_, (congrArg (runs · s _) wf).trans (runs_true hr _), ?_⟩
  exact congrArg State.data (State.regRead_aligned ha hj h4)

/-- BROADCAST_READ by one of them reads through the page's members, and changes nothing else but the data answered (R26). -/
theorem exec_broadcastRead {s : State} {acc : Accessor} {page off : Nat} (hr : s.life.released = true)
    (ha : acc = .host ∨ acc = .jtag) (hj : acc = .jtag → s.jtag.held = false) (hp : pageOk page = true)
    (ho : off < 4096) (h4 : off % 4 = 0) :
    exec (.broadcastRead acc page off) s =
      .next { (s.aliasRead page off).2 with data := (s.aliasRead page off).1 } := by
  have wf : (Instr.broadcastRead acc page off).wf = true := by
    show (accOk acc && pageOk page && decide (off < 0x1000) && off % 4 == 0) = true
    obtain rfl | rfl := ha <;> simp [accOk, hp, ho, h4]
  have read : s.regRead acc (aliasAt page off) =
      { (s.aliasRead page off).2 with data := (s.aliasRead page off).1 } := by
    rw [State.regRead_aligned ha hj (by unfold aliasAt; omega), State.windowRead_alias s (by have := pageOk_iff.mp hp; omega) ho]
  obtain ⟨r, rest⟩ := State.aliasRead_rest s page off
  calc exec (.broadcastRead acc page off) s
    _ = runs true s (s.regRead acc (aliasAt page off)) := congrArg (runs · s _) wf
    _ = _ := by rw [read, runs_true hr, rest]

/-- Settles O14: the members come lowest first, both reads answer the word that the lowest shows, and the broadcast read
sets MIXED exactly where another member's word is not that one. -/
theorem broadcastReadAnswersTheLowest : Obligations.BroadcastReadAnswersTheLowest := by
  intro acc page off ali n rest s hr ha ho h4 hj halias
  obtain ⟨hpage, hali, hsorted, hlt⟩ := State.aliasOf_some halias
  have hn : n < 64 := hlt n (by simp)
  obtain ⟨q, hq, hdata⟩ := exec_readClear_data (off := pxdAt n off) hr ha hj
    (by unfold pxdAt; omega) (by unfold pxdAt; omega)
  refine ⟨fun _ => List.rel_of_pairwise_cons hsorted, q, hq, _, exec_broadcastRead hr ha hj hpage ho h4, ?_, ?_, ?_⟩
  · calc (s.aliasRead page off).1
      _ = s.showWord (pxdAt n off) := State.aliasRead_value halias off
      _ = q.data := (hdata.trans (State.windowRead_pxd s hn ho)).symm
  · intro agree
    rw [State.aliasRead_agree halias agree]
  · intro differ
    rw [State.aliasRead_differ halias differ]
    exact ⟨State.bcastFlag_rd_flag s ali off rfl (by decide) (by decide), State.bcastFlag_rd_alias s _ hali,
      State.bcastFlag_rd_offset s _ ho, State.bcastFlag_onlyFields s _ ali off⟩

end Sys2Proof.Machine

namespace Sys2Proof.Machine

/-! ### Rounding to the nearest, ties to even, and the drive mapper (R131, R132) -/

/-- The value lies within half a unit of the quotient, and a quotient half-way between two integers goes to the even one. -/
theorem roundEven_nearest (n : Nat) {d : Nat} (hd : 0 < d) :
    2 * n ≤ 2 * d * roundEven n d + d ∧ 2 * d * roundEven n d ≤ 2 * n + d ∧
      (2 * n = 2 * d * roundEven n d + d ∨ 2 * d * roundEven n d = 2 * n + d → roundEven n d % 2 = 0) := by
  have hdiv : d * (n / d) + n % d = n := Nat.div_add_mod n d
  have hlt : n % d < d := Nat.mod_lt n hd
  unfold roundEven
  simp only [Nat.mul_assoc]
  split
  case isTrue below => omega
  split
  case isTrue above => rw [Nat.mul_succ]; omega
  split
  case isTrue even => omega
  case isFalse odd => rw [Nat.mul_succ]; omega

/-- The quotient rounds to at most an odd k exactly below k + 1/2: at the tie it goes up, to the even k + 1. -/
theorem roundEven_le_iff_of_odd (n : Nat) {d k : Nat} (hd : 0 < d) (hk : k % 2 = 1) :
    roundEven n d ≤ k ↔ 2 * n < 2 * d * k + d := by
  obtain ⟨upper, lower, tie⟩ := roundEven_nearest n hd
  constructor
  · intro hle
    have hmul : 2 * d * roundEven n d ≤ 2 * d * k := Nat.mul_le_mul_left _ hle
    refine Nat.lt_of_not_le fun hge => ?_
    have heq : roundEven n d = k := Nat.eq_of_mul_eq_mul_left (by omega : 0 < 2 * d) (by omega)
    have := tie (.inl (by omega))
    omega
  · intro hlt
    refine Nat.le_of_not_lt fun hgt => ?_
    have hmul : 2 * d * (k + 1) ≤ 2 * d * roundEven n d := Nat.mul_le_mul_left _ hgt
    rw [Nat.mul_succ] at hmul
    omega

/-- The code fits 12 bits in range s for the intensities below 8,191 times 2 to the s (R131). -/
theorem roundEven_fits_iff (i s : Nat) : roundEven i (2 ^ (s + 1)) ≤ 4095 ↔ i < 8191 * 2 ^ s := by
  rw [roundEven_le_iff_of_odd i (Nat.two_pow_pos _) rfl, Nat.pow_succ]
  omega

/-- From 65,528 on the 16-bit intensities round to 4,096 in the full range (R132). -/
theorem roundEven_sixteen_of_top {i : Nat} (hi : 65528 ≤ i) (hmax : i < 65536) : roundEven i 16 = 4096 := by
  obtain ⟨upper, lower, tie⟩ := roundEven_nearest i (show 0 < 16 by decide)
  omega

/-- Range s is the one the intensity asks for: the smallest whose code fits, or 3 where none fits (R132). -/
def IsLeastRange (i s : Nat) : Prop :=
  s ≤ 3 ∧ (roundEven i (2 ^ (s + 1)) ≤ 4095 ∨ s = 3) ∧ ∀ r : Nat, r < s → 4095 < roundEven i (2 ^ (r + 1))

/-- The limits of R131 tell the range: range s reaches up to its own limit and starts where the next lower one ends. -/
theorem isLeastRange_of_limits {i s : Nat} (hs : s ≤ 3) (low : s = 0 ∨ 8191 * 2 ^ s ≤ 2 * i)
    (high : i < 8191 * 2 ^ s ∨ s = 3) : IsLeastRange i s := by
  refine ⟨hs, high.imp_left (roundEven_fits_iff i s).mpr, fun r hr => Nat.lt_of_not_le fun hfit => ?_⟩
  have hi : i < 8191 * 2 ^ r := (roundEven_fits_iff i r).mp hfit
  have hpow : 2 ^ r * 2 ≤ 2 ^ s := Nat.pow_le_pow_right Nat.two_pos hr
  omega

/-- Every intensity asks for a range. -/
theorem exists_isLeastRange (i : Nat) : ∃ s : Nat, IsLeastRange i s := by
  by_cases h0 : i < 8191
  · exact ⟨0, isLeastRange_of_limits (by decide) (.inl rfl) (.inl (by omega))⟩
  by_cases h1 : i < 16382
  · exact ⟨1, isLeastRange_of_limits (by decide) (.inr (by omega)) (.inl (by omega))⟩
  by_cases h2 : i < 32764
  · exact ⟨2, isLeastRange_of_limits (by decide) (.inr (by omega)) (.inl (by omega))⟩
  · exact ⟨3, isLeastRange_of_limits (by decide) (.inr (by omega)) (.inr rfl)⟩

/-- Range and code of an intensity shown in range s: the code is held at 4,095, moved by LOWCUT, and a code of 0 has
range 0 (R132). -/
def driveIn (lowcut : Bool) (i s : Nat) : Nat × Nat :=
  let p := min 4095 (roundEven i (2 ^ (s + 1)))
  let q := if lowcut = true ∧ s = 0 ∧ 1 ≤ p ∧ p ≤ 15 then (if p < 8 then 0 else 16) else p
  (if q = 0 then 0 else s, q)

/-- A search through ranges 0, 1 and 2 that falls back to 3 ends at the least range that passes the test. -/
theorem searchRange_eq_least {fits : Nat → Bool} {least : Nat} (hle : least ≤ 3) (hfit : least ≠ 3 → fits least = true)
    (hover : ∀ r : Nat, r < least → fits r = false) :
    (if fits 0 then 0 else if fits 1 then 1 else if fits 2 then 2 else 3) = least := by
  have skip (r : Nat) (hr : r < least) : ¬ fits r = true := Bool.eq_false_iff.mp (hover r hr)
  match least with
  | 0 => exact if_pos (hfit (by decide))
  | 1 => rw [if_neg (skip 0 (by decide)), if_pos (hfit (by decide))]
  | 2 => rw [if_neg (skip 0 (by decide)), if_neg (skip 1 (by decide)), if_pos (hfit (by decide))]
  | 3 => rw [if_neg (skip 0 (by decide)), if_neg (skip 1 (by decide)), if_neg (skip 2 (by decide))]
  | _ + 4 => omega

/-- The mapper shows an intensity in the range it asks for, or in RMIN where that is more (R132, R133). -/
theorem driveMap_eq_driveIn {i least : Nat} (hleast : IsLeastRange i least) (rmin : Nat) (lowcut : Bool) :
    driveMap rmin lowcut i = driveIn lowcut i (max rmin least) := by
  obtain ⟨hle, hfit, hover⟩ := hleast
  have search := searchRange_eq_least (fits := fun s => decide (roundEven i (2 ^ (s + 1)) ≤ 4095)) hle
    (fun h => decide_eq_true (hfit.resolve_right h)) (fun r hr => decide_eq_false (Nat.not_le_of_lt (hover r hr)))
  exact congrArg (fun s => driveIn lowcut i (max rmin s)) search

/-- From 65,528 on every RMIN gives range 3 with code 4,095 (R132). -/
theorem driveMap_of_top {rmin i : Nat} (hr : rmin < 4) (hi : 65528 ≤ i) (hmax : i < 65536) (lowcut : Bool) :
    driveMap rmin lowcut i = (3, 4095) := by
  have least : IsLeastRange i 3 := isLeastRange_of_limits (by decide) (.inr (by omega)) (.inr rfl)
  have range : max rmin 3 = 3 := Nat.max_eq_right (by omega)
  have code : min 4095 (roundEven i (2 ^ (3 + 1))) = 4095 := by
    rw [show 2 ^ (3 + 1) = 16 from rfl, roundEven_sixteen_of_top hi hmax]
    rfl
  rw [driveMap_eq_driveIn least, range, driveIn, code]
  cases lowcut <;> rfl

/-- Settles O19: the mapper shows an intensity in the range it asks for, the limits of the ranges are those of the tie
rule at the odd code 4,095, and from 65,528 on the code of range 3 is held. -/
theorem driveMapperFollowsTheFormula : Obligations.DriveMapperFollowsTheFormula := by
  refine ⟨fun rmin i lowcut hr hmax => ⟨?_, fun hi => ?_, fun s hs => ?_⟩, fun i d hd => roundEven_nearest i hd⟩
  · obtain ⟨least, hleast⟩ := exists_isLeastRange i
    have ⟨hle, hfit, hover⟩ := hleast
    exact ⟨least, hle, hfit, hover, driveMap_eq_driveIn hleast rmin lowcut⟩
  · exact ⟨driveMap_of_top hr hi hmax lowcut, roundEven_sixteen_of_top hi hmax⟩
  · rw [roundEven_fits_iff]
    have limit : 8191 * 2 ^ s = [8190, 16381, 32763].getD s 0 + 1 :=
      match s, hs with
      | 0, _ | 1, _ | 2, _ => rfl
    rw [limit, Nat.lt_succ_iff]

end Sys2Proof.Machine

namespace Sys2Proof.Machine

/-! ### Entries of the completion and event rings (R234, R242, R250)

Each entry is one posted write; its first word is PHASE and fields above bit 0, and the ring's producer index moves on by
one. -/

/-- A counter that counts queues no packet. -/
@[simp] theorem State.bump_link (s : State) (f : Fld) : (s.bump f).link = s.link :=
  (congrArg State.link (s.bump_rest f) :)

/-- A counter that counts leaves the rings as they are. -/
@[simp] theorem State.bump_ring (s : State) (f : Fld) : (s.bump f).ring = s.ring :=
  (congrArg State.ring (s.bump_rest f) :)

@[simp] theorem State.drained_link (s : State) (r : Nat) : (s.drained r).link = s.link := by
  unfold State.drained
  split <;> rfl

@[simp] theorem State.drained_ring (s : State) (r : Nat) : (s.drained r).ring = s.ring := by
  unfold State.drained
  split <;> rfl

@[simp] theorem State.dropFlight_link (s : State) (id : Nat) : (s.dropFlight id).link = s.link := rfl
@[simp] theorem State.dropFlight_rings (s : State) (id : Nat) : (s.dropFlight id).ring.rings = s.ring.rings := rfl

@[simp] theorem State.setRing_link (s : State) (r : Nat) (x : Ring) : (s.setRing r x).link = s.link := rfl
@[simp] theorem State.setRing_rings (s : State) (r : Nat) (x : Ring) :
    (s.setRing r x).ring.rings = s.ring.rings.set r x := rfl

theorem payloads_nil (n : Nat) : payloads n [] = [] := by
  cases n <;> rfl

/-- Up to 64 words go out as one posted write (R274). -/
theorem State.hostWrite_one (s : State) (addr w : Nat) {ws : List Nat} (h : ws.length < 64) :
    s.hostWrite addr (w :: ws) = s.emit (.write addr (w :: ws)) := by
  have all : (w :: ws).take 64 = w :: ws := List.take_of_length_le h
  have rest : (w :: ws).drop 64 = [] := List.drop_of_length_le h
  have one : payloads (w :: ws).length (w :: ws) = [w :: ws] := by
    rw [List.length_cons, payloads, all, rest, payloads_nil]
    rfl
  rw [State.hostWrite, one]
  rfl

/-- A completion entry fits one posted write. -/
theorem State.hostWrite_cplWords (s : State) (addr phase : Nat) (c : Cpl) :
    s.hostWrite addr (cplWords phase c) = s.emit (.write addr (cplWords phase c)) :=
  s.hostWrite_one addr _ (by simp)

/-- Under fields that start at bit 1 PHASE is the word's low bit. -/
theorem phaseOf_add_mod_two (i n : Nat) {fields : Nat} (h : 2 ∣ fields) :
    (phaseOf i n + fields) % 2 = phaseOf i n := by
  have bit : phaseOf i n < 2 := by unfold phaseOf; split <;> decide
  omega

/-- Writing a completion queues its entry as one packet, in its place in the ring, and no other (R234, R242). -/
theorem State.writeCpl_upQueue (s : State) (c : Cpl) : (s.writeCpl c).link.upQueue = s.link.upQueue ++
    [.write (s.hostAddr (RNG_CPL_BASE_LO_ADDR c.ring) (RNG_CPL_BASE_HI_ADDR c.ring) +
        16 * ((s.ringAt c.ring).cplProd % s.cplSize c.ring))
      (cplWords (phaseOf (s.ringAt c.ring).cplProd (s.cplSize c.ring)) (c.atTick s.tick.count))] := by
  simp only [State.writeCpl, State.hostWrite_cplWords]
  split <;> simp

/-- Writing a completion moves its ring's producer index on by one and leaves the other rings (R233). -/
theorem State.writeCpl_rings (s : State) (c : Cpl) : (s.writeCpl c).ring.rings = s.ring.rings.set c.ring
    { s.ringAt c.ring with cplProd := ((s.ringAt c.ring).cplProd + 1) % 2 ^ 32 } := by
  simp only [State.writeCpl, State.hostWrite_cplWords]
  split <;> simp

/-- The ring written holds one entry more. -/
theorem State.writeCpl_cplProd {s : State} {c : Cpl} (h : c.ring < s.ring.rings.length) :
    ((s.writeCpl c).ringAt c.ring).cplProd = ((s.ringAt c.ring).cplProd + 1) % 2 ^ 32 := by
  rw [State.ringAt, State.writeCpl_rings, List.getD_eq_getElem?_getD, List.getElem?_set_self h, Option.getD_some]

/-- The 16 bytes of an event entry (R250). -/
def State.eventWords (s : State) (ty sev inj w1 lo hi : Nat) : List Nat :=
  [phaseOf (s.rd RNG_EVT_PROD_INDEX) s.evtSize + 2 * ty + 16 * sev + 128 * inj + 256 * s.ring.evtLost +
    65536 * s.ring.evtSeq, w1 % 2 ^ 32, lo % 2 ^ 32, hi % 2 ^ 32]

section
variable {s : State} (ever : s.ring.evtEver = true) (on : s.rd RNG_EVT_CFG_EN ≠ 0) (runs : s.ring.evtHalted = false)
  (room : s.evtFull = false) (up : s.rd LNK_STAT_DOWN = 0)
include ever on runs room up

/-- With its ring on and with room, and the link up, an event is not dropped: its entry goes to the ring's next place, and
beyond that and the producer index only the ring engine's own records change (R250). -/
theorem State.postEvent_written (ty sev inj w1 lo hi : Nat) : ∃ x : RingBlock, s.postEvent ty sev inj w1 lo hi =
    { (s.emit (.write (s.hostAddr RNG_EVT_BASE_LO_ADDR RNG_EVT_BASE_HI_ADDR + 16 * (s.rd RNG_EVT_PROD_INDEX % s.evtSize))
          (s.eventWords ty sev inj w1 lo hi))).wr RNG_EVT_PROD_INDEX (s.rd RNG_EVT_PROD_INDEX + 1) with ring := x } := by
  have written : ¬ (¬ s.isOn RNG_EVT_CFG_EN ∨ s.ring.evtHalted ∨ s.evtFull ∨ s.isOn LNK_STAT_DOWN) := by
    simp [State.isOn, on, runs, room, up]
  rw [State.postEvent, if_neg (not_not_intro ever), if_neg written]
  dsimp only
  rw [State.hostWrite_one _ _ _ (by simp)]
  exact ⟨_, rfl⟩

end

/-- Settles O38: each writer queues one packet whose first word is PHASE of the producer index under even fields, and moves
that index on by one. -/
theorem phaseBitsAlternate : Obligations.PhaseBitsAlternate := by
  intro c ty sev inj w1 lo hi s hring hlen
  constructor
  case left =>
    refine ⟨_, _, _, s.writeCpl_upQueue c, ?_, State.writeCpl_cplProd (by omega)⟩
    simp only [Nat.add_assoc]
    exact phaseOf_add_mod_two _ _ (by omega)
  case right =>
    intro ever on runs room up
    obtain ⟨x, written⟩ := State.postEvent_written ever on runs room up ty sev inj w1 lo hi
    rw [written]
    refine ⟨_, _, _, rfl, ?_, State.rd_wr_same _ RNG_EVT_PROD_INDEX _⟩
    simp only [Nat.add_assoc]
    exact phaseOf_add_mod_two _ _ (by omega)

end Sys2Proof.Machine

namespace Sys2Proof.Machine

/-! ### Check values: the byte-wise feed and the bit-by-bit division of R388

Both registers are linear over XOR, so the bits of a byte may be put into the register all at once, before its eight steps. A
reflected feed is the division seen in the other order of bits. -/

theorem flag_bitOf (n i : Nat) : flag (bitOf n i) = n / 2 ^ i % 2 := by
  simp only [flag, bitOf, beq_iff_eq]
  split <;> omega

theorem bitOf_eq_testBit (n i : Nat) : bitOf n i = n.testBit i := by
  rw [Nat.testBit_eq_decide_div_mod_eq]
  rfl

theorem two_mul_xor (x y : Nat) : 2 * (x ^^^ y) = 2 * x ^^^ 2 * y := by
  simpa [Nat.shiftLeft_eq, Nat.mul_comm] using Nat.shiftLeft_xor_distrib (i := 1) (a := x) (b := y)

theorem xor_mod_two (x y : Nat) : (x ^^^ y) % 2 = x % 2 ^^^ y % 2 := Nat.xor_mod_two_pow (n := 1)

/-- Bits that do not overlap are added by XOR. -/
theorem two_pow_mul_add_eq_xor {i b : Nat} (h : b < 2 ^ i) (a : Nat) : 2 ^ i * a + b = 2 ^ i * a ^^^ b := by
  refine Nat.eq_of_testBit_eq fun j => ?_
  rw [Nat.testBit_two_pow_mul_add a h, Nat.testBit_xor, Nat.testBit_two_pow_mul]
  split
  case isTrue low => simp [Nat.not_le.mpr low]
  case isFalse high =>
    have none : b.testBit j = false :=
      Nat.testBit_lt_two_pow (Nat.lt_of_lt_of_le h (Nat.pow_le_pow_right (by decide) (Nat.not_lt.mp high)))
    simp [none, Nat.not_lt.mp high]

/-! #### One bit -/

theorem crcBitR_eq (poly c : Nat) : crcBitR poly c = c / 2 ^^^ (if c % 2 = 1 then poly else 0) := by
  unfold crcBitR
  split <;> simp

theorem crcBitN_eq (w poly c : Nat) : crcBitN w poly c = 2 * c % 2 ^ w ^^^ (if bitOf c (w - 1) then poly else 0) := by
  unfold crcBitN
  split <;> simp

theorem crcDivide_eq (w poly reg : Nat) (b : Bool) :
    crcDivide w poly reg b = 2 * reg % 2 ^ w ^^^ (if bitOf reg (w - 1) != b then poly else 0) := by
  unfold crcDivide
  split <;> simp

/-- What lies above the lowest bit moves down beside a reflected step. -/
theorem crcBitR_xor_even (poly c : Nat) {y : Nat} (even : y % 2 = 0) : crcBitR poly (c ^^^ y) = crcBitR poly c ^^^ y / 2 := by
  have low : (c ^^^ y) % 2 = c % 2 := by
    rw [xor_mod_two, even, Nat.xor_zero]
  rw [crcBitR_eq, crcBitR_eq, low, Nat.xor_div_two, Nat.xor_assoc, Nat.xor_comm (y / 2), ← Nat.xor_assoc]

/-- What lies below the highest bit moves up beside a step. -/
theorem crcBitN_xor_low {w : Nat} (hw : 0 < w) (poly c : Nat) {y : Nat} (low : y < 2 ^ (w - 1)) :
    crcBitN w poly (c ^^^ y) = crcBitN w poly c ^^^ 2 * y := by
  have top : bitOf (c ^^^ y) (w - 1) = bitOf c (w - 1) := by
    simp [bitOf_eq_testBit, Nat.testBit_lt_two_pow low]
  have fits : 2 * y < 2 ^ w := by
    have := Nat.two_pow_pred_mul_two hw
    omega
  rw [crcBitN_eq, crcBitN_eq, top, two_mul_xor, Nat.xor_mod_two_pow, Nat.mod_eq_of_lt fits,
    Nat.xor_assoc, Nat.xor_comm (2 * y), ← Nat.xor_assoc]

/-- A step of the division is a step of the register with the bit put in at its top. -/
theorem crcDivide_eq_crcBitN {w : Nat} (hw : 0 < w) (poly reg : Nat) (b : Bool) :
    crcDivide w poly reg b = crcBitN w poly (reg ^^^ flag b * 2 ^ (w - 1)) := by
  have gone : 2 * (flag b * 2 ^ (w - 1)) % 2 ^ w = 0 := by
    rw [Nat.mul_left_comm, Nat.mul_comm 2, Nat.two_pow_pred_mul_two hw, Nat.mul_mod_left]
  have top : bitOf (reg ^^^ flag b * 2 ^ (w - 1)) (w - 1) = (bitOf reg (w - 1) != b) := by
    cases b <;> simp [bitOf_eq_testBit, flag]
  rw [crcDivide_eq, crcBitN_eq, top, two_mul_xor, Nat.xor_mod_two_pow, gone, Nat.xor_zero]

/-! #### One byte -/

/-- Bits put in at the low end one by one, least significant first, may be put in at once. -/
theorem foldl_lowBits (poly k c b : Nat) :
    ((List.range k).map (bitOf b)).foldl (fun x bit => crcBitR poly (x ^^^ flag bit)) c =
      times (crcBitR poly) k (c ^^^ b % 2 ^ k) := by
  induction k generalizing c b with
  | zero => simp [times, Nat.mod_one]
  | succ k ih =>
    have shift : bitOf b ∘ Nat.succ = bitOf (b / 2) := by
      funext i
      simp only [Function.comp, bitOf_eq_testBit, Nat.testBit_div_two]
    have parts : b % 2 ^ (k + 1) = flag (bitOf b 0) ^^^ 2 * (b / 2 % 2 ^ k) := by
      have bit : flag (bitOf b 0) = b % 2 := by simp [flag_bitOf]
      have apart := two_pow_mul_add_eq_xor (i := 1) (b := b % 2) (by omega) (b / 2 % 2 ^ k)
      rw [Nat.pow_succ', Nat.mod_mul, bit, Nat.xor_comm, Nat.add_comm]
      exact apart
    rw [List.range_succ_eq_map, List.map_cons, List.map_map, List.foldl_cons, shift, ih, times, parts, ← Nat.xor_assoc,
      crcBitR_xor_even poly _ (Nat.mul_mod_right 2 _), Nat.mul_div_cancel_left _ (by decide)]

/-- Bits put in at the top one by one, most significant first, may be put in at once. -/
theorem foldl_highBits {w : Nat} (poly : Nat) {k : Nat} (hk : k ≤ w) (c b : Nat) :
    ((List.range k).map (bitOf b)).reverse.foldl (crcDivide w poly) c =
      times (crcBitN w poly) k (c ^^^ b % 2 ^ k * 2 ^ (w - k)) := by
  induction k generalizing c with
  | zero => simp [times, Nat.mod_one]
  | succ k ih =>
    have hw : 0 < w := by omega
    have split : 2 ^ k * 2 ^ (w - (k + 1)) = 2 ^ (w - 1) := by
      rw [← Nat.pow_add]
      congr 1
      omega
    have twice : 2 * (b % 2 ^ k * 2 ^ (w - (k + 1))) = b % 2 ^ k * 2 ^ (w - k) := by
      rw [Nat.mul_left_comm, ← Nat.pow_succ']
      congr 2
      omega
    have low : b % 2 ^ k * 2 ^ (w - (k + 1)) < 2 ^ (w - 1) := by
      rw [← split]
      exact Nat.mul_lt_mul_of_pos_right (Nat.mod_lt _ (Nat.two_pow_pos k)) (Nat.two_pow_pos _)
    have parts : b % 2 ^ (k + 1) * 2 ^ (w - (k + 1)) =
        flag (bitOf b k) * 2 ^ (w - 1) ^^^ b % 2 ^ k * 2 ^ (w - (k + 1)) := by
      rw [Nat.mod_pow_succ, ← flag_bitOf, Nat.add_comm, Nat.mul_comm (flag _), ← two_pow_mul_add_eq_xor low, ← split,
        Nat.add_mul, Nat.mul_right_comm]
    rw [List.range_succ, List.map_append, List.reverse_append, List.foldl_append, List.map_singleton, List.reverse_singleton,
      List.foldl_cons, List.foldl_nil, ih (by omega), times, parts, ← Nat.xor_assoc, crcBitN_xor_low hw poly _ low, twice,
      crcDivide_eq_crcBitN hw]

/-! #### The register in the other order of bits -/

theorem sum_map_two_mul {α : Type} (f : α → Nat) (l : List α) : (l.map fun i => 2 * f i).sum = 2 * (l.map f).sum := by
  induction l with
  | nil => rfl
  | cons i l ih => rw [List.map_cons, List.map_cons, List.sum_cons, List.sum_cons, ih, Nat.mul_add]

theorem reversed_succ (w n : Nat) : reversed (w + 1) n = 2 * reversed w n + flag (bitOf n w) := by
  have term : ∀ i ∈ List.range w, flag (bitOf n i) * 2 ^ (w - i) = 2 * (flag (bitOf n i) * 2 ^ (w - 1 - i)) := by
    intro i hi
    have above : w - i = w - 1 - i + 1 := by
      have := List.mem_range.mp hi
      omega
    rw [above, Nat.pow_succ', Nat.mul_left_comm]
  rw [reversed, List.range_succ, List.map_append, List.sum_append, Nat.add_sub_cancel, List.map_congr_left term,
    sum_map_two_mul]
  simp [reversed]

theorem testBit_reversed (w n i : Nat) : (reversed w n).testBit i = (decide (i < w) && n.testBit (w - 1 - i)) := by
  induction w generalizing i with
  | zero => simp [reversed]
  | succ w ih =>
    have bit : flag (bitOf n w) < 2 ^ 1 := by
      rw [flag_bitOf]
      omega
    have sum := Nat.testBit_two_pow_mul_add (reversed w n) bit i
    rw [Nat.pow_one] at sum
    rw [reversed_succ, sum]
    cases i with
    | zero => cases h : n.testBit w <;> simp [bitOf_eq_testBit, flag, h]
    | succ i => simp [ih, Nat.sub_sub, Nat.add_comm]

theorem reversed_xor (w m n : Nat) : reversed w (m ^^^ n) = reversed w m ^^^ reversed w n := by
  refine Nat.eq_of_testBit_eq fun i => ?_
  simp only [testBit_reversed, Nat.testBit_xor]
  cases decide (i < w) <;> simp

/-- A shift up is a shift down in the other order. -/
theorem reversed_two_mul_mod (w n : Nat) : reversed w (2 * n % 2 ^ w) = reversed w n / 2 := by
  refine Nat.eq_of_testBit_eq fun i => ?_
  have double (j : Nat) : (2 * n).testBit j = (decide (1 ≤ j) && n.testBit (j - 1)) := Nat.testBit_two_pow_mul (i := 1)
  simp only [testBit_reversed, Nat.testBit_div_two, Nat.testBit_mod_two_pow, double]
  by_cases h : i + 1 < w
  · have inside : i < w ∧ w - 1 - i < w ∧ 1 ≤ w - 1 - i ∧ w - 1 - (i + 1) = w - 1 - i - 1 := by omega
    obtain ⟨hi, hlt, hpos, place⟩ := inside
    simp [h, hi, hlt, hpos, place]
  · have outside : ¬ (i < w ∧ 1 ≤ w - 1 - i) := by omega
    simp only [h, decide_false, Bool.false_and, Bool.and_eq_false_imp, decide_eq_true_eq]
    intro hi _ hpos
    exact absurd ⟨hi, hpos⟩ outside

theorem reversed_mod_two {w : Nat} (hw : 0 < w) (n : Nat) : reversed w n % 2 = flag (bitOf n (w - 1)) := by
  obtain ⟨v, rfl⟩ := Nat.exists_eq_add_of_le' hw
  rw [reversed_succ, Nat.add_sub_cancel, flag_bitOf]
  omega

/-- In the other order of bits a step of the division is a reflected step with the bit put in at the low end. -/
theorem reversed_crcDivide {w : Nat} (hw : 0 < w) (poly reg : Nat) (b : Bool) :
    reversed w (crcDivide w poly reg b) = crcBitR (reversed w poly) (reversed w reg ^^^ flag b) := by
  have low : (reversed w reg ^^^ flag b) % 2 = flag (bitOf reg (w - 1) != b) := by
    rw [xor_mod_two, reversed_mod_two hw]
    cases bitOf reg (w - 1) <;> cases b <;> rfl
  have half : flag b / 2 = 0 := by cases b <;> rfl
  have zero : reversed w 0 = 0 := Nat.eq_of_testBit_eq fun i => by simp [testBit_reversed]
  rw [crcDivide_eq, crcBitR_eq, reversed_xor, reversed_two_mul_mod, low, Nat.xor_div_two, half, Nat.xor_zero]
  cases bitOf reg (w - 1) != b <;> simp [flag, zero]

/-! #### A row of the table -/

/-- A reflected row of the table, byte by byte. -/
theorem crcByTable_reflected {w : Nat} (hw : 0 < w) (poly init xorOut : Nat) (bs : List Nat) :
    crcByTable w poly init true xorOut bs =
      bs.foldl (fun c b => times (crcBitR (reversed w poly)) 8 (c ^^^ b % 2 ^ 8)) (reversed w init) ^^^ xorOut := by
  simp only [← foldl_lowBits]
  rw [← List.foldl_flatMap (f := fun b => (List.range 8).map (bitOf b)),
    List.foldl_hom (reversed w) fun reg b => (reversed_crcDivide hw poly reg b).symm]
  rfl

/-- A row that is not reflected, byte by byte. -/
theorem crcByTable_plain {w : Nat} (hw : 8 ≤ w) (poly init xorOut : Nat) (bs : List Nat) :
    crcByTable w poly init false xorOut bs =
      bs.foldl (fun c b => times (crcBitN w poly) 8 (c ^^^ b % 2 ^ 8 * 2 ^ (w - 8))) init ^^^ xorOut := by
  simp only [← foldl_highBits poly hw]
  rw [← List.foldl_flatMap (f := fun b => ((List.range 8).map (bitOf b)).reverse)]
  rfl

theorem Algo.feedAll_eq_foldl (a : Algo) (c : Nat) (bs : List Nat) : a.feedAll c bs = bs.foldl a.feed c := by
  induction bs generalizing c with
  | nil => rfl
  | cons b bs ih => exact ih _

theorem Algo.feedAll_append (a : Algo) (c : Nat) (bs ds : List Nat) : a.feedAll c (bs ++ ds) = a.feedAll (a.feedAll c bs) ds := by
  simp only [Algo.feedAll_eq_foldl, List.foldl_append]

theorem Algo.feed_crc32c : Algo.feed .crc32c =
    fun c b => times (crcBitR (reversed 32 0x1EDC6F41)) 8 (c ^^^ b % 2 ^ 8) := by
  rw [show reversed 32 0x1EDC6F41 = 0x82F63B78 by decide]
  rfl

theorem Algo.feed_crc32 : Algo.feed .crc32 =
    fun c b => times (crcBitR (reversed 32 0x04C11DB7)) 8 (c ^^^ b % 2 ^ 8) := by
  rw [show reversed 32 0x04C11DB7 = 0xEDB88320 by decide]
  rfl

theorem Algo.feed_crc16 : Algo.feed .crc16 =
    fun c b => times (crcBitN 16 0x1021) 8 (c ^^^ b % 2 ^ 8 * 2 ^ (16 - 8)) := rfl

theorem Algo.feed_crc8 : Algo.feed .crc8 =
    fun c b => times (crcBitN 8 0x1D) 8 (c ^^^ b % 2 ^ 8 * 2 ^ (8 - 8)) := by
  simp only [Nat.sub_self, Nat.pow_zero, Nat.mul_one]
  rfl

theorem reversed_ones : reversed 32 0xFFFFFFFF = 0xFFFFFFFF := by decide

theorem Algo.of_crc32c (bs : List Nat) : Algo.of .crc32c bs = crcByTable 32 0x1EDC6F41 0xFFFFFFFF true 0xFFFFFFFF bs := by
  rw [Algo.of, Algo.feedAll_eq_foldl, Algo.feed_crc32c, crcByTable_reflected (by decide), reversed_ones, Algo.final,
    Algo.init, Algo.xorOut, Nat.xor_eq]

theorem Algo.of_crc32 (bs : List Nat) : Algo.of .crc32 bs = crcByTable 32 0x04C11DB7 0xFFFFFFFF true 0xFFFFFFFF bs := by
  rw [Algo.of, Algo.feedAll_eq_foldl, Algo.feed_crc32, crcByTable_reflected (by decide), reversed_ones, Algo.final,
    Algo.init, Algo.xorOut, Nat.xor_eq]

theorem Algo.of_crc16 (bs : List Nat) : Algo.of .crc16 bs = crcByTable 16 0x1021 0xFFFF false 0 bs := by
  rw [Algo.of, Algo.feedAll_eq_foldl, Algo.feed_crc16, crcByTable_plain (by decide), Algo.final, Algo.init,
    Algo.xorOut, Nat.xor_eq]

theorem Algo.of_crc8 (bs : List Nat) : Algo.of .crc8 bs = crcByTable 8 0x1D 0xFF false 0xFF bs := by
  rw [Algo.of, Algo.feedAll_eq_foldl, Algo.feed_crc8, crcByTable_plain (by decide), Algo.final, Algo.init,
    Algo.xorOut, Nat.xor_eq]

/-- The byte-wise check value is the row of the table that the number selects (R388). -/
theorem Algo.of_eq_crcRow {n : Nat} (h : n < 4) (bs : List Nat) : (Algo.numbered n).of bs = crcRow n bs := by
  match n, h with
  | 0, _ => simp [Algo.numbered, crcRow, Algo.of_crc32c]
  | 1, _ => simp [Algo.numbered, crcRow, Algo.of_crc32]
  | 2, _ => simp [Algo.numbered, crcRow, Algo.of_crc16]
  | 3, _ => simp [Algo.numbered, crcRow, Algo.of_crc8]

/-! ### The check-value units (R388–R390) -/

/-- From s to t nothing changes but register fields of fs and the queues of the check-value units. -/
def onlyCrcUnits (s t : State) (fs : List Fld) : Prop := onlyFields s { t with crc := s.crc } fs

section
variable {s t : State} {fs : List Fld}

theorem onlyCrcUnits_refl (s : State) (fs : List Fld) : onlyCrcUnits s s fs := ⟨keepsBut_refl s fs, rfl⟩

theorem onlyCrcUnits.wr (h : onlyCrcUnits s t fs) {f : Fld} (hf : f ∈ fs) (v : Nat) : onlyCrcUnits s (t.wr f v) fs :=
  ⟨keepsBut_wr_of (t := { t with crc := s.crc }) v h.1 hf, h.2⟩

theorem onlyCrcUnits.setCrcQueue (h : onlyCrcUnits s t fs) (u : Nat) (q : List (List Nat)) :
    onlyCrcUnits s (t.setCrcQueue u q) fs := h

theorem onlyCrcUnits.keeps (h : onlyCrcUnits s t fs) : keepsBut s t fs := h.1

theorem onlyCrcUnits.rest (h : onlyCrcUnits s t fs) : { t with regs := s.regs, crc := s.crc } = s := h.2

theorem onlyCrcUnits.mono (h : onlyCrcUnits s t fs) {es : List Fld} (hs : ∀ f ∈ fs, f ∈ es) : onlyCrcUnits s t es :=
  ⟨keepsBut_mono h.keeps hs, h.rest⟩

theorem onlyCrcUnits.trans {w : State} (h : onlyCrcUnits s t fs) (k : onlyCrcUnits t w fs) : onlyCrcUnits s w fs := by
  refine ⟨keepsBut_trans h.keeps k.keeps, ?_⟩
  have rest := h.rest
  rw [← k.rest] at rest
  exact rest

theorem onlyCrcUnits.life (h : onlyCrcUnits s t fs) : t.life = s.life := (congrArg State.life h.rest :)

theorem onlyCrcUnits.kept (h : onlyCrcUnits s t fs) : t.pending = s.pending ∧ t.life = s.life ∧ t.flash = s.flash :=
  ⟨(congrArg State.pending h.rest :), h.life, (congrArg State.flash h.rest :)⟩

end

/-- A command whose meaning keeps queue, life cycle and flash gives its meaning's state. -/
theorem runs_kept {s t : State} (hr : s.life.released = true)
    (h : t.pending = s.pending ∧ t.life = s.life ∧ t.flash = s.flash) : runs true s t = .next t := by
  obtain ⟨pending, life, flash⟩ := h
  rw [runs_true hr, ← pending, ← life, ← flash]

/-! #### VALUE -/

theorem times_of_keeps {P : Nat → Prop} {f : Nat → Nat} (keeps : ∀ x, P x → P (f x)) (n : Nat) {x : Nat} (h : P x) :
    P (times f n x) := by
  induction n generalizing x with
  | zero => exact h
  | succ n ih => exact ih (keeps x h)

theorem crcBitR_lt {w poly c : Nat} (hp : poly < 2 ^ w) (hc : c < 2 ^ w) : crcBitR poly c < 2 ^ w := by
  rw [crcBitR_eq]
  exact Nat.xor_lt_two_pow (by omega) (by split <;> omega)

theorem crcBitN_lt {w poly : Nat} (hp : poly < 2 ^ w) (c : Nat) : crcBitN w poly c < 2 ^ w := by
  rw [crcBitN_eq]
  exact Nat.xor_lt_two_pow (Nat.mod_lt _ (Nat.two_pow_pos w)) (by split <;> omega)

/-- A byte keeps the running value within the algorithm's width. -/
theorem Algo.feed_lt (a : Algo) {c : Nat} (hc : c < 2 ^ a.width) (b : Nat) : a.feed c b < 2 ^ a.width := by
  cases a with
  | crc32c | crc32 =>
    exact times_of_keeps (P := (· < 2 ^ 32)) (fun _ => crcBitR_lt (by decide)) 8
      (Nat.xor_lt_two_pow hc (Nat.lt_trans (Nat.mod_lt b (by decide)) (by decide)))
  | crc16 =>
    exact times_of_keeps (P := (· < 2 ^ 16)) (fun x _ => crcBitN_lt (by decide) x) 8 (Nat.xor_lt_two_pow hc (by omega))
  | crc8 =>
    exact times_of_keeps (P := (· < 2 ^ 8)) (fun x _ => crcBitN_lt (by decide) x) 8 (Nat.xor_lt_two_pow hc (by omega))

theorem Algo.feedAll_lt (a : Algo) {c : Nat} (hc : c < 2 ^ a.width) (bs : List Nat) : a.feedAll c bs < 2 ^ a.width := by
  induction bs generalizing c with
  | nil => exact hc
  | cons b bs ih => exact ih (a.feed_lt hc b)

theorem Algo.width_le (a : Algo) : a.width ≤ 32 := by cases a <;> decide

theorem Algo.init_lt_word (a : Algo) : a.init < 2 ^ 32 := by cases a <;> decide

theorem Algo.init_lt (a : Algo) : a.init < 2 ^ a.width := by cases a <;> decide

theorem crcAlgo_key_ne (u : Nat) : (CRC_CTL_ALGO u).key ≠ (CRC_VALUE_VALUE u).key := by
  simp only [Fld.key, CRC_CTL_ALGO, CRC_VALUE_VALUE]
  omega

/-- What changes VALUE alone leaves the algorithm. -/
theorem keepsBut_crcAlgo {s t : State} {u : Nat} (h : keepsBut s t [CRC_VALUE_VALUE u]) :
    t.rd (CRC_CTL_ALGO u) = s.rd (CRC_CTL_ALGO u) :=
  h _ (by simpa using crcAlgo_key_ne u)

theorem onlyCrcUnits.crcAlgo {s t : State} {u : Nat} (h : onlyCrcUnits s t [CRC_VALUE_VALUE u]) :
    t.crcAlgo u = s.crcAlgo u :=
  congrArg Algo.numbered (keepsBut_crcAlgo h.keeps)

/-- VALUE reads as written, cut to the algorithm's width (R390). -/
theorem State.crcValue_wr (s : State) (u : Nat) {v : Nat} (h : v < 2 ^ 32) :
    (s.wr (CRC_VALUE_VALUE u) v).crcValue u = v % 2 ^ (s.crcAlgo u).width := by
  have algo : (s.wr (CRC_VALUE_VALUE u) v).crcAlgo u = s.crcAlgo u :=
    congrArg Algo.numbered (keepsBut_crcAlgo (keepsBut_wr s _ v))
  rw [State.crcValue, State.rd_wr_same, algo]
  exact congrArg (· % _) (Nat.mod_eq_of_lt h)

theorem State.crcFold_only (s : State) (u : Nat) (bs : List Nat) : onlyCrcUnits s (s.crcFold u bs) [CRC_VALUE_VALUE u] :=
  (onlyCrcUnits_refl s _).wr (by simp) _

theorem State.crcFold_crcValue (s : State) (u : Nat) (bs : List Nat) :
    (s.crcFold u bs).crcValue u = (s.crcAlgo u).feedAll (s.crcValue u) bs := by
  have fits := (s.crcAlgo u).feedAll_lt (Nat.mod_lt (s.rd (CRC_VALUE_VALUE u)) (Nat.two_pow_pos _)) bs
  have word := Nat.lt_of_lt_of_le fits (Nat.pow_le_pow_right (by decide) (s.crcAlgo u).width_le)
  rw [State.crcFold, State.crcValue_wr _ _ word, Nat.mod_eq_of_lt fits]
  rfl

/-! #### The queue -/

/-- VALUE once everything that waits at unit u is folded in. -/
def State.crcPending (s : State) (u : Nat) : Nat := (s.crcAlgo u).feedAll (s.crcValue u) (s.crcQueue u).flatten

theorem State.setCrcQueue_crcQueue {s : State} {u : Nat} (hu : u < s.crc.queues.length) (q : List (List Nat)) :
    (s.setCrcQueue u q).crcQueue u = q := by
  simp [State.crcQueue, State.setCrcQueue, hu]

theorem State.setCrcQueue_crcPending {s : State} {u : Nat} (hu : u < s.crc.queues.length) (q : List (List Nat)) :
    (s.setCrcQueue u q).crcPending u = (s.crcAlgo u).feedAll (s.crcValue u) q.flatten := by
  rw [State.crcPending, State.setCrcQueue_crcQueue hu]
  rfl

/-- Writes folded in one after the other: VALUE alone changes, by the bytes in their order (R389). -/
theorem State.foldl_crcFold (s : State) (u : Nat) (q : List (List Nat)) :
    onlyCrcUnits s (q.foldl (fun x bs => x.crcFold u bs) s) [CRC_VALUE_VALUE u] ∧
    (q.foldl (fun x bs => x.crcFold u bs) s).crc = s.crc ∧
    (q.foldl (fun x bs => x.crcFold u bs) s).crcValue u = (s.crcAlgo u).feedAll (s.crcValue u) q.flatten := by
  induction q generalizing s with
  | nil => exact ⟨onlyCrcUnits_refl s _, rfl, rfl⟩
  | cons bs q ih =>
    obtain ⟨only, queues, value⟩ := ih (s.crcFold u bs)
    refine ⟨(s.crcFold_only u bs).trans only, queues, value.trans ?_⟩
    rw [s.crcFold_crcValue, (s.crcFold_only u bs).crcAlgo, List.flatten_cons, Algo.feedAll_append]

theorem State.crcDrain_only (s : State) (u : Nat) : onlyCrcUnits s (s.crcDrain u) [CRC_VALUE_VALUE u] :=
  have ⟨only, _, _⟩ := s.foldl_crcFold u (s.crcQueue u)
  only.setCrcQueue u []

theorem State.crcDrain_queues (s : State) (u : Nat) : (s.crcDrain u).crc.queues = s.crc.queues.set u [] :=
  have ⟨_, crc, _⟩ := s.foldl_crcFold u (s.crcQueue u)
  congrArg (fun c => c.queues.set u []) crc

theorem State.crcDrain_crcValue (s : State) (u : Nat) : (s.crcDrain u).crcValue u = s.crcPending u :=
  have ⟨_, _, value⟩ := s.foldl_crcFold u (s.crcQueue u)
  value

/-- A data write puts its bytes behind what waits, of which the oldest has been folded in where the queue was full (R389). -/
theorem State.crcData_eq (s : State) (u n v : Nat) : ∃ (x : State) (q : List (List Nat)),
    s.crcData u n v = x.setCrcQueue u (q ++ [leBytes n v]) ∧ onlyCrcUnits s x [CRC_VALUE_VALUE u] ∧ x.crc = s.crc ∧
    (s.crcAlgo u).feedAll (x.crcValue u) q.flatten = s.crcPending u := by
  unfold State.crcData State.crcPending
  split
  next a b rest full =>
    refine ⟨s.crcFold u a, b :: rest, rfl, s.crcFold_only u a, rfl, ?_⟩
    simp only [full, s.crcFold_crcValue, List.flatten_cons, Algo.feedAll_append]
  next => exact ⟨s, s.crcQueue u, rfl, onlyCrcUnits_refl s _, rfl, rfl⟩

theorem State.crcData_room {s : State} {u : Nat} (room : (s.crcQueue u).length < 2) (n v : Nat) :
    s.crcData u n v = s.setCrcQueue u (s.crcQueue u ++ [leBytes n v]) := by
  unfold State.crcData
  split
  next full =>
    simp only [full, List.length_cons] at room
    omega
  next => rfl

theorem State.crcData_only (s : State) (u n v : Nat) : onlyCrcUnits s (s.crcData u n v) [CRC_VALUE_VALUE u] := by
  obtain ⟨x, q, eq, only, -⟩ := s.crcData_eq u n v
  exact eq ▸ only.setCrcQueue u _

theorem State.crcData_length (s : State) (u n v : Nat) : (s.crcData u n v).crc.queues.length = s.crc.queues.length := by
  obtain ⟨x, q, eq, -, crc, -⟩ := s.crcData_eq u n v
  simp [eq, State.setCrcQueue, crc]

theorem State.crcData_crcPending {s : State} {u : Nat} (hu : u < s.crc.queues.length) (n v : Nat) :
    (s.crcData u n v).crcPending u = (s.crcAlgo u).feedAll (s.crcPending u) (leBytes n v) := by
  obtain ⟨x, q, eq, only, crc, pending⟩ := s.crcData_eq u n v
  rw [eq, State.setCrcQueue_crcPending (crc ▸ hu), only.crcAlgo, List.flatten_append, List.flatten_singleton,
    Algo.feedAll_append, pending]

/-- Unit u started with algorithm algo. -/
def State.crcStarted (s : State) (u algo : Nat) : State :=
  ((s.crcDrain u).wr (CRC_CTL_ALGO u) algo).wr (CRC_VALUE_VALUE u) (Algo.numbered algo).init

/-- A write of CTL with START (R389, R390). -/
theorem State.crcCtl_start (s : State) (u : Nat) {algo : Nat} (h : algo < 4) :
    s.crcCtl u (Nat.lor (algo + 4) 4) = s.crcStarted u algo := by
  have word : Nat.lor (algo + 4) 4 = algo + 4 := by
    match algo, h with
    | 0, _ | 1, _ | 2, _ | 3, _ => rfl
  have start : bitOf (algo + 4) 2 = true := by
    simp only [bitOf, beq_iff_eq]
    omega
  have low : (algo + 4) % 4 = algo := by omega
  have taken : ((s.crcDrain u).wr (CRC_CTL_ALGO u) algo).rd (CRC_CTL_ALGO u) = algo :=
    (State.rd_wr_same ..).trans (Nat.mod_eq_of_lt h)
  rw [State.crcCtl, word, low, if_pos start, State.crcAlgo, taken]
  rfl

theorem State.crcStarted_only (s : State) (u algo : Nat) :
    onlyCrcUnits s (s.crcStarted u algo) [CRC_CTL_ALGO u, CRC_VALUE_VALUE u] :=
  (((s.crcDrain_only u).mono (by simp)).wr (by simp) _).wr (by simp) _

theorem State.crcStarted_algo (s : State) (u : Nat) {algo : Nat} (h : algo < 4) :
    (s.crcStarted u algo).rd (CRC_CTL_ALGO u) = algo :=
  calc (s.crcStarted u algo).rd (CRC_CTL_ALGO u)
    _ = ((s.crcDrain u).wr (CRC_CTL_ALGO u) algo).rd (CRC_CTL_ALGO u) := State.rd_wr_other _ _ _ _ (crcAlgo_key_ne u)
    _ = algo % 2 ^ 2 := State.rd_wr_same ..
    _ = algo := Nat.mod_eq_of_lt h

theorem State.crcStarted_rd_value (s : State) (u algo : Nat) :
    (s.crcStarted u algo).rd (CRC_VALUE_VALUE u) = (Algo.numbered algo).init :=
  (State.rd_wr_same ..).trans (Nat.mod_eq_of_lt (Algo.init_lt_word _))

theorem State.crcStarted_queues (s : State) (u algo : Nat) :
    (s.crcStarted u algo).crc.queues = s.crc.queues.set u [] := s.crcDrain_queues u

theorem State.crcQueue_nil_of_set {s t : State} {u : Nat} (hu : u < s.crc.queues.length)
    (h : t.crc.queues = s.crc.queues.set u []) : t.crcQueue u = [] := by
  simp [State.crcQueue, h, hu]

theorem State.crcPending_of_nil {s : State} {u : Nat} (h : s.crcQueue u = []) : s.crcPending u = s.crcValue u := by
  rw [State.crcPending, h]
  rfl

/-- Nothing waits at a unit just started, and its running value is the algorithm's initial value. -/
theorem State.crcStarted_crcPending {s : State} {u algo : Nat} (hu : u < s.crc.queues.length) (h : algo < 4) :
    (s.crcStarted u algo).crcPending u = (Algo.numbered algo).init := by
  rw [State.crcPending_of_nil (State.crcQueue_nil_of_set hu (s.crcStarted_queues u algo)), State.crcValue,
    s.crcStarted_rd_value, State.crcAlgo, s.crcStarted_algo u h, Nat.mod_eq_of_lt (Algo.init_lt _)]

theorem State.crcPut_only (s : State) (u v : Nat) : onlyCrcUnits s (s.crcPut u v) [CRC_VALUE_VALUE u] :=
  (s.crcDrain_only u).wr (by simp) v

/-- A read answers for everything written before (R389, R390). -/
theorem State.crcRead_data (s : State) (u : Nat) (result : Bool) : (s.crcRead u result).data =
    if result then (s.crcAlgo u).final (s.crcPending u) else s.crcPending u := by
  rw [← (s.crcDrain_only u).crcAlgo, ← s.crcDrain_crcValue u]
  rfl

/-! #### Commands -/

section
variable {s : State} {u : Nat} (hr : s.life.released = true) (hu : u < 4)
include hr hu

theorem exec_crcStart {algo : Nat} (ha : algo < 4) : exec (.crcStart u (algo + 4)) s = .next (s.crcStarted u algo) := by
  have wf : (Instr.crcStart u (algo + 4)).wf = true := by
    simp [Instr.wf, hu]
    omega
  calc exec (.crcStart u (algo + 4)) s
    _ = runs (Instr.crcStart u (algo + 4)).wf s (s.crcCtl u (Nat.lor (algo + 4) 4)) := rfl
    _ = .next (s.crcStarted u algo) := by rw [wf, s.crcCtl_start u ha, runs_kept hr (s.crcStarted_only u algo).kept]

theorem exec_crcDataWrite {n v : Nat} (hn : n = 1 ∨ n = 2 ∨ n = 4) (hv : v < 256 ^ n) :
    exec (.crcDataWrite u n v) s = .next (s.crcData u n v) := by
  have wf : (Instr.crcDataWrite u n v).wf = true := by simp [Instr.wf, hu, hn, hv]
  calc exec (.crcDataWrite u n v) s
    _ = runs (Instr.crcDataWrite u n v).wf s (s.crcData u n v) := rfl
    _ = .next (s.crcData u n v) := by rw [wf, runs_kept hr (s.crcData_only u n v).kept]

theorem exec_crcValueWrite {v : Nat} (hv : v < 2 ^ 32) : exec (.crcValueWrite u v) s = .next (s.crcPut u v) := by
  have wf : (Instr.crcValueWrite u v).wf = true := by
    simp [Instr.wf, hu]
    omega
  calc exec (.crcValueWrite u v) s
    _ = runs (Instr.crcValueWrite u v).wf s (s.crcPut u v) := rfl
    _ = .next (s.crcPut u v) := by rw [wf, runs_kept hr (s.crcPut_only u v).kept]

theorem exec_crcRead (result : Bool) : exec (.crcRead u result) s = .next (s.crcRead u result) := by
  have wf : (Instr.crcRead u result).wf = true := by simp [Instr.wf, hu]
  calc exec (.crcRead u result) s
    _ = runs (Instr.crcRead u result).wf s (s.crcRead u result) := rfl
    _ = .next (s.crcRead u result) := by rw [wf]; exact runs_kept hr (s.crcDrain_only u).kept

end

/-! #### A run of commands -/

theorem execAll_cons {c : Instr} {s t : State} (h : exec c s = .next t) (cs : List Instr) :
    execAll (c :: cs) s = execAll cs t := by
  rw [execAll, h]

theorem execAll_append {cs : List Instr} {s t : State} (h : execAll cs s = .next t) (ds : List Instr) :
    execAll (cs ++ ds) s = execAll ds t := by
  induction cs generalizing s with
  | nil =>
    cases h
    rfl
  | cons c cs ih =>
    rw [execAll] at h
    split at h
    next x hx => rw [List.cons_append, execAll_cons hx, ih h]
    next stops => exact absurd h (stops t)

/-- Any number of data writes feed their bytes in order (R389). -/
theorem execAll_crcDataWrites {u : Nat} (hu : u < 4) (ws : List (Nat × Nat)) (s : State) (hr : s.life.released = true)
    (hlen : s.crc.queues.length = 4) (hws : ∀ w ∈ ws, (w.1 = 1 ∨ w.1 = 2 ∨ w.1 = 4) ∧ w.2 < 256 ^ w.1) :
    ∃ t : State, execAll (ws.map fun w => .crcDataWrite u w.1 w.2) s = .next t ∧ onlyCrcUnits s t [CRC_VALUE_VALUE u] ∧
      t.crcPending u = (s.crcAlgo u).feedAll (s.crcPending u) (ws.flatMap fun w => leBytes w.1 w.2) := by
  induction ws generalizing s with
  | nil => exact ⟨s, rfl, onlyCrcUnits_refl s _, rfl⟩
  | cons w ws ih =>
    obtain ⟨⟨hn, hv⟩, hws⟩ := List.forall_mem_cons.mp hws
    have first := s.crcData_only u w.1 w.2
    obtain ⟨t, run, rest, pending⟩ := ih (s.crcData u w.1 w.2) (first.life ▸ hr) (s.crcData_length u w.1 w.2 ▸ hlen) hws
    refine ⟨t, ?_, first.trans rest, ?_⟩
    · rw [List.map_cons, execAll_cons (exec_crcDataWrite hr hu hn hv), run]
    · rw [pending, first.crcAlgo, State.crcData_crcPending (by omega), List.flatMap_cons, Algo.feedAll_append]

/-- CRC_RUN without a start value of its own takes the same rows (R253, R388). -/
theorem crcRunValue_eq_crcRow {f : Flight} (fresh : f.arg 1 / 256 % 2 = 0) (bs : List Nat) :
    crcRunValue f bs = crcRow (f.arg 1 % 4) bs := by
  have number : bitsOf (f.arg 1) 0 2 = f.arg 1 % 4 := by simp [bitsOf]
  have unset : bitOf (f.arg 1) 8 = false := by simp [bitOf, fresh]
  rw [crcRunValue, number, unset]
  exact Algo.of_eq_crcRow (Nat.mod_lt _ (by decide)) bs

/-- A unit started, fed and asked for RESULT answers the row of the table (R388–R390). -/
theorem execAll_crcUnit {u algo : Nat} {ws : List (Nat × Nat)} {s : State} (hr : s.life.released = true) (hu : u < 4)
    (ha : algo < 4) (hlen : s.crc.queues.length = 4) (hws : ∀ w ∈ ws, (w.1 = 1 ∨ w.1 = 2 ∨ w.1 = 4) ∧ w.2 < 256 ^ w.1) :
    ∃ t : State, execAll ([.crcStart u (algo + 4)] ++ ws.map (fun w => .crcDataWrite u w.1 w.2) ++ [.crcRead u true]) s = .next t ∧
      t.data = crcRow algo (ws.flatMap fun w => leBytes w.1 w.2) ∧ t.rd (CRC_CTL_ALGO u) = algo ∧
      keepsBut s t [CRC_CTL_ALGO u, CRC_VALUE_VALUE u] ∧ { t with regs := s.regs, crc := s.crc, data := s.data } = s := by
  have started := s.crcStarted_only u algo
  have number := s.crcStarted_algo u ha
  have length : (s.crcStarted u algo).crc.queues.length = 4 := by rw [s.crcStarted_queues, List.length_set, hlen]
  obtain ⟨t, run, fed, pending⟩ :=
    execAll_crcDataWrites hu ws (s.crcStarted u algo) (started.life ▸ hr) length hws
  have drained := fed.trans (t.crcDrain_only u)
  have only := started.trans (drained.mono (by simp))
  have released : t.life.released = true := by rw [fed.life, started.life, hr]
  refine ⟨t.crcRead u true, ?_, ?_, (keepsBut_crcAlgo drained.keeps).trans number, only.keeps, ?_⟩
  · rw [List.append_assoc, List.singleton_append, execAll_cons (exec_crcStart hr hu ha), execAll_append run,
      execAll_cons (exec_crcRead released hu true), execAll]
  · rw [t.crcRead_data, if_pos rfl, pending, fed.crcAlgo, State.crcStarted_crcPending (by omega) ha, State.crcAlgo, number]
    exact Algo.of_eq_crcRow ha _
  · have data : { t.crcDrain u with regs := s.regs, crc := s.crc, data := s.data } = { s with data := s.data } :=
      congrArg (fun x : State => { x with data := s.data }) only.rest
    exact data

/-- Settles O54: a unit's running value is linear over XOR, so the byte-wise feed is the division bit by bit; the bytes that
wait and VALUE together hold the running value, which every data write moves on by its own bytes. -/
theorem crcUnitsComputeTheirAlgorithm : Obligations.CrcUnitsComputeTheirAlgorithm := by
  refine ⟨⟨?run, ?start, ?data, ?crcRun, ?checkValues⟩, ?value⟩
  case run => exact fun u algo ws s hr hu ha hlen hws => execAll_crcUnit hr hu ha hlen hws
  case start =>
    intro u algo s hr hu ha hlen
    have only := s.crcStarted_only u algo
    have init : (Algo.numbered algo).init = [0xFFFFFFFF, 0xFFFFFFFF, 0xFFFF, 0xFF].getD algo 0 :=
      match algo, ha with
      | 0, _ | 1, _ | 2, _ | 3, _ => rfl
    exact ⟨_, exec_crcStart hr hu ha, s.crcStarted_algo u ha, (s.crcStarted_rd_value u algo).trans init,
      s.crcStarted_queues u algo, only.keeps, only.rest⟩
  case data =>
    intro u n v s hr hu hn hv hlen room
    refine ⟨_, exec_crcDataWrite hr hu hn hv, ?_, ?_⟩ <;> rw [State.crcData_room room] <;> rfl
  case crcRun => exact fun f bs _ fresh => crcRunValue_eq_crcRow fresh bs
  case checkValues => decide +kernel
  case value =>
    intro u v s hr hu hv hlen
    have only := s.crcPut_only u v
    have empty : (s.crcPut u v).crcQueue u = [] := State.crcQueue_nil_of_set (by omega) (s.crcDrain_queues u)
    refine ⟨_, exec_crcValueWrite hr hu hv, (State.rd_wr_same ..).trans (Nat.mod_eq_of_lt hv), empty, only.keeps, _,
      exec_crcRead (only.life ▸ hr) hu false, ?_⟩
    rw [State.crcRead_data, if_neg (by decide), State.crcPending_of_nil empty, State.crcPut, State.crcValue_wr _ u hv,
      (s.crcDrain_only u).crcAlgo]
    rfl

end Sys2Proof.Machine

namespace Sys2Proof.Machine

/-! ### Accesses through the alias of a group with no member (R28, R453)

A broadcast write is put beside the broadcast read above; both then meet an empty list of members. -/

/-! #### Changes to register fields, one after another -/

theorem onlyFields_mono {s t : State} {fs es : List Fld} (h : onlyFields s t fs) (hs : ∀ f ∈ fs, f ∈ es) :
    onlyFields s t es :=
  ⟨keepsBut_mono h.1 hs, h.2⟩

theorem onlyFields_trans {s t u : State} {fs : List Fld} (h : onlyFields s t fs) (k : onlyFields t u fs) :
    onlyFields s u fs :=
  ⟨keepsBut_trans h.1 k.1, (congrArg (fun x : State => { x with regs := s.regs }) k.2).trans h.2⟩

/-! #### A broadcast write, as the host and JTAG make it -/

/-- Short of FIELD JTAG may write every register but BST_START (R393). -/
theorem State.jtagWrites_of_lt_field {s : State} {off : Nat} (hl : s.life.state < 4) (ho : off ≠ 0x3E0004) :
    s.jtagWrites off = true := by
  have field : s.life.state ≠ 4 := Nat.ne_of_lt hl
  cases full : fullState s.life.state
  case true => simp [State.jtagWrites, State.jtagLevel, full]
  case false => simp [State.jtagWrites, State.jtagLevel, full, field, ho]

/-- The host, and JTAG out of reset where it may, write an aligned word to the window (R6, R230, R393). -/
theorem State.regWrite_aligned {s : State} {acc : Accessor} {off : Nat} (ha : acc = .host ∨ acc = .jtag)
    (hj : acc = .jtag → s.jtag.held = false ∧ s.jtagWrites off = true) (h4 : off % 4 = 0) (v : Nat) :
    s.regWrite acc off v = s.windowWrite false off v := by
  obtain rfl | rfl := ha
  · simp [State.regWrite, State.hostWriteReg, h4]
  · obtain ⟨held, writes⟩ := hj rfl
    simp [State.regWrite, State.hostWriteReg, h4, held, writes]

/-- The alias window lies clear of the registers with a behaviour of their own (R24). -/
theorem State.windowRest_alias (s : State) (byEngine : Bool) {off : Nat} (lo : 0x240000 ≤ off) (hi : off < 0x250000)
    (v : Nat) : s.windowRest byEngine off v = s.aliasWrite ((off - 0x240000) / 0x1000) (off % 0x1000) v := by
  have link : LNK_CTL_EN.off < 0x240000 := by decide
  unfold State.windowRest
  simp (disch := omega) only [if_neg, if_pos]

/-- A write in the window of a broadcast page is a write through that page, and never reaches the life cycle (R24, R328). -/
theorem State.windowWrite_alias (s : State) (byEngine : Bool) {k off : Nat} (hk : k < 16) (ho : off < 4096) (v : Nat) :
    s.windowWrite byEngine (aliasAt k off) v = { s.aliasWrite k off v with life := s.life } := by
  have page : (aliasAt k off - 0x240000) / 0x1000 = k := by unfold aliasAt; omega
  have within : aliasAt k off % 0x1000 = off := by unfold aliasAt; omega
  rw [State.windowWrite, if_neg (by unfold aliasAt; omega),
    State.windowRest_alias _ _ (by unfold aliasAt; omega) (by unfold aliasAt; omega), page, within]

/-- BROADCAST_WRITE by one of them writes through the page's members (R25). -/
theorem exec_broadcastWrite {s : State} {acc : Accessor} {page off v : Nat} (hr : s.life.released = true)
    (ha : acc = .host ∨ acc = .jtag) (hj : acc = .jtag → s.jtag.held = false ∧ s.life.state < 4)
    (hp : pageOk page = true) (ho : off < 4096) (h4 : off % 4 = 0) (hv : v < 2 ^ 32) :
    exec (.broadcastWrite acc page off v) s =
      .next { s.aliasWrite page off v with pending := s.pending, life := s.life } := by
  have lt : page < 16 := by have := pageOk_iff.mp hp; omega
  have wf : (Instr.broadcastWrite acc page off v).wf = true := by
    show (accOk acc && pageOk page && decide (off < 0x1000) && off % 4 == 0 && decide (v < 2 ^ 32)) = true
    obtain rfl | rfl := ha <;> simpa [accOk, hp, ho, h4] using hv
  have jtag (h : acc = .jtag) : s.jtag.held = false ∧ s.jtagWrites (aliasAt page off) = true :=
    ⟨(hj h).1, State.jtagWrites_of_lt_field (hj h).2 (by unfold aliasAt; omega)⟩
  have write : s.regWrite acc (aliasAt page off) v = { s.aliasWrite page off v with life := s.life } := by
    rw [State.regWrite_aligned ha jtag (by unfold aliasAt; omega), State.windowWrite_alias s false lt ho]
  calc exec (.broadcastWrite acc page off v) s
    _ = advances true s (s.regWrite acc (aliasAt page off) v) := congrArg (advances · s _) wf
    _ = _ := by rw [write, advances_true hr]

/-! #### No member -/

theorem regionsOf_zero : regionsOf 0 = [] := by decide

/-- A group whose mask is 0 has an alias, 0x10 and its number, and no member (R24, R27, R30). -/
theorem State.aliasOf_emptyGroup {s : State} {g : Nat} (hg : g < 8) (hlo : s.rd (TCK_GRP_LO_MEMBERS g) = 0)
    (hhi : s.rd (TCK_GRP_HI_MEMBERS g) = 0) : s.aliasOf (8 + g) = some (16 + g, []) := by
  have number : 0x08 + (8 + g) = 16 + g := by omega
  have group : 8 + g - 8 = g := by omega
  unfold State.aliasOf
  rw [if_neg (by omega), if_neg (by omega), if_neg (by omega), if_pos (by omega), number, group, hlo, hhi]
  exact congrArg (fun ms => some (16 + g, ms)) regionsOf_zero

/-- A read that meets no member answers 0 and sets EMPTY (R28). -/
theorem State.aliasRead_empty {s : State} {k ali : Nat} (h : s.aliasOf k = some (ali, [])) (off : Nat) :
    s.aliasRead k off = (0, s.bcastFlag TCK_BCAST_MIXED_EMPTY ali off) := by
  simp only [State.aliasRead, h]

/-- A write that meets no member sets EMPTY and, on A1, MIXED (R28, R453). -/
theorem State.aliasWrite_empty {s : State} {k ali : Nat} (h : s.aliasOf k = some (ali, [])) (a1 : s.isA1 = true)
    (off v : Nat) : s.aliasWrite k off v =
      (s.bcastFlag TCK_BCAST_MIXED_EMPTY ali off).bcastFlag TCK_BCAST_MIXED_MIXED ali off := by
  simp only [State.aliasWrite, h, a1, if_true]

/-- Two flags set by one access change no field but themselves and the access shown (R30). -/
theorem State.bcastFlag_bcastFlag_onlyFields (s : State) (f g : Fld) (ali off : Nat) :
    onlyFields s ((s.bcastFlag f ali off).bcastFlag g ali off) [f, g, TCK_BCAST_MIXED_ALIAS, TCK_BCAST_MIXED_OFFSET] :=
  onlyFields_trans (onlyFields_mono (State.bcastFlag_onlyFields s f ali off) (by simp))
    (onlyFields_mono (State.bcastFlag_onlyFields _ g ali off) (by simp))

/-- Settles O13: an empty mask leaves both accesses the branch without a member, which reads and writes no region; the
flag set last there, MIXED, leaves EMPTY as it was set. -/
theorem emptyGroupAlias : Obligations.EmptyGroupAlias := by
  intro acc g off v s hr ha hg ho h4 hv hj hstep hlo hhi
  have page : pageOk (8 + g) = true := pageOk_iff.mpr (by omega)
  have ali : 16 + g < 256 := by omega
  have noMember := State.aliasOf_emptyGroup hg hlo hhi
  have empty := State.bcastFlag_rd_flag s (f := TCK_BCAST_MIXED_EMPTY) (16 + g) off rfl (by decide) (by decide)
  refine ⟨?read, ?write⟩
  case read =>
    have read := exec_broadcastRead hr ha (fun h => (hj h).1) page ho h4
    rw [State.aliasRead_empty noMember] at read
    exact ⟨_, read, rfl, empty, State.bcastFlag_rd_alias s _ ali, State.bcastFlag_rd_offset s _ ho,
      State.bcastFlag_onlyFields s _ _ off⟩
  case write =>
    have a1 : s.isA1 = true := beq_iff_eq.mpr hstep
    have write : exec (.broadcastWrite acc (8 + g) off v) s = .next
        ((s.bcastFlag TCK_BCAST_MIXED_EMPTY (16 + g) off).bcastFlag TCK_BCAST_MIXED_MIXED (16 + g) off) := by
      rw [exec_broadcastWrite hr ha hj page ho h4 hv, State.aliasWrite_empty noMember a1]
      rfl
    have second := State.bcastFlag_onlyFields (s.bcastFlag TCK_BCAST_MIXED_EMPTY (16 + g) off) TCK_BCAST_MIXED_MIXED
      (16 + g) off
    have kept := (second.1 TCK_BCAST_MIXED_EMPTY (by decide)).trans empty
    exact ⟨_, write, kept, State.bcastFlag_rd_flag _ _ off rfl (by decide) (by decide), State.bcastFlag_rd_alias _ _ ali,
      State.bcastFlag_rd_offset _ _ ho, State.bcastFlag_bcastFlag_onlyFields s _ _ _ off⟩

end Sys2Proof.Machine
